-- ==== Sys2Proof/Word.lean ====
section
/-! DEFINITION. The machine words of the SG-40 and its numbered things: bytes and 16-bit fields (R183), the index types
of the groups, actuators, slots, rows, inputs, channels and stations, and tables of a fixed number of like things. -/

namespace Sys2Proof

/-- One byte of a frame or record (R183). -/
abbrev Byte := BitVec 8

/-- A two-byte field, most significant byte first (R183); signed where its record says so. -/
abbrev Half := BitVec 16

/-- A value of the 24-bit capture counter (R153, R154). -/
abbrev Stamp := BitVec 24

/-- G0 to G4. -/
abbrev GroupId := Fin 5

/-- A0 to A15, and with them OC0 to OC15 and DO0 to DO15. -/
abbrev ActId := Fin 16

/-- CC0 to CC15. -/
abbrev CaptureId := Fin 16

/-- DI0 to DI23. -/
abbrev InputId := Fin 24

/-- Slot 0 to slot 127. -/
abbrev SlotId := Fin 128

/-- Row 0 to row 63. -/
abbrev RowId := Fin 64

/-- Station entry 0 to 7. -/
abbrev StationId := Fin 8

/-- A fixed number of like things, numbered from 0. -/
abbrev Table (α : Type) (n : Nat) := Vector α n

/-- The table with entry `i` replaced by `x`. -/
def put {α : Type} {n : Nat} (t : Table α n) (i : Fin n) (x : α) : Table α n := t.set i x i.isLt

/-- The table with every entry replaced by a function of its number and its value. -/
def each {α : Type} {n : Nat} (f : Fin n → α → α) (t : Table α n) : Table α n :=
  Vector.ofFn fun i => f i t[i]

end Sys2Proof
end

