-- ==== Sys2Proof/Machine/Bits.lean ====
section
/-! DEFINITION. The plain arithmetic that the chapters share: clamps (section 5.3), the duty of a command (R43), the baud
divisor (R134), the two frame checks (R138, R175) and the byte layout of numbers (R183). -/

namespace Sys2Proof.Machine

/-- A value below `lo` becomes `lo` and a value above `hi` becomes `hi` (section 5.3). -/
def clampNat (lo hi x : Nat) : Nat := if x < lo then lo else if hi < x then hi else x

/-- A signed value clamped to a range of naturals (section 5.3). -/
def clampInt (lo hi : Nat) (x : Int) : Nat :=
  if x < (lo : Int) then lo else if (hi : Int) < x then hi else x.toNat

/-- A signed value clamped to `[-bound, +bound]` (section 5.3). -/
def clampAbs (bound : Nat) (x : Int) : Int :=
  if x < -(bound : Int) then -(bound : Int) else if (bound : Int) < x then (bound : Int) else x

/-- The distance between two values. -/
def distance (x y : Nat) : Nat := if x < y then y - x else x - y

/-- The duty in counts of a command under a PWM period (R43). -/
def dutyOf (command period : Nat) : Nat := (command * period + 5000) / 10000

/-- N of a baud: 64,000,000 divided by the baud, rounded (R134, R169). -/
def divisorN (baud : Nat) : Nat := (64000000 + baud / 2) / baud

/-- The integer part of a baud's divisor (R134). -/
def divisorInteger (baud : Nat) : Nat := divisorN baud / 64

/-- The six-bit fraction of a baud's divisor (R134). -/
def divisorFraction (baud : Nat) : Nat := divisorN baud % 64

/-- Whole seconds left of a timer that holds microseconds, rounded up (R68, R116). -/
def secondsLeft (us : Nat) : Nat := (us + 999999) / 1000000

/-- Units of 100 ms left of a timer that holds microseconds, rounded up (R162). -/
def tenthsLeft (us : Nat) : Nat := (us + 99999) / 100000

/-- One byte field. -/
def byte1 (n : Nat) : List Byte := [BitVec.ofNat 8 n]

/-- A two-byte field, most significant byte first (R183). -/
def byte2 (n : Nat) : List Byte := [BitVec.ofNat 8 (n / 256), BitVec.ofNat 8 n]

/-- A three-byte field, most significant byte first (R183). -/
def byte3 (n : Nat) : List Byte := BitVec.ofNat 8 (n / 65536) :: byte2 n

/-- A four-byte field, most significant byte first (R183). -/
def byte4 (n : Nat) : List Byte := byte2 (n / 65536) ++ byte2 n

/-- A signed two-byte field in two's complement (R183). -/
def signed2 (x : Int) : List Byte := byte2 (BitVec.ofInt 16 x).toNat

/-- A signed four-byte field in two's complement (R183). -/
def signed4 (x : Int) : List Byte := byte4 (BitVec.ofInt 32 x).toNat

/-- Yes and no, and levels, as a byte (R183). -/
def flagByte (b : Bool) : Byte := if b then 1 else 0

/-- Two bytes joined, the first the high byte (R183). -/
def join2 (high low : Byte) : Half := high ++ low

/-- Three bytes joined, the first the high byte (R183). -/
def join3 (high mid low : Byte) : BitVec 24 := high ++ mid ++ low

/-- One shift of the CRC-8 register (R138). -/
def crc8Shift (r : Byte) : Byte := if r.msb then (r <<< 1) ^^^ 0x07 else r <<< 1

/-- The CRC-8 register after one more byte (R138). -/
def crc8Byte (r b : Byte) : Byte :=
  let x := r ^^^ b
  crc8Shift (crc8Shift (crc8Shift (crc8Shift (crc8Shift (crc8Shift (crc8Shift (crc8Shift x)))))))

/-- The CRC-8 check of a station frame's bytes (R138): x^8 + x^2 + x + 1, from 0, no inversion. -/
def crc8 (bytes : List Byte) : Byte := bytes.foldl crc8Byte 0

/-- One shift of the CRC-16 register (R175). -/
def crc16Shift (r : Half) : Half := if r.msb then (r <<< 1) ^^^ 0x1021 else r <<< 1

/-- The CRC-16 register after one more byte, which meets the high eight bits (R175). -/
def crc16Byte (r : Half) (b : Byte) : Half :=
  let x := r ^^^ (b ++ (0 : Byte))
  crc16Shift (crc16Shift (crc16Shift (crc16Shift (crc16Shift (crc16Shift (crc16Shift (crc16Shift x)))))))

/-- The CRC-16 check of a link frame's bytes (R175): x^16 + x^12 + x^5 + 1, from all ones, no inversion. -/
def crc16 (bytes : List Byte) : Half := bytes.foldl crc16Byte 0xFFFF

end Sys2Proof.Machine
end

