-- ==== Sys2Proof/Syntax.lean ====
section
/-! DEFINITION. The commands of the SG-40: one constructor of `Instr` for each row of spec/opcode_table.json. A request
command is one request frame that has passed its check, with the fields of its payload as the master sent them (raw
codes, so that every out-of-range value of R183 can be written). An event command is one event of a pin, a line or a
timer. -/

namespace Sys2Proof

/-- The two masters (section 1.2), and with them the two link ports LP1 and LP2. -/
inductive Master where
  | m1
  | m2
deriving DecidableEq, Repr

/-- The other master. -/
def Master.other : Master → Master
  | .m1 => .m2
  | .m2 => .m1

/-- Who sent a request, and the two-byte tag that its response echoes (R176, R185). -/
structure Req where
  master : Master
  tag : Half
deriving DecidableEq, Repr

/-- The 13 bytes of a descriptor record as sent (R189). -/
structure RawDescriptor where
  op : Byte
  subject : Byte
  qualifier : Byte
  mode : Byte
  operandHigh : Byte
  operandLow : Byte
  pair : Byte
  second : Half
  wait : Byte
  onFail : Byte
  next : Byte
  alt : Byte
deriving DecidableEq, Repr

/-- The actuator number and the 25 bytes of a configuration record as sent (R190). -/
structure RawActuator where
  number : Byte
  kind : Byte
  group : Byte
  min : Half
  max : Half
  maxRate : Half
  defaultRate : Half
  period : Half
  polarity : Byte
  proofInput : Byte
  proofTimeout : Byte
  safeAction : Byte
  safeValue : Half
  tripScope : Byte
  permissiveInput : Byte
  permissiveSense : Byte
  feedbackChannel : Byte
  tolerance : Half
  deviationTime : Byte
deriving DecidableEq, Repr

/-- The channel number and the seven bytes of a capture configuration as sent (R192). -/
structure RawCapture where
  channel : Byte
  mode : Byte
  prescale : Byte
  timeout : Byte
  gain : Half
  offset : Half
deriving DecidableEq, Repr

/-- The seven governor settings as sent (R193). -/
structure RawGovernor where
  kp : Byte
  ki : Byte
  dmin : Half
  dmax : Half
  dstep : Half
  holdTime : Half
  fallback : Half
deriving DecidableEq, Repr

/-- A station entry's number and configuration as sent (R193). -/
structure RawStation where
  entry : Byte
  enabled : Byte
  address : Byte
  setpoint : Half
  staleTime : Byte
deriving DecidableEq, Repr

/-- The line settings of LINK SETTINGS as sent (R186). -/
structure RawLink where
  baud : BitVec 24
  parity : Byte
  silence : Byte
deriving DecidableEq, Repr

/-- The status marks that the receiver sets on a character by itself (R170). OVERRUN is the FIFO's own (R171). -/
structure Marks where
  noise : Bool
  parity : Bool
  framing : Bool
  brk : Bool
deriving DecidableEq, Repr

/-- A character's marks when nothing was wrong with it. -/
def Marks.clean : Marks := ⟨false, false, false, false⟩

/-- The commands, in the order of spec/opcode_table.json. -/
inductive Instr where
  /-- POWER_ON_RESET (R3): power is applied. -/
  | powerOnReset
  /-- PANEL_RESET (R1): RSTN returns to its released level. -/
  | panelReset
  /-- CLAIM (R105) of a resource set (R184). -/
  | claim (q : Req) (set : Byte)
  /-- RELEASE (R107) of a resource set (R184). -/
  | release (q : Req) (set : Byte)
  /-- READ_CLAIMS (R104). -/
  | readClaims (q : Req)
  /-- WRITE_DESCRIPTOR (R49). -/
  | writeDescriptor (q : Req) (slot : Byte) (record : RawDescriptor)
  /-- FREE_DESCRIPTOR (R50). -/
  | freeDescriptor (q : Req) (slot : Byte)
  /-- READ_DESCRIPTOR (R51). -/
  | readDescriptor (q : Req) (slot : Byte)
  /-- WRITE_PROFILE (R56): a first row and 1 to 16 values. -/
  | writeProfile (q : Req) (first : Byte) (values : List Half)
  /-- READ_PROFILE (R57). -/
  | readProfile (q : Req) (first : Byte) (count : Byte)
  /-- RUN_CHAIN (R71). -/
  | runChain (q : Req) (group : Byte) (slot : Byte)
  /-- CANCEL_CHAIN (R97). -/
  | cancelChain (q : Req) (group : Byte)
  /-- RESUME_RETRY (R94, R95). -/
  | resumeRetry (q : Req) (group : Byte)
  /-- RESUME_SKIP (R94, R96). -/
  | resumeSkip (q : Req) (group : Byte)
  /-- READ_CHAIN (R70). -/
  | readChain (q : Req) (group : Byte)
  /-- WRITE_CURSOR (R60). -/
  | writeCursor (q : Req) (group : Byte) (cursor : Byte) (value : Byte)
  /-- READ_CURSORS (R61). -/
  | readCursors (q : Req) (group : Byte)
  /-- CONFIGURE_ACTUATOR (R4). -/
  | configureActuator (q : Req) (record : RawActuator)
  /-- SET_SERVICE_IN (R11). -/
  | setServiceIn (q : Req) (actuator : Byte)
  /-- SET_SERVICE_OUT (R12). -/
  | setServiceOut (q : Req) (actuator : Byte)
  /-- CLEAR_FAULT (R26). -/
  | clearFault (q : Req) (actuator : Byte)
  /-- READ_ACTUATOR_CONFIGURATION (R2). -/
  | readActuatorConfiguration (q : Req) (actuator : Byte)
  /-- READ_ACTUATOR_STATUS (R2). -/
  | readActuatorStatus (q : Req) (actuator : Byte)
  /-- READ_OUTPUTS (R152). -/
  | readOutputs (q : Req)
  /-- CONFIGURE_CAPTURE (R161). -/
  | configureCapture (q : Req) (record : RawCapture)
  /-- READ_MEASUREMENT (R162). -/
  | readMeasurement (q : Req) (channel : Byte)
  /-- SET_DEBOUNCE (R166). -/
  | setDebounce (q : Req) (input : Byte) (time : Byte)
  /-- READ_INPUTS (R167). -/
  | readInputs (q : Req)
  /-- GOVERNOR_SETTINGS (R130). -/
  | governorSettings (q : Req) (record : RawGovernor)
  /-- GOVERNOR_MODE_ON (R128): GOVERNOR MODE with argument ON. -/
  | governorModeOn (q : Req)
  /-- GOVERNOR_MODE_OFF (R129): GOVERNOR MODE with argument OFF. -/
  | governorModeOff (q : Req)
  /-- READ_GOVERNOR_SETTINGS (R116). -/
  | readGovernorSettings (q : Req)
  /-- READ_GOVERNOR_STATUS (R116). -/
  | readGovernorStatus (q : Req)
  /-- CONFIGURE_STATION (R145). -/
  | configureStation (q : Req) (record : RawStation)
  /-- READ_STATION (R146). -/
  | readStation (q : Req) (entry : Byte)
  /-- STATION_LINE_SETTINGS (R147). -/
  | stationLineSettings (q : Req) (baud : Half)
  /-- READ_STATION_LINE_STATUS (R139). -/
  | readStationLineStatus (q : Req)
  /-- LINK_SETTINGS (R178). -/
  | linkSettings (q : Req) (record : RawLink)
  /-- READ_LINK_STATUS (R179). -/
  | readLinkStatus (q : Req) (link : Byte)
  /-- READ_ATTENTION (R181). -/
  | readAttention (q : Req)
  /-- CLEAR_ATTENTION (R181) of a flag set (R184). -/
  | clearAttention (q : Req) (flags : Half)
  /-- SET_MASK (R181) to a flag set (R184). -/
  | setMask (q : Req) (flags : Half)
  /-- UNKNOWN_REQUEST (R176): a checked frame whose code is no request code. -/
  | unknownRequest (q : Req) (code : Byte)
  /-- BAD_LENGTH (R176): a checked frame whose payload length its code does not allow. -/
  | badLength (q : Req) (code : Byte) (length : Nat)
  /-- LINK_CHARACTER_RECEIVED (R170): a character completes on a master link. -/
  | linkCharacterReceived (m : Master) (byte : Byte) (marks : Marks)
  /-- INTER_BYTE_TIMEOUT (R174): a port's inter-byte timer expires. -/
  | interByteTimeout (m : Master)
  /-- TURNAROUND_END (R177): the line has been idle for 2 character times in TURNAROUND. -/
  | turnaroundEnd (m : Master)
  /-- RESPONSE_SENT (R177): the stop bit of the response's last check byte has been sent. -/
  | responseSent (m : Master)
  /-- SILENCE_EXPIRY (R111): a link's silence timer expires. -/
  | silenceExpiry (m : Master)
  /-- STATION_CHARACTER (R135): the station sampler completes a character. -/
  | stationCharacter (byte : Byte) (noisy : Bool)
  /-- STATION_FRAMING_ERROR (R136): a high sample ends LOW_WATCH before a break. -/
  | stationFramingError
  /-- STATION_BREAK (R136): the low-sample count reaches 176. -/
  | stationBreak
  /-- STALE_TIMER_EXPIRY (R143): a station entry's stale timer expires. -/
  | staleTimerExpiry (entry : StationId)
  /-- GOVERNOR_EVALUATION (R117): the one-second evaluation timer expires. -/
  | governorEvaluation
  /-- HOLD_TIMER_EXPIRY (R125): the governor's hold timer expires. -/
  | holdTimerExpiry
  /-- SLEW_EXPIRY (R35): an actuator's slew timer expires. -/
  | slewExpiry (n : ActId)
  /-- PERIOD_END (R149): an output channel's PWM period ends. -/
  | periodEnd (n : ActId)
  /-- PROOF_TIMER_EXPIRY (R13, R15): a pump's proof timer expires. -/
  | proofTimerExpiry (n : ActId)
  /-- DEVIATION_TIMER_EXPIRY (R19): an actuator's deviation timer expires. -/
  | deviationTimerExpiry (n : ActId)
  /-- FEEDBACK_LOST_TIMER_EXPIRY (R20): an actuator's feedback-lost timer expires. -/
  | feedbackLostTimerExpiry (n : ActId)
  /-- DISCRETE_INPUT_CHANGE (R165): an input's filtered level changes to `level` after its debounce. -/
  | discreteInputChange (d : InputId) (level : Bool)
  /-- TRIP_ASSERTION (R28): the filtered PTRIP level becomes asserted. -/
  | tripAssertion
  /-- TRIP_DEASSERTION (R29): the filtered PTRIP level becomes not asserted. -/
  | tripDeassertion
  /-- FREQUENCY_MEASUREMENT (R155): the N-th rising edge, stamped `stamp`. -/
  | frequencyMeasurement (c : CaptureId) (stamp : Stamp)
  /-- DUTY_MEASUREMENT (R156): a rising edge in phase LOW, stamped `stamp`. -/
  | dutyMeasurement (c : CaptureId) (stamp : Stamp)
  /-- CAPTURE_TIMEOUT_EXPIRY (R159): a capture channel's timeout timer expires. -/
  | captureTimeoutExpiry (c : CaptureId)
  /-- CAPTURE_SPAN_OVERFLOW (R157): 16,777,216 counts pass without the ending edge. -/
  | captureSpanOverflow (c : CaptureId)
  /-- DWELL_EXPIRY (R85): a DWELL step's timer expires. -/
  | dwellExpiry (g : GroupId)
  /-- AWAIT_TIMEOUT (R86, R87): an AWAIT_INPUT or AWAIT_MEAS step's timer expires. -/
  | awaitTimeout (g : GroupId)
  /-- CAPTURE_EDGE (R155, R156): an edge that completes no measurement; rising or falling, stamped `stamp`. -/
  | captureEdge (c : CaptureId) (rising : Bool) (stamp : Stamp)
  /-- RAW_LEVEL_CHANGE (R165): the raw level of a discrete input becomes `level`. -/
  | rawLevelChange (d : InputId) (level : Bool)
  /-- PTRIP_RAW_CHANGE (R27): the raw PTRIP input becomes `level` (high is true; asserted is low). -/
  | ptripRawChange (level : Bool)
  /-- STATION_FIRST_HIGH_SAMPLE (R135): in MARK_WAIT the sampler takes its first high sample. -/
  | stationFirstHighSample
  /-- STATION_STOP_BIT_LOW (R136): a character's stop bit is decided low, with `count` low samples counted so far. -/
  | stationStopBitLow (count : Nat)
deriving DecidableEq, Repr

end Sys2Proof
end

