-- ==== Sys2Proof/Decode.lean ====
section
/-! DEFINITION. Reading commands. The opcode table gives no row any bits, so that no word spells a command. What the part
itself reads are request frames: the request code and payload of a checked frame (R176, R185, R186), here read into the
command they carry, and written from it. -/

namespace Sys2Proof

/-- The command that a word of `nbits` bits spells by the table's bits: none, because no row gives bits. -/
def decodeTableWord (_nbits _w : Nat) : Option Instr := none

/-- What a port finds in a checked frame's code and payload (R176). -/
inductive Parsed where
  /-- A request for its owner. -/
  | command (i : Instr)
  /-- RESUME with an action that is neither RETRY nor SKIP (R94). -/
  | resumeOther (group : Byte)
  /-- GOVERNOR MODE with an argument that is neither ON nor OFF (R128). -/
  | modeOther
  /-- The code is no request code. -/
  | unknown
  /-- The payload length is not one that the code allows. -/
  | badLength
deriving DecidableEq, Repr

/-- Bytes joined in pairs, most significant first; none for an odd count. -/
def halves? : List Byte → Option (List Half)
  | [] => some []
  | [_] => none
  | h :: l :: rest => (halves? rest).map fun vs => Machine.join2 h l :: vs

/-- The values of a WRITE PROFILE payload after its first row: 1 to 16 of them (R176, R186). -/
def profileValues? (bytes : List Byte) : Option (List Half) :=
  (halves? bytes).bind fun vs => if vs.length = 0 ∨ 16 < vs.length then none else some vs

/-- A request read from its code and payload (R176, R186, R189, R190, R192, R193). -/
def parseRequest (q : Req) (code : Byte) (payload : List Byte) : Parsed :=
  match code.toNat with
  | 0x10 => match payload with
    | [set] => .command (.claim q set)
    | _ => .badLength
  | 0x11 => match payload with
    | [set] => .command (.release q set)
    | _ => .badLength
  | 0x12 => match payload with
    | [] => .command (.readClaims q)
    | _ => .badLength
  | 0x20 => match payload with
    | [slot, op, subject, qualifier, mode, oh, ol, pair, sh, sl, wait, onFail, next, alt] =>
      .command (.writeDescriptor q slot
        { op := op, subject := subject, qualifier := qualifier, mode := mode, operandHigh := oh, operandLow := ol,
          pair := pair, second := Machine.join2 sh sl, wait := wait, onFail := onFail, next := next, alt := alt })
    | _ => .badLength
  | 0x21 => match payload with
    | [slot] => .command (.freeDescriptor q slot)
    | _ => .badLength
  | 0x22 => match payload with
    | [slot] => .command (.readDescriptor q slot)
    | _ => .badLength
  | 0x24 => match payload with
    | first :: bytes => match profileValues? bytes with
      | some vs => .command (.writeProfile q first vs)
      | none => .badLength
    | [] => .badLength
  | 0x25 => match payload with
    | [first, count] => .command (.readProfile q first count)
    | _ => .badLength
  | 0x30 => match payload with
    | [group, slot] => .command (.runChain q group slot)
    | _ => .badLength
  | 0x31 => match payload with
    | [group] => .command (.cancelChain q group)
    | _ => .badLength
  | 0x32 => match payload with
    | [group, action] =>
      if action = 0 then .command (.resumeRetry q group)
      else if action = 1 then .command (.resumeSkip q group)
      else .resumeOther group
    | _ => .badLength
  | 0x33 => match payload with
    | [group] => .command (.readChain q group)
    | _ => .badLength
  | 0x34 => match payload with
    | [group, cursor, value] => .command (.writeCursor q group cursor value)
    | _ => .badLength
  | 0x35 => match payload with
    | [group] => .command (.readCursors q group)
    | _ => .badLength
  | 0x40 => match payload with
    | [number, kind, group, minH, minL, maxH, maxL, mrH, mrL, drH, drL, pH, pL, polarity, proof, proofTime, action,
        svH, svL, scope, permissive, sense, feedback, tolH, tolL, devTime] =>
      .command (.configureActuator q
        { number := number, kind := kind, group := group, min := Machine.join2 minH minL,
          max := Machine.join2 maxH maxL, maxRate := Machine.join2 mrH mrL, defaultRate := Machine.join2 drH drL,
          period := Machine.join2 pH pL, polarity := polarity, proofInput := proof, proofTimeout := proofTime,
          safeAction := action, safeValue := Machine.join2 svH svL, tripScope := scope, permissiveInput := permissive,
          permissiveSense := sense, feedbackChannel := feedback, tolerance := Machine.join2 tolH tolL,
          deviationTime := devTime })
    | _ => .badLength
  | 0x41 => match payload with
    | [n] => .command (.setServiceIn q n)
    | _ => .badLength
  | 0x42 => match payload with
    | [n] => .command (.setServiceOut q n)
    | _ => .badLength
  | 0x43 => match payload with
    | [n] => .command (.clearFault q n)
    | _ => .badLength
  | 0x44 => match payload with
    | [n] => .command (.readActuatorConfiguration q n)
    | _ => .badLength
  | 0x45 => match payload with
    | [n] => .command (.readActuatorStatus q n)
    | _ => .badLength
  | 0x50 => match payload with
    | [] => .command (.readOutputs q)
    | _ => .badLength
  | 0x51 => match payload with
    | [channel, mode, prescale, timeout, gH, gL, oH, oL] =>
      .command (.configureCapture q
        { channel := channel, mode := mode, prescale := prescale, timeout := timeout, gain := Machine.join2 gH gL,
          offset := Machine.join2 oH oL })
    | _ => .badLength
  | 0x52 => match payload with
    | [c] => .command (.readMeasurement q c)
    | _ => .badLength
  | 0x53 => match payload with
    | [input, time] => .command (.setDebounce q input time)
    | _ => .badLength
  | 0x54 => match payload with
    | [] => .command (.readInputs q)
    | _ => .badLength
  | 0x60 => match payload with
    | [kp, ki, loH, loL, hiH, hiL, stH, stL, htH, htL, fbH, fbL] =>
      .command (.governorSettings q
        { kp := kp, ki := ki, dmin := Machine.join2 loH loL, dmax := Machine.join2 hiH hiL,
          dstep := Machine.join2 stH stL, holdTime := Machine.join2 htH htL, fallback := Machine.join2 fbH fbL })
    | _ => .badLength
  | 0x61 => match payload with
    | [mode] =>
      if mode = 1 then .command (.governorModeOn q)
      else if mode = 0 then .command (.governorModeOff q)
      else .modeOther
    | _ => .badLength
  | 0x62 => match payload with
    | [] => .command (.readGovernorSettings q)
    | _ => .badLength
  | 0x63 => match payload with
    | [] => .command (.readGovernorStatus q)
    | _ => .badLength
  | 0x64 => match payload with
    | [entry, enabled, address, spH, spL, stale] =>
      .command (.configureStation q
        { entry := entry, enabled := enabled, address := address, setpoint := Machine.join2 spH spL,
          staleTime := stale })
    | _ => .badLength
  | 0x65 => match payload with
    | [entry] => .command (.readStation q entry)
    | _ => .badLength
  | 0x66 => match payload with
    | [h, l] => .command (.stationLineSettings q (Machine.join2 h l))
    | _ => .badLength
  | 0x67 => match payload with
    | [] => .command (.readStationLineStatus q)
    | _ => .badLength
  | 0x70 => match payload with
    | [b2, b1, b0, parity, silence] =>
      .command (.linkSettings q { baud := Machine.join3 b2 b1 b0, parity := parity, silence := silence })
    | _ => .badLength
  | 0x71 => match payload with
    | [link] => .command (.readLinkStatus q link)
    | _ => .badLength
  | 0x72 => match payload with
    | [] => .command (.readAttention q)
    | _ => .badLength
  | 0x73 => match payload with
    | [h, l] => .command (.clearAttention q (Machine.join2 h l))
    | _ => .badLength
  | 0x74 => match payload with
    | [h, l] => .command (.setMask q (Machine.join2 h l))
    | _ => .badLength
  | _ => .unknown

/-- A two-byte field as its bytes. -/
def halfBytes (v : Half) : List Byte := Machine.byte2 v.toNat

/-- The payload of a WRITE DESCRIPTOR record (R189). -/
def rawDescriptorBytes (r : RawDescriptor) : List Byte :=
  [r.op, r.subject, r.qualifier, r.mode, r.operandHigh, r.operandLow, r.pair] ++ halfBytes r.second ++
    [r.wait, r.onFail, r.next, r.alt]

/-- The payload of a CONFIGURE ACTUATOR (R190). -/
def rawActuatorBytes (r : RawActuator) : List Byte :=
  [r.number, r.kind, r.group] ++ halfBytes r.min ++ halfBytes r.max ++ halfBytes r.maxRate ++ halfBytes r.defaultRate ++
    halfBytes r.period ++ [r.polarity, r.proofInput, r.proofTimeout, r.safeAction] ++ halfBytes r.safeValue ++
    [r.tripScope, r.permissiveInput, r.permissiveSense, r.feedbackChannel] ++ halfBytes r.tolerance ++
    [r.deviationTime]

/-- The request code and payload that carry a request command; none for an event, and none for the two rows that stand for
frames no request has (R186). -/
def requestBytes : Instr → Option (Byte × List Byte)
  | .claim _ set => some (0x10, [set])
  | .release _ set => some (0x11, [set])
  | .readClaims _ => some (0x12, [])
  | .writeDescriptor _ slot r => some (0x20, slot :: rawDescriptorBytes r)
  | .freeDescriptor _ slot => some (0x21, [slot])
  | .readDescriptor _ slot => some (0x22, [slot])
  | .writeProfile _ first vs => some (0x24, first :: vs.flatMap halfBytes)
  | .readProfile _ first count => some (0x25, [first, count])
  | .runChain _ group slot => some (0x30, [group, slot])
  | .cancelChain _ group => some (0x31, [group])
  | .resumeRetry _ group => some (0x32, [group, 0])
  | .resumeSkip _ group => some (0x32, [group, 1])
  | .readChain _ group => some (0x33, [group])
  | .writeCursor _ group cursor value => some (0x34, [group, cursor, value])
  | .readCursors _ group => some (0x35, [group])
  | .configureActuator _ r => some (0x40, rawActuatorBytes r)
  | .setServiceIn _ n => some (0x41, [n])
  | .setServiceOut _ n => some (0x42, [n])
  | .clearFault _ n => some (0x43, [n])
  | .readActuatorConfiguration _ n => some (0x44, [n])
  | .readActuatorStatus _ n => some (0x45, [n])
  | .readOutputs _ => some (0x50, [])
  | .configureCapture _ r =>
    some (0x51, [r.channel, r.mode, r.prescale, r.timeout] ++ halfBytes r.gain ++ halfBytes r.offset)
  | .readMeasurement _ c => some (0x52, [c])
  | .setDebounce _ input time => some (0x53, [input, time])
  | .readInputs _ => some (0x54, [])
  | .governorSettings _ r =>
    some (0x60, [r.kp, r.ki] ++ halfBytes r.dmin ++ halfBytes r.dmax ++ halfBytes r.dstep ++ halfBytes r.holdTime ++
      halfBytes r.fallback)
  | .governorModeOn _ => some (0x61, [1])
  | .governorModeOff _ => some (0x61, [0])
  | .readGovernorSettings _ => some (0x62, [])
  | .readGovernorStatus _ => some (0x63, [])
  | .configureStation _ r =>
    some (0x64, [r.entry, r.enabled, r.address] ++ halfBytes r.setpoint ++ [r.staleTime])
  | .readStation _ entry => some (0x65, [entry])
  | .stationLineSettings _ baud => some (0x66, halfBytes baud)
  | .readStationLineStatus _ => some (0x67, [])
  | .linkSettings _ r => some (0x70, Machine.byte3 r.baud.toNat ++ [r.parity, r.silence])
  | .readLinkStatus _ link => some (0x71, [link])
  | .readAttention _ => some (0x72, [])
  | .clearAttention _ flags => some (0x73, halfBytes flags)
  | .setMask _ flags => some (0x74, halfBytes flags)
  | .powerOnReset => none
  | .panelReset => none
  | .unknownRequest _ _ => none
  | .badLength _ _ _ => none
  | .linkCharacterReceived _ _ _ => none
  | .interByteTimeout _ => none
  | .turnaroundEnd _ => none
  | .responseSent _ => none
  | .silenceExpiry _ => none
  | .stationCharacter _ _ => none
  | .stationFramingError => none
  | .stationBreak => none
  | .staleTimerExpiry _ => none
  | .governorEvaluation => none
  | .holdTimerExpiry => none
  | .slewExpiry _ => none
  | .periodEnd _ => none
  | .proofTimerExpiry _ => none
  | .deviationTimerExpiry _ => none
  | .feedbackLostTimerExpiry _ => none
  | .discreteInputChange _ _ => none
  | .tripAssertion => none
  | .tripDeassertion => none
  | .frequencyMeasurement _ _ => none
  | .dutyMeasurement _ _ => none
  | .captureTimeoutExpiry _ => none
  | .captureSpanOverflow _ => none
  | .dwellExpiry _ => none
  | .awaitTimeout _ => none
  | .captureEdge _ _ _ => none
  | .rawLevelChange _ _ => none
  | .ptripRawChange _ => none
  | .stationFirstHighSample => none
  | .stationStopBitLow _ => none

/-- The request that a command belongs to: its master and tag. -/
def requestOf : Instr → Option Req
  | .claim q _ | .release q _ | .readClaims q | .writeDescriptor q _ _ | .freeDescriptor q _ | .readDescriptor q _
  | .writeProfile q _ _ | .readProfile q _ _ | .runChain q _ _ | .cancelChain q _ | .resumeRetry q _ | .resumeSkip q _
  | .readChain q _ | .writeCursor q _ _ _ | .readCursors q _ | .configureActuator q _ | .setServiceIn q _
  | .setServiceOut q _ | .clearFault q _ | .readActuatorConfiguration q _ | .readActuatorStatus q _ | .readOutputs q
  | .configureCapture q _ | .readMeasurement q _ | .setDebounce q _ _ | .readInputs q | .governorSettings q _
  | .governorModeOn q | .governorModeOff q | .readGovernorSettings q | .readGovernorStatus q | .configureStation q _
  | .readStation q _ | .stationLineSettings q _ | .readStationLineStatus q | .linkSettings q _ | .readLinkStatus q _
  | .readAttention q | .clearAttention q _ | .setMask q _ | .unknownRequest q _ | .badLength q _ _ => some q
  | .powerOnReset | .panelReset | .linkCharacterReceived _ _ _ | .interByteTimeout _ | .turnaroundEnd _
  | .responseSent _ | .silenceExpiry _ | .stationCharacter _ _ | .stationFramingError | .stationBreak
  | .staleTimerExpiry _ | .governorEvaluation | .holdTimerExpiry | .slewExpiry _ | .periodEnd _ | .proofTimerExpiry _
  | .deviationTimerExpiry _ | .feedbackLostTimerExpiry _ | .discreteInputChange _ _ | .tripAssertion
  | .tripDeassertion | .frequencyMeasurement _ _ | .dutyMeasurement _ _ | .captureTimeoutExpiry _
  | .captureSpanOverflow _ | .dwellExpiry _ | .awaitTimeout _ | .captureEdge _ _ _ | .rawLevelChange _ _
  | .ptripRawChange _ | .stationFirstHighSample | .stationStopBitLow _ => none

/-- The bytes of a request frame from its length byte through its last payload byte (R185). -/
def requestBody (tag : Half) (code : Byte) (payload : List Byte) : List Byte :=
  Machine.byte1 (3 + payload.length) ++ [code] ++ halfBytes tag ++ payload

/-- The whole request frame that carries a code, a tag and a payload (R175, R185). -/
def requestFrame (tag : Half) (code : Byte) (payload : List Byte) : List Byte :=
  (0xD2 : Byte) :: (requestBody tag code payload ++ halfBytes (Machine.crc16 (requestBody tag code payload)))

end Sys2Proof
end

