-- ==== Sys2Proof/Config.lean ====
section
/-! DEFINITION. What the manual leaves open. The manual says of many pairs of events that come together that "either may
be taken first"; which is taken is a free value. One raw value of a capture measurement is another. They have no body:
nothing can be proved about what they give. -/

namespace Sys2Proof

/-- FREE VALUE (log entry 3). The number that settles the k-th open choice among things the manual does not put in order:
the choice among `n` candidates is this number modulo `n`. -/
opaque Config.freePick : Nat → Nat

/-- FREE VALUE (log entry 29). The raw value of a capture measurement whose span has no value: the ending edge is taken at
the very count at which the span overflows (R155 to R157). The k-th such value is this number modulo 10,000,001 in FREQUENCY, and
modulo 10,001 in DUTY (R153). -/
opaque Config.freeRaw : Nat → Nat

end Sys2Proof
end

