-- ==== Sys2Proof/Machine/Records.lean ====
section
/-! DEFINITION. The records of the SG-40's blocks, each with its power-on value: descriptor slots (R46, R48), chain
records (R68), actuator entries (R3, R6, R31), output channels (R149), capture channels (R153), input filters (R165,
R27), the governor (R115), the station receiver and table (R134 to R140) and the link ports (R169 to R182). Every timer
holds the microseconds it has left; an absent timer is `none`. -/

namespace Sys2Proof.Machine

/-! ### Actuator entries -/

/-- The kind of an actuator entry (R3). -/
inductive Kind where
  | none
  | pump
  | valve
deriving DecidableEq, Repr

/-- A valve's safe action (R3); a pump's safe action is STOP. -/
inductive SafeAction where
  | hold
  | go
  | release
deriving DecidableEq, Repr

/-- How far a fault of an actuator reaches (R3, R23). -/
inductive TripScope where
  | self
  | group
deriving DecidableEq, Repr

/-- An optional permissive: the input and the level that permits (R3). -/
structure Permissive where
  input : InputId
  sense : Bool
deriving DecidableEq, Repr

/-- An optional feedback: the channel, the deviation tolerance and the deviation time in seconds (R3). -/
structure FeedbackConfig where
  channel : CaptureId
  tolerance : Nat
  time : Nat
deriving DecidableEq, Repr

/-- The configuration record (R3), less the PWM period and polarity, which the output channel holds. -/
structure ActConfig where
  kind : Kind
  group : Option GroupId
  min : Nat
  max : Nat
  maxRate : Nat
  defaultRate : Nat
  proofInput : Option InputId
  proofTimeout : Option Nat
  safeAction : Option SafeAction
  safeValue : Option Nat
  tripScope : TripScope
  permissive : Option Permissive
  feedback : Option FeedbackConfig
deriving DecidableEq, Repr

/-- The configuration record after power-on (R3). -/
def ActConfig.powerOn : ActConfig :=
  { kind := .none, group := none, min := 0, max := 10000, maxRate := 10000, defaultRate := 10000,
    proofInput := none, proofTimeout := none, safeAction := none, safeValue := none, tripScope := .self,
    permissive := none, feedback := none }

/-- The phase of a STOPPING pump (R15). -/
inductive StopPhase where
  | rampDown
  | dropWait
deriving DecidableEq, Repr

/-- The service states of pumps and valves (R6, R9, R10); the stop phase is held by STOPPING, where alone it is present. -/
inductive Service where
  | outOfService
  | stopped
  | starting
  | running
  | stopping (phase : StopPhase)
  | faulted
  | holding
  | moving
deriving DecidableEq, Repr

/-- The source that set a ramp (R31). -/
inductive RampOrigin where
  | move
  | stop
  | follow
  | safe
deriving DecidableEq, Repr

/-- A ramp in progress: target, rate step in 1/64 unit per slew interval, and origin (R31). -/
structure Ramp where
  target : Nat
  rateStep : Nat
  origin : RampOrigin
deriving DecidableEq, Repr

/-- The status of a capture channel, and of the feedback taken from it (R153, R6). -/
inductive CaptureStatus where
  | ok
  | overrange
  | noSignal
deriving DecidableEq, Repr

/-- The feedback value, clamped to 0..10000, and the feedback status (R6, R18). -/
structure Feedback where
  value : Nat
  status : CaptureStatus
deriving DecidableEq, Repr

/-- Fault codes (R6, section 1.10.1). -/
inductive FaultCode where
  | none
  | proofFail
  | proofLost
  | stopFail
  | permissiveLost
  | deviation
  | feedbackLost
  | plantTrip
  | groupTrip
deriving DecidableEq, Repr

/-- An actuator entry: its configuration record and its dynamic record (R2, R6, R31). The follow flag is yes exactly
while the follow step is present. -/
structure Actuator where
  cfg : ActConfig
  state : Service
  command : Nat
  ramp : Option Ramp
  accumulator : Nat
  follow : Option Nat
  feedback : Option Feedback
  fault : FaultCode
  furtherFault : Bool
  commandAtFault : Nat
  proofTimer : Option Nat
  deviationTimer : Option Nat
  lostTimer : Option Nat
  slewTimer : Nat
deriving DecidableEq, Repr

/-- An actuator entry after power-on (R3, R6, R31): empty, OUT_OF_SERVICE, with its slew timer started. -/
def Actuator.powerOn : Actuator :=
  { cfg := ActConfig.powerOn, state := .outOfService, command := 0, ramp := none, accumulator := 0, follow := none,
    feedback := none, fault := .none, furtherFault := false, commandAtFault := 0, proofTimer := none,
    deviationTimer := none, lostTimer := none, slewTimer := 100000 }

/-! ### Output channels -/

/-- PWM polarity (R3, R149). -/
inductive Polarity where
  | activeHigh
  | activeLow
deriving DecidableEq, Repr

/-- The condition of an output channel (R149). -/
inductive Condition where
  | released
  | driven
deriving DecidableEq, Repr

/-- An output channel OCn (R149) with its run output DOn (R151). `held` marks a channel that has been driven again but
whose line stays inactive until the next period end (R150). `position` counts the 1 MHz counts of the present period. -/
structure OutputChannel where
  activePeriod : Nat
  pendingPeriod : Option Nat
  activeDuty : Nat
  pendingDuty : Nat
  polarity : Polarity
  condition : Condition
  held : Bool
  position : Nat
  runOutput : Bool
deriving DecidableEq, Repr

/-- An output channel after power-on (R149, R151). -/
def OutputChannel.powerOn : OutputChannel :=
  { activePeriod := 1000, pendingPeriod := none, activeDuty := 0, pendingDuty := 0, polarity := .activeHigh,
    condition := .released, held := false, position := 0, runOutput := false }

/-! ### Descriptor slots and chains -/

/-- The base cursor of an indexed operand (R48, R59). -/
inductive BaseCursor where
  | c0
  | c1
  | c2
deriving DecidableEq, Repr

/-- The cursor a CURSOR step names (R48). -/
inductive CursorName where
  | c1
  | c2
deriving DecidableEq, Repr

/-- Operand mode and operand (R48). A displacement −32..+31 is a signed six-bit number. -/
inductive Operand where
  | imm (value : Half)
  | row (r : RowId)
  | idx (base : BaseCursor) (displacement : BitVec 6)
  | idxu (base : BaseCursor) (displacement : BitVec 6)
deriving DecidableEq, Repr

/-- The relation of an AWAIT_MEAS (R48, R87). -/
inductive Relation where
  | above
  | below
deriving DecidableEq, Repr

/-- The action of a CURSOR step (R48, R88). -/
inductive CursorAction where
  | load
  | add
deriving DecidableEq, Repr

/-- A step's op with its subject and the fields that only that op uses (R48): the rate and wait of a MOVE, the timeout
in seconds of an AWAIT. A field that an op does not use is not there, and reads back as cleared. -/
inductive Op where
  | move (a : ActId) (rate : Nat) (wait : Bool)
  | start (a : ActId)
  | stop (a : ActId)
  | follow (a : ActId)
  | dwell
  | awaitInput (d : InputId) (level : Bool) (timeout : Nat)
  | awaitMeas (c : CaptureId) (relation : Relation) (timeout : Nat)
  | cursor (c : CursorName) (action : CursorAction)
deriving DecidableEq, Repr

/-- The on-fail field, with the alt link that only BRANCH uses (R48, R92, R93). -/
inductive OnFail where
  | halt
  | continue
  | abort
  | branch (alt : Option SlotId)
deriving DecidableEq, Repr

/-- A descriptor record (R48). `next := none` is END. -/
structure Descriptor where
  op : Op
  operand : Operand
  pair : Bool
  onFail : OnFail
  next : Option SlotId
deriving DecidableEq, Repr

/-- The cleared record (R48). -/
def Descriptor.cleared : Descriptor :=
  { op := .move 0 0 false, operand := .imm 0, pair := false, onFail := .halt, next := none }

/-- A slot's state with its writer and bound group where they are present (R46). -/
inductive SlotState where
  | free
  | written (writer : Master)
  | bound (writer : Master) (group : GroupId)
deriving DecidableEq, Repr

/-- A descriptor slot (R46). -/
structure Slot where
  state : SlotState
  record : Descriptor
deriving DecidableEq, Repr

/-- A slot after power-on (R46): FREE with the cleared record. -/
def Slot.powerOn : Slot := { state := .free, record := Descriptor.cleared }

/-- Executor states (R68). -/
inductive ExecState where
  | idle
  | active
  | halted
deriving DecidableEq, Repr

/-- What an ACTIVE executor's step waits for (R68). -/
inductive Waiting where
  | runProof
  | stopProof
  | landing
  | feedback
  | timer
  | input
  | measurement
deriving DecidableEq, Repr

/-- Step failure reasons (R91). -/
inductive FailReason where
  | notAvailable
  | wrongState
  | permissive
  | governorOff
  | proofFail
  | stopFail
  | faultedDuring
  | timeout
deriving DecidableEq, Repr

/-- The stage of a step failure (R68, R91). -/
inductive FailStage where
  | acceptance
  | execution
deriving DecidableEq, Repr

/-- The last failure of a run (R68). -/
structure Failure where
  slot : SlotId
  reason : FailReason
  stage : FailStage
deriving DecidableEq, Repr

/-- The retained operands (R63, R68). -/
structure Retained where
  first : Half
  second : Option Half
  row : Option RowId
deriving DecidableEq, Repr

/-- How a chain ended (R68). -/
inductive ChainOutcome where
  | none
  | complete
  | failed
  | cancelled
  | tripped
  | reset
deriving DecidableEq, Repr

/-- A group executor's chain record (R68) and cursors C1 and C2 (R59). `timer` is the time left of a DWELL or AWAIT. -/
structure Executor where
  state : ExecState
  starter : Option Master
  startSlot : Option SlotId
  current : Option SlotId
  waiting : Option Waiting
  timer : Option Nat
  stepCount : Nat
  currentAccepted : Option Bool
  retained : Option Retained
  lastFailure : Option Failure
  outcome : ChainOutcome
  c1 : RowId
  c2 : RowId
deriving DecidableEq, Repr

/-- An executor after power-on (R68, R59). -/
def Executor.powerOn : Executor :=
  { state := .idle, starter := none, startSlot := none, current := none, waiting := none, timer := none, stepCount := 0,
    currentAccepted := none, retained := none, lastFailure := none, outcome := .none, c1 := 0, c2 := 0 }

/-! ### Sampled lines -/

/-- A line that the part samples (R134, R154, R169). `level` is its level as sampled last, which it keeps until the outside
changes it; `ahead` holds the levels that the outside gives the line at its next samples, the next one first (log entry
10). High is true. -/
structure LineInput where
  level : Bool
  ahead : List Bool
deriving DecidableEq, Repr

/-- The line at its next sample. -/
def LineInput.next (x : LineInput) : LineInput :=
  match x.ahead with
  | [] => x
  | l :: rest => { level := l, ahead := rest }

/-- A character in reception (R135, R170): the samples counted from the first low sample of its start bit, the high samples
among samples 7, 8 and 9 of the present bit so far, the bits decided after the start bit in their order, and whether the
three samples of one of them disagreed. -/
structure Reception where
  samples : Nat
  highs : Nat
  bits : List Bool
  noisy : Bool
deriving DecidableEq, Repr

/-- A character at the first low sample of its start bit (R135). -/
def Reception.start : Reception := { samples := 1, highs := 0, bits := [], noisy := false }

/-! ### Capture channels and input filters -/

/-- Capture modes (R153). -/
inductive CaptureMode where
  | off
  | frequency
  | duty
deriving DecidableEq, Repr

/-- The phase of a measurement with what it holds: edges seen, start stamp, high time (R153). -/
inductive CapturePhase where
  | waitEdge
  | counting (seen : Nat) (start : Stamp)
  | high (start : Stamp)
  | low (start : Stamp) (highTime : Nat)
deriving DecidableEq, Repr

/-- A capture channel (R153). `age` is the number of counts that have passed since the start stamp (R157). `input` is the
level at its pin; `sample` is the level that the channel has taken last, and `edge` the count of an edge that it has taken
at the present count (R154). -/
structure Capture where
  mode : CaptureMode
  prescale : Nat
  timeout : Nat
  gain : Nat
  offset : Half
  phase : CapturePhase
  lastRaw : Option Nat
  value : Nat
  status : CaptureStatus
  timer : Option Nat
  age : Nat
  input : LineInput
  sample : Bool
  edge : Option Stamp
deriving DecidableEq, Repr

/-- A capture channel after power-on (R153), with its pin low (log entry 4). -/
def Capture.powerOn : Capture :=
  { mode := .off, prescale := 1, timeout := 20, gain := 4096, offset := 0, phase := .waitEdge, lastRaw := none,
    value := 0, status := .noSignal, timer := none, age := 0, input := { level := false, ahead := [] }, sample := false,
    edge := none }

/-- A discrete input filter (R165): its debounce time in 10 ms, its filtered and raw levels, and the microseconds for
which the raw level has differed from the filtered level without interruption. -/
structure InputFilter where
  debounce : Nat
  filtered : Bool
  raw : Bool
  age : Nat
deriving DecidableEq, Repr

/-- An input filter after power-on with the given raw level (R168): debounce 50 ms, the filtered level the raw level. -/
def InputFilter.powerOn (raw : Bool) : InputFilter := { debounce := 5, filtered := raw, raw := raw, age := 0 }

/-- The PTRIP filter (R27): whether PTRIP is asserted, the raw level (high is true; asserted is low) and how long the
two have differed. -/
structure TripFilter where
  asserted : Bool
  raw : Bool
  age : Nat
deriving DecidableEq, Repr

/-- The PTRIP filter after either reset with the given raw level (R27): not asserted, the count not begun. -/
def TripFilter.atReset (raw : Bool) : TripFilter := { asserted := false, raw := raw, age := 0 }

/-! ### The governor -/

/-- Governor modes (R115). -/
inductive GovMode where
  | off
  | hold
  | fallback
  | regulate
deriving DecidableEq, Repr

/-- The last error (R115): controlling entry, controlling error, P and raw. -/
structure GovError where
  entry : StationId
  error : Int
  p : Int
  raw : Int
deriving DecidableEq, Repr

/-- The pressure governor (R115). The demand D and the integral I (in 1/64 unit) are never negative. -/
structure Governor where
  mode : GovMode
  kp : Nat
  ki : Nat
  dmin : Nat
  dmax : Nat
  dstep : Nat
  holdTime : Nat
  fallback : Nat
  demand : Nat
  integral : Nat
  holdTimer : Option Nat
  eligible : Option Nat
  lastError : Option GovError
  evalTimer : Nat
deriving DecidableEq, Repr

/-- The governor after power-on (R115). -/
def Governor.powerOn : Governor :=
  { mode := .off, kp := 0, ki := 0, dmin := 0, dmax := 10000, dstep := 100, holdTime := 30, fallback := 5000,
    demand := 0, integral := 0, holdTimer := none, eligible := none, lastError := none, evalTimer := 1000000 }

/-! ### The station line -/

/-- The sample spacing of a receiver (R134): the fraction accumulator, and the sixteenths of a microsecond left to the
next sample. -/
structure SampleClock where
  fraction : Nat
  left : Nat
deriving DecidableEq, Repr

/-- The states of the station bit sampler (R135). -/
inductive Sampler where
  | markWait
  | idle
  | character (reception : Reception)
  | lowWatch
deriving DecidableEq, Repr

/-- What the station sampler hands to the frame assembler (R135, R136). -/
inductive StationEvent where
  | character (byte : Byte) (noisy : Bool)
  | framingError
  | brk
deriving DecidableEq, Repr

/-- The states of the station frame assembler (R137), with the bytes taken and their noisy marks in BODY. -/
inductive StationAssembler where
  | hunt
  | address
  | body (taken : List (Byte × Bool))
deriving DecidableEq, Repr

/-- The last rejection of the station line (R139). -/
inductive Rejection where
  | none
  | framing
  | cutShort
  | check
  | noise
  | notEnabled (address : Byte)
  | repeated (address : Byte)
deriving DecidableEq, Repr

/-- The station receiver SRX (R134 to R139). The divisor is computed from the baud. `decided` is the event that the sampler
has decided at the present sample and the assembler has not taken yet. -/
structure StationReceiver where
  baud : Nat
  clock : SampleClock
  input : LineInput
  sampler : Sampler
  lowCount : Nat
  decided : Option StationEvent
  assembler : StationAssembler
  lastRejection : Rejection
deriving DecidableEq, Repr

/-- The station receiver after power-on (R134, R139), on an idle line (log entry 4); its first sample falls one sample
interval later. -/
def StationReceiver.powerOn : StationReceiver :=
  { baud := 9600, clock := { fraction := 0, left := 104 }, input := { level := true, ahead := [] }, sampler := .markWait,
    lowCount := 0, decided := none, assembler := .hunt, lastRejection := .none }

/-- The states of a station entry (R140). -/
inductive StationState where
  | never
  | fresh
  | stale
  | bad
deriving DecidableEq, Repr

/-- The quality of a reading (R142). -/
inductive Quality where
  | good
  | uncertain
  | bad
deriving DecidableEq, Repr

/-- The measured DP, last sequence and last quality, which are present together (R140). -/
structure Reading where
  dp : Nat
  sequence : Byte
  quality : Quality
deriving DecidableEq, Repr

/-- A station entry (R140). -/
structure Station where
  enabled : Bool
  address : Nat
  setpoint : Nat
  staleTime : Nat
  state : StationState
  reading : Option Reading
  staleTimer : Option Nat
deriving DecidableEq, Repr

/-- Station entry `k` after power-on (R140). -/
def Station.powerOn (k : StationId) : Station :=
  { enabled := false, address := k.val + 1, setpoint := 0, staleTime := 10, state := .never, reading := none,
    staleTimer := none }

/-! ### Link ports -/

/-- The three line settings of a port (R169): baud, parity EVEN or NONE, silence timeout in seconds. -/
structure LineSettings where
  baud : Nat
  even : Bool
  silence : Nat
deriving DecidableEq, Repr

/-- The line settings after power-on (R169). -/
def LineSettings.powerOn : LineSettings := { baud := 19200, even := true, silence := 15 }

/-- Port phases (R172). -/
inductive Phase where
  | listen
  | handling
  | turnaround
  | responding
deriving DecidableEq, Repr

/-- One entry of a receive FIFO (R170, R171): a byte with its marks. -/
structure FifoEntry where
  byte : Byte
  marks : Marks
  overrun : Bool
deriving DecidableEq, Repr

/-- The states of a port's frame assembler (R173), with the frame's bytes from the length byte on and whether any byte
of the frame, the lead included, was marked noisy. -/
inductive LinkAssembler where
  | hunt
  | length (noisy : Bool)
  | body (length : Nat) (taken : List Byte) (noisy : Bool)
  | check (length : Nat) (taken : List Byte) (first : Option Byte) (noisy : Bool)
deriving DecidableEq, Repr

/-- The last receive error of a port (R179). -/
inductive LinkError where
  | none
  | overrun
  | brk
  | framing
  | parity
  | length
  | timeout
  | check
  | noise
deriving DecidableEq, Repr

/-- The states of a port's receiver (R170): waiting for a high sample before it looks for a start edge, looking for one, or
inside a character. -/
inductive Receiver where
  | waitHigh
  | idle
  | character (reception : Reception)
deriving DecidableEq, Repr

/-- A response frame less its lead, length and check bytes, which follow from it (R176, R185). -/
structure Response where
  status : Byte
  code : Byte
  tag : Half
  payload : List Byte
deriving DecidableEq, Repr

/-- A link port (R169 to R182). `lineTimer` is, in 1/64 µs, the idle time left in TURNAROUND, absent while the line is not
idle, or the sending time left in RESPONDING. `decided` is the character that the receiver has completed at the present
sample and the FIFO has not taken yet. -/
structure Port where
  line : LineSettings
  pendingLine : Option LineSettings
  clock : SampleClock
  input : LineInput
  receiver : Receiver
  decided : Option (Byte × Marks)
  phase : Phase
  fifo : List FifoEntry
  overrunPending : Bool
  assembler : LinkAssembler
  interByte : Option Nat
  lastError : LinkError
  active : Bool
  silenceTimer : Option Nat
  flags : Half
  mask : Half
  response : Option Response
  lineTimer : Option Nat
deriving DecidableEq, Repr

/-- A port after power-on (R169, R182), on an idle line (log entry 4): SILENT with its silence timer absent, every flag clear,
the mask all enabled. -/
def Port.powerOn : Port :=
  { line := LineSettings.powerOn, pendingLine := none, clock := { fraction := 0, left := 52 },
    input := { level := true, ahead := [] }, receiver := .waitHigh, decided := none,
    phase := .listen, fifo := [], overrunPending := false, assembler := .hunt, interByte := none, lastError := .none,
    active := false, silenceTimer := none, flags := 0, mask := 0xFFFF, response := none, lineTimer := none }

end Sys2Proof.Machine
end

