-- ==== Sys2Proof/Machine/Actuator.lean ====
section
/-! DEFINITION. What happens to one actuator entry by itself: its supervision timers (R19, R20), its ramps (R33 to R36,
R38), its safe action (R22), and its entry of STARTING, STOPPING and service. -/

namespace Sys2Proof.Machine

/-- Microseconds of a number of seconds. -/
def seconds (n : Nat) : Nat := n * 1000000

/-- The slew interval (R32). -/
def slewInterval : Nat := 100000

/-- In service: any state but OUT_OF_SERVICE. -/
def inService (a : Actuator) : Bool := a.state != .outOfService

/-- In service and not FAULTED: where a first fault can reach the actuator (R21) and where supervision runs (R19, R20). -/
def healthy (a : Actuator) : Bool := inService a && a.state != .faulted

/-- Membership of a group (R103). -/
def memberOf (g : GroupId) (a : Actuator) : Bool := a.cfg.kind != .none && a.cfg.group == some g

/-- The deviation check and the feedback-loss check of R19 and R20, applied to the entry as it now stands: each timer
starts where its condition newly holds, goes on where it still holds, and is absent where it does not. -/
def supervise (a : Actuator) : Actuator :=
  match a.cfg.feedback, a.feedback with
  | some f, some v =>
    if healthy a then
      if v.status = .noSignal then
        { a with deviationTimer := none, lostTimer := some (a.lostTimer.getD (seconds f.time)) }
      else
        { a with
          lostTimer := none
          deviationTimer :=
            if f.tolerance < distance v.value a.command then some (a.deviationTimer.getD (seconds f.time)) else none }
    else { a with deviationTimer := none, lostTimer := none }
  | _, _ => { a with deviationTimer := none, lostTimer := none }

/-- A requested target clamped to the actuator's range (R33). -/
def clampTarget (a : Actuator) (target : Int) : Nat := clampInt a.cfg.min a.cfg.max target

/-- A requested rate clamped as R33 gives: 0 is the default rate, a negative rate is 1. -/
def clampRate (a : Actuator) (rate : Int) : Nat :=
  if rate = 0 then a.cfg.defaultRate
  else if rate < 0 then 1
  else if (a.cfg.maxRate : Int) < rate then a.cfg.maxRate
  else rate.toNat

/-- The rate step of a rate (R33). -/
def rateStepOf (rate : Nat) : Nat := (rate * 64 + 5) / 10

/-- The rate step of a requested rate (R33). -/
def rateStep (a : Actuator) (rate : Int) : Nat := rateStepOf (clampRate a rate)

/-- A ramp removed before it lands (R38): a MOVING valve becomes HOLDING; the command stays. -/
def removeRamp (a : Actuator) : Actuator :=
  { a with ramp := none, accumulator := 0, state := if a.state = .moving then .holding else a.state }

/-- The landing of a ramp on its target (R36): a MOVING valve becomes HOLDING, a pump in RAMP_DOWN passes to DROP_WAIT
with its proof timer started (R15). -/
def landRamp (target : Nat) (a : Actuator) : Actuator :=
  let b := { a with command := target, ramp := none, accumulator := 0 }
  match a.state with
  | .moving => { b with state := .holding }
  | .stopping .rampDown => { b with state := .stopping .dropWait, proofTimer := some (seconds (a.cfg.proofTimeout.getD 0)) }
  | _ => b

/-- What a ramp request comes to (R34). -/
inductive RampResult where
  /-- The target equals the command: the ramp lands at once. -/
  | landed
  /-- The ramp is installed. -/
  | installed
  /-- A MOVE on a HOLDING valve whose permissive does not permit: nothing is installed, and the valve faults (R17). -/
  | barred
deriving DecidableEq, Repr

/-- A ramp request with a requested target and a rate step (R33, R34). `permits` is whether the permissive permits. -/
def requestRamp (origin : RampOrigin) (target : Int) (step : Nat) (permits : Bool) (a : Actuator) :
    Actuator × RampResult :=
  let t := clampTarget a target
  if t = a.command then (landRamp t a, .landed)
  else if origin = .move ∧ a.state = .holding ∧ permits = false then (a, .barred)
  else
    ({ a with
        ramp := some { target := t, rateStep := step, origin := origin }
        accumulator := 0
        state := if origin = .move ∧ a.state = .holding then .moving else a.state }, .installed)

/-- A slew expiry of an actuator with the ramp `r` (R35): the new entry, and whether the ramp landed. -/
def stepRamp (r : Ramp) (a : Actuator) : Actuator × Bool :=
  let sum := a.accumulator + r.rateStep
  let w := sum / 64
  if distance r.target a.command ≤ w then (landRamp r.target a, true)
  else
    ({ a with
        accumulator := sum % 64
        command := if a.command < r.target then a.command + w else a.command - w }, false)

/-- The safe action of an actuator that has just become FAULTED (R22). A GO ramp that lands at once is reported by the caller
(R34, R36). -/
def safeAction (a : Actuator) : Actuator :=
  match a.cfg.kind, a.cfg.safeAction with
  | .pump, _ => { a with command := 0 }
  | .valve, some .go => (requestRamp .safe (a.cfg.safeValue.getD 0) (rateStep a a.cfg.maxRate) true a).1
  | _, _ => a

/-- Steps 1 to 4 of the fault procedure (R21) on the entry: the code and the command at fault are recorded, the follow
flag, any ramp, the timers and the stop phase go, and the safe action is taken in FAULTED. -/
def faultEntry (code : FaultCode) (a : Actuator) : Actuator :=
  safeAction
    { a with
      commandAtFault := a.command, fault := code, follow := none, ramp := none, accumulator := 0, proofTimer := none,
      deviationTimer := none, lostTimer := none, state := .faulted }

/-- A START handed to the entry (R13): STARTING at min with the proof timer, or RUNNING at once where the proof input
already reads running. -/
def startEntry (running : Bool) (a : Actuator) : Actuator :=
  { a with
    command := a.cfg.min
    state := if running then .running else .starting
    proofTimer := if running then none else some (seconds (a.cfg.proofTimeout.getD 0)) }

/-- A STOP handed to the entry with its stop rate (R15): RAMP_DOWN with a ramp toward min, or DROP_WAIT at once where the
command already equals min. That landing's report has no taker: the executor stands on the STOP, which takes none (R83). -/
def stopEntry (rate : Int) (a : Actuator) : Actuator :=
  (requestRamp .stop a.cfg.min (rateStep a rate) true
    { a with state := .stopping .rampDown, follow := none }).1

/-- The follow flag and follow step set by a FOLLOW step (R39). -/
def followEntry (rate : Int) (a : Actuator) : Actuator := { a with follow := some (rateStep a rate) }

/-- The output channel is released: OUT_OF_SERVICE, or a FAULTED valve whose safe action is RELEASE (R7). -/
def releases (a : Actuator) : Bool :=
  a.state == .outOfService || (a.state == .faulted && a.cfg.kind == .valve && a.cfg.safeAction == some .release)

/-- The run output is on: STARTING, RUNNING, or STOPPING in RAMP_DOWN (R8). -/
def runsOutput (a : Actuator) : Bool :=
  a.state == .starting || a.state == .running || a.state == .stopping .rampDown

end Sys2Proof.Machine
end

