-- ==== Sys2Proof/Machine/State.lean ====
section
/-! DEFINITION. The state of the SG-40, held as plain data, with the queue of waiting commands; the reasons a step could
stop; and the state right after power-on. -/

namespace Sys2Proof.Machine

/-- The faults. There are none: the manual answers every wrong request with a refusal code in a response, and every
field fault is an effect on the state. -/
inductive Fault where
deriving DecidableEq, Repr

/-- The refusals of the model. -/
inductive Refusal where
  /-- Raised by exec alone, for a command that has no meaning yet; safe. No arm uses it now. -/
  | notModelled (mnemonic : String)
deriving DecidableEq, Repr

/-- The SG-40. -/
structure State where
  /-- CLM: the holders of G0 to G4 (R104). -/
  groupHolders : Table (Option Master) 5
  /-- CLM: the holder of GOV (R104). -/
  govHolder : Option Master
  /-- DST (R46). -/
  slots : Table Slot 128
  /-- PRT (R55). -/
  profile : Table Half 64
  /-- GX0 to GX4 (R68, R59). -/
  executors : Table Executor 5
  /-- ACT (R2). -/
  actuators : Table Actuator 16
  /-- OC0 to OC15 with DO0 to DO15 (R149, R151). -/
  outputs : Table OutputChannel 16
  /-- CC0 to CC15 (R153). -/
  captures : Table Capture 16
  /-- The 24-bit capture counter (R153). -/
  counter : Stamp
  /-- DI0 to DI23 (R165). -/
  inputs : Table InputFilter 24
  /-- The PTRIP filter (R27). -/
  ptrip : TripFilter
  /-- SRX (R134). -/
  receiver : StationReceiver
  /-- STB (R140). -/
  stations : Table Station 8
  /-- GOV (R115). -/
  governor : Governor
  /-- LP1 (R169). -/
  port1 : Port
  /-- LP2 (R169). -/
  port2 : Port
  /-- The model's own field: how many open choices have been made (log entry 3). -/
  freeCount : Nat
  /-- The commands that wait, first in, first out. -/
  pending : List Instr
deriving DecidableEq, Repr

/-- The state after power-on, as each chapter gives it. The raw levels of the input pins, which the outside drives, are
named by log entry 4: every discrete input low, PTRIP high (not asserted). -/
def State.reset : State :=
  { groupHolders := Vector.replicate 5 none
    govHolder := none
    slots := Vector.replicate 128 Slot.powerOn
    profile := Vector.replicate 64 0
    executors := Vector.replicate 5 Executor.powerOn
    actuators := Vector.replicate 16 Actuator.powerOn
    outputs := Vector.replicate 16 OutputChannel.powerOn
    captures := Vector.replicate 16 Capture.powerOn
    counter := 0
    inputs := Vector.replicate 24 (InputFilter.powerOn false)
    ptrip := TripFilter.atReset true
    receiver := StationReceiver.powerOn
    stations := Vector.ofFn Station.powerOn
    governor := Governor.powerOn
    port1 := Port.powerOn
    port2 := Port.powerOn
    freeCount := 0
    pending := [] }

end Sys2Proof.Machine
end

