-- ==== Sys2Proof/Machine/Flags.lean ====
section
/-! DEFINITION. The two ports by their masters, the attention flags of each master and the ALERT lines (R180, R184). -/

namespace Sys2Proof.Machine

/-- The port of a master. -/
def port (m : Master) (s : State) : Port :=
  match m with
  | .m1 => s.port1
  | .m2 => s.port2

/-- The state with the port of a master replaced. -/
def setPort (m : Master) (p : Port) (s : State) : State :=
  match m with
  | .m1 => { s with port1 := p }
  | .m2 => { s with port2 := p }

/-- The attention flags (R180). -/
inductive Attention where
  | chainEnd (g : GroupId)
  | chainHalted (g : GroupId)
  | actFault
  | claimLost
  | claimsChanged
  | govMode
  | stationState
  | trip
deriving DecidableEq, Repr

/-- The bit of a flag in a flag set (R184). -/
def flagBit : Attention → Nat
  | .chainEnd g => g.val
  | .chainHalted g => 5 + g.val
  | .actFault => 10
  | .claimLost => 11
  | .claimsChanged => 12
  | .govMode => 13
  | .stationState => 14
  | .trip => 15

/-- The flag set that names one flag. -/
def flagMask (f : Attention) : Half := (1 : Half) <<< flagBit f

/-- A flag set in the port of one master (R180): a flag already set stays set. -/
def setFlag (m : Master) (f : Attention) (s : State) : State :=
  setPort m { port m s with flags := (port m s).flags ||| flagMask f } s

/-- A flag set for both masters in one event (R180). -/
def setFlagBoth (f : Attention) (s : State) : State := setFlag .m2 f (setFlag .m1 f s)

/-- A flag is set in a master's port. -/
def flagSet (m : Master) (f : Attention) (s : State) : Bool := (port m s).flags.getLsbD (flagBit f)

/-- The ALERT line of a master is low: a flag is set whose mask enable is set (R180). -/
def alertLow (m : Master) (s : State) : Bool := (port m s).flags &&& (port m s).mask != 0

end Sys2Proof.Machine
end

