-- ==== Sys2Proof/Machine/Operands.lean ====
section
/-! DEFINITION. Operand addressing: the cursors, the effective row, the fetch of a step's operands and the cursor update
of IDXU (R59, R63 to R66), and the invalid forms that the record alone shows (R67). -/

namespace Sys2Proof.Machine

/-- The value of a base cursor of a group; C0 reads 0 (R59). -/
def cursorValue (x : Executor) : BaseCursor → RowId
  | .c0 => 0
  | .c1 => x.c1
  | .c2 => x.c2

/-- A number reduced mod 64, Euclidean (section 5.3). -/
def mod64 (x : Int) : RowId := ⟨(x % 64).toNat, by omega⟩

/-- The effective row of an operand (R63): none for IMM. -/
def effectiveRow (x : Executor) : Operand → Option RowId
  | .imm _ => none
  | .row r => some r
  | .idx b d => some (mod64 ((cursorValue x b).val + d.toInt))
  | .idxu b d => some (mod64 ((cursorValue x b).val + d.toInt))

/-- The values fetched at a step's acceptance (R63, R65): the immediate or the effective row's value, and for a pair the
value of the row after it, with row 63 paired with row 0. -/
def fetch (profile : Table Half 64) (x : Executor) (d : Descriptor) : Retained :=
  match d.operand, effectiveRow x d.operand with
  | .imm v, _ => { first := v, second := none, row := none }
  | _, none => { first := 0, second := none, row := none }
  | _, some e =>
    { first := profile[e], second := if d.pair then some profile[mod64 (e.val + 1)] else none, row := some e }

/-- The executor with a cursor set; C0 has no stored value (R59). -/
def setCursor (x : Executor) (b : BaseCursor) (r : RowId) : Executor :=
  match b with
  | .c0 => x
  | .c1 => { x with c1 := r }
  | .c2 => { x with c2 := r }

/-- The cursor update that belongs to acceptance: IDXU sets its base cursor to the effective row (R64). -/
def updateCursor (x : Executor) (o : Operand) : Executor :=
  match o, effectiveRow x o with
  | .idxu b _, some e => setCursor x b e
  | _, _ => x

/-- The cursor a CURSOR step names, as a base cursor. -/
def CursorName.base : CursorName → BaseCursor
  | .c1 => .c1
  | .c2 => .c2

/-- A CURSOR step's execution with its retained first value (R88). -/
def applyCursor (x : Executor) (c : CursorName) (action : CursorAction) (v : Half) : Executor :=
  match action with
  | .load => setCursor x c.base (mod64 v.toInt)
  | .add => setCursor x c.base (mod64 ((cursorValue x c.base).val + v.toInt))

/-- The actuator a step moves: MOVE, START, STOP and FOLLOW name one. -/
def Op.actuator : Op → Option ActId
  | .move a _ _ => some a
  | .start a => some a
  | .stop a => some a
  | .follow a => some a
  | .dwell => none
  | .awaitInput _ _ _ => none
  | .awaitMeas _ _ _ => none
  | .cursor _ _ => none

/-- The op is a MOVE. -/
def Op.isMove : Op → Bool
  | .move _ _ _ => true
  | _ => false

/-- The op needs a pump: START, STOP and FOLLOW. -/
def Op.needsPump : Op → Bool
  | .start _ => true
  | .stop _ => true
  | .follow _ => true
  | _ => false

/-- The invalid forms of R67 that are judged against the record. -/
def invalidRecord (d : Descriptor) : Bool :=
  (match d.operand with
    | .idxu .c0 _ => true
    | .idxu b _ => (match d.op with
      | .cursor c _ => c.base == b
      | _ => false)
    | .imm _ => d.pair
    | _ => false)
  || (d.pair && !d.op.isMove)
  || (match d.op with
    | .start _ => d.operand != .imm 0
    | _ => false)
  || d.onFail == .branch none

end Sys2Proof.Machine
end

