-- ==== Sys2Proof/Machine/Ops.lean ====
section
/-! DEFINITION. The named operations over the whole state: writing an actuator entry, with its supervision and its output
channel; the open order of things that come together; the end of a chain (R98); the first fault, the further fault and
the group trip (R21, R23, R24). -/

namespace Sys2Proof.Machine

/-! ### Open order -/

/-- A list in an order that the free values choose, with the number of choices made. A list of at most one thing needs no
choice. -/
def shuffle {α : Type} : Nat → List α → Nat → List α × Nat
  | 0, xs, k => (xs, k)
  | _ + 1, [], k => ([], k)
  | _ + 1, [x], k => ([x], k)
  | fuel + 1, x :: y :: r, k =>
    let i := Config.freePick k % (r.length + 2)
    let rest := shuffle fuel ((x :: y :: r).eraseIdx i) (k + 1)
    ((x :: y :: r).getD i x :: rest.1, rest.2)

/-- The things of a list taken one after another in an open order (log entry 3). -/
def takeInOpenOrder {α : Type} (act : α → State → State) (xs : List α) (s : State) : State :=
  let order := shuffle xs.length xs s.freeCount
  order.1.foldl (fun t x => act x t) { s with freeCount := order.2 }

/-- All actuators, in number order. -/
def allActuators : List ActId := List.finRange 16

/-- All groups, in number order. -/
def allGroups : List GroupId := List.finRange 5

/-! ### Writing records -/

/-- The period an output channel will run from its next period end (R43). -/
def nextPeriod (o : OutputChannel) : Nat := o.pendingPeriod.getD o.activePeriod

/-- The output channel as its actuator entry makes it: the pending duty of the command (R43), released or driven (R7,
R150) with the line held inactive until the next period end when it is driven again, and the run output (R8, R151). -/
def outputFor (a : Actuator) (o : OutputChannel) : OutputChannel :=
  { o with
    pendingDuty := dutyOf a.command (nextPeriod o)
    condition := if releases a then .released else .driven
    held := if releases a then false else o.held || o.condition == .released
    runOutput := runsOutput a }

/-- An actuator entry replaced: its supervision is brought up to date and its output channel follows it. -/
def putActuator (n : ActId) (a : Actuator) (s : State) : State :=
  { s with
    actuators := put s.actuators n (supervise a)
    outputs := put s.outputs n (outputFor a s.outputs[n]) }

/-- An executor's record replaced. -/
def putExecutor (g : GroupId) (x : Executor) (s : State) : State := { s with executors := put s.executors g x }

/-- A slot replaced. -/
def putSlot (k : SlotId) (x : Slot) (s : State) : State := { s with slots := put s.slots k x }

/-- A capture channel replaced. -/
def putCapture (c : CaptureId) (x : Capture) (s : State) : State := { s with captures := put s.captures c x }

/-- A station entry replaced. -/
def putStation (k : StationId) (x : Station) (s : State) : State := { s with stations := put s.stations k x }

/-- An input filter replaced. -/
def putInput (d : InputId) (x : InputFilter) (s : State) : State := { s with inputs := put s.inputs d x }

/-! ### Inputs as the actuators see them -/

/-- The filtered level of a discrete input (R165). -/
def filteredLevel (d : InputId) (s : State) : Bool := s.inputs[d].filtered

/-- The permissive of an actuator permits, or it has none (R3). -/
def permits (a : Actuator) (s : State) : Bool :=
  match a.cfg.permissive with
  | none => true
  | some p => filteredLevel p.input s == p.sense

/-- The proof input of a pump reads running (R3). -/
def proofRunning (a : Actuator) (s : State) : Bool :=
  match a.cfg.proofInput with
  | none => false
  | some d => filteredLevel d s

/-! ### Chain ends -/

/-- Slots returned to WRITTEN, keeping writer and record, where `which` says so of the bound group (R53, R46). -/
def unbindSlots (which : GroupId → Bool) (s : State) : State :=
  { s with
    slots := each (fun _ x =>
      match x.state with
      | .bound w g => if which g then { x with state := .written w } else x
      | _ => x) s.slots }

/-- A ramp that a chain end with an outcome other than COMPLETE removes: of origin MOVE or FOLLOW (R38, R98). -/
def chainRamp (a : Actuator) : Bool :=
  match a.ramp with
  | some r => r.origin == .move || r.origin == .follow
  | none => false

/-- Step 2 of a chain end: the MOVE and FOLLOW ramps of the group's actuators are removed (R98). -/
def removeChainRamps (g : GroupId) (s : State) : State :=
  allActuators.foldl (fun t n =>
    if memberOf g t.actuators[n] && chainRamp t.actuators[n] then putActuator n (removeRamp t.actuators[n]) t else t) s

/-- The chain record as a chain end leaves it (R98, step 4). -/
def endedExecutor (o : ChainOutcome) (x : Executor) : Executor :=
  { x with
    state := .idle, outcome := o, current := none, waiting := none, timer := none, currentAccepted := none,
    retained := none }

/-- A chain end (R98), carried out whole. -/
def endChain (g : GroupId) (o : ChainOutcome) (s : State) : State :=
  let s1 := if o = .complete then s else removeChainRamps g s
  let s2 := unbindSlots (· == g) s1
  let s3 := putExecutor g (endedExecutor o s2.executors[g]) s2
  match s3.executors[g].starter with
  | some m => setFlag m (.chainEnd g) s3
  | none => s3

/-- A chain end from outside: it ends a chain that is ACTIVE or HALTED and finds nothing to end in IDLE (R100). -/
def endIfRunning (g : GroupId) (o : ChainOutcome) (s : State) : State :=
  if s.executors[g].state = .idle then s else endChain g o s

/-! ### Faults -/

/-- Steps 1 to 5 of the fault procedure at an actuator in service and not FAULTED (R21). -/
def firstFault (code : FaultCode) (n : ActId) (s : State) : State :=
  setFlagBoth .actFault (putActuator n (faultEntry code s.actuators[n]) s)

/-- A fault that reaches an actuator already FAULTED (R24). -/
def furtherFault (n : ActId) (s : State) : State :=
  setFlagBoth .actFault (putActuator n { s.actuators[n] with furtherFault := true } s)

/-- A fault with code GROUP_TRIP or PLANT_TRIP at any actuator: a first fault where it is healthy, a further fault where
it is FAULTED, nothing where it is out of service (R23, R28). -/
def tripFault (code : FaultCode) (n : ActId) (s : State) : State :=
  if healthy s.actuators[n] then firstFault code n s
  else if inService s.actuators[n] then furtherFault n s
  else s

/-- The group trip begun by actuator `n` of group `g` (R23): every other in-service actuator of the group takes
GROUP_TRIP, and the group's chain ends TRIPPED. -/
def groupTrip (g : GroupId) (n : ActId) (s : State) : State :=
  endIfRunning g .tripped
    (allActuators.foldl (fun t k => if k ≠ n ∧ memberOf g t.actuators[k] then tripFault .groupTrip k t else t) s)

end Sys2Proof.Machine
end

