-- ==== Sys2Proof/Machine/Chain.lean ====
section
/-! DEFINITION. Chain execution (Chapter 4): the acceptance checks, the carrying out of each op, completion and failure,
the run of steps within one event, and the use an executor makes of the reports of ACT (R25, R89). -/

namespace Sys2Proof.Machine

/-! ### Taking a step -/

/-- The state of the actuator suits the op (R77). -/
def suits (op : Op) (a : Actuator) : Bool :=
  match op with
  | .move _ _ _ => a.state == .running || a.state == .holding || a.state == .moving
  | .start _ => a.state == .stopped
  | .stop _ => a.state == .running
  | .follow _ => a.state == .running
  | _ => true

/-- The acceptance checks of R77: the reason of the first check that fails, none where the step is accepted. -/
def acceptanceFailure (g : GroupId) (op : Op) (s : State) : Option FailReason :=
  match op.actuator with
  | none => none
  | some n =>
    let a := s.actuators[n]
    if ¬ (memberOf g a && healthy a) then some .notAvailable
    else if ¬ suits op a then some .wrongState
    else match op with
      | .start _ => if permits a s then none else some .permissive
      | .follow _ => if s.governor.mode = .off then some .governorOff else none
      | _ => none

/-- The record of the slot an executor stands on. -/
def currentRecord (g : GroupId) (s : State) : Option Descriptor :=
  match s.executors[g].current with
  | some k => some s.slots[k].record
  | none => none

/-- Acceptance less the beginning of the execution (R78, steps 1 to 4): the operands are fetched and retained, IDXU sets
its cursor, and the step is counted. -/
def acceptStep (g : GroupId) (d : Descriptor) (s : State) : State :=
  let x := s.executors[g]
  let y := updateCursor x d.operand
  putExecutor g { y with retained := some (fetch s.profile x d), stepCount := x.stepCount + 1 } s

/-! ### Carrying out a step -/

/-- What the beginning of a step's execution comes to. -/
inductive Progress where
  /-- The step waits. -/
  | waits
  /-- The step completes at once. -/
  | completes
  /-- The step fails at stage EXECUTION. -/
  | fails (reason : FailReason)
  /-- A group trip has ended the chain under the step (R80). -/
  | ended
deriving DecidableEq, Repr

/-- The executor put to wait (R68), with its step's timer where it runs one. -/
def waitFor (g : GroupId) (w : Waiting) (timer : Option Nat) (s : State) : State :=
  putExecutor g { s.executors[g] with waiting := some w, timer := timer } s

/-- The feedback condition of a MOVE with wait yes (R81), judged against the clamped target. -/
def feedbackReached (a : Actuator) (target : Int) : Bool :=
  match a.cfg.feedback, a.feedback with
  | some f, some v => v.status != .noSignal && decide (distance v.value (clampTarget a target) ≤ f.tolerance)
  | _, _ => true

/-- A MOVE whose ramp has landed: it completes, or it waits for FEEDBACK (R81). -/
def afterLanding (g : GroupId) (n : ActId) (target : Int) (s : State) : State × Progress :=
  if feedbackReached s.actuators[n] target then (s, .completes) else (waitFor g .feedback none s, .waits)

/-- A MOVE step (R80): a following pump's flag is cleared, the ramp is requested, and the step completes, waits, or meets
the fault of a valve that may not begin its stroke. Where that fault's safe action lands at once, its report has no taker: the
step is failing here, and waits for no landing (log entry 15). -/
def beginMove (g : GroupId) (n : ActId) (target rate : Int) (wait : Bool) (s : State) : State × Progress :=
  let a := { s.actuators[n] with follow := none }
  match requestRamp .move target (rateStep a rate) (permits a s) a with
  | (b, .landed) =>
    let s1 := putActuator n b s
    if wait then afterLanding g n target s1 else (s1, .completes)
  | (b, .installed) =>
    let s1 := putActuator n b s
    if wait then (waitFor g .landing none s1, .waits) else (s1, .completes)
  | (_, .barred) =>
    let s1 := firstFault .permissiveLost n s
    match a.cfg.tripScope with
    | .self => (s1, .fails .faultedDuring)
    | .group => (groupTrip g n s1, .ended)

/-- A START step (R82, R13). -/
def beginStart (g : GroupId) (n : ActId) (s : State) : State × Progress :=
  let running := proofRunning s.actuators[n] s
  let s1 := putActuator n (startEntry running s.actuators[n]) s
  if running then (s1, .completes) else (waitFor g .runProof none s1, .waits)

/-- A STOP step with its stop rate (R83, R15). -/
def beginStop (g : GroupId) (n : ActId) (rate : Int) (s : State) : State × Progress :=
  (waitFor g .stopProof none (putActuator n (stopEntry rate s.actuators[n]) s), .waits)

/-- A FOLLOW step with its follow rate (R84, R39). -/
def beginFollow (n : ActId) (rate : Int) (s : State) : State × Progress :=
  (putActuator n (followEntry rate s.actuators[n]) s, .completes)

/-- The execution of a step on its retained operands (section 4.4). -/
def beginStep (g : GroupId) (op : Op) (r : Retained) (s : State) : State × Progress :=
  match op with
  | .move n rate wait =>
    beginMove g n r.first.toInt (match r.second with | some v => v.toInt | none => rate) wait s
  | .start n => beginStart g n s
  | .stop n => beginStop g n r.first.toInt s
  | .follow n => beginFollow n r.first.toInt s
  | .dwell => (waitFor g .timer (some (seconds (clampInt 1 3600 r.first.toInt))) s, .waits)
  | .awaitInput d level t =>
    if filteredLevel d s = level then (s, .completes) else (waitFor g .input (some (seconds t)) s, .waits)
  | .awaitMeas _ _ t => (waitFor g .measurement (some (seconds t)) s, .waits)
  | .cursor c action => (putExecutor g (applyCursor s.executors[g] c action r.first) s, .completes)

/-! ### Completion and failure -/

/-- The completion of the current step (R90): the chain ends COMPLETE at END, or the slot to take next is given. -/
def completeStep (g : GroupId) (s : State) : State × Option SlotId :=
  match currentRecord g s with
  | none => (s, none)
  | some d =>
    match d.next with
    | none => (endChain g .complete s, none)
    | some k => (s, some k)

/-- On-fail HALT (R93). -/
def haltChain (g : GroupId) (accepted : Bool) (s : State) : State :=
  let s1 := putExecutor g
    { s.executors[g] with state := .halted, waiting := none, timer := none, currentAccepted := some accepted } s
  match s1.groupHolders[g] with
  | some m => setFlag m (.chainHalted g) s1
  | none => s1

/-- A failure of the current step (R91 to R93): it is recorded, the step's timer is discarded and the on-fail is applied.
`accepted` is what a halt records as "current accepted". -/
def failStep (g : GroupId) (reason : FailReason) (stage : FailStage) (accepted : Bool) (s : State) :
    State × Option SlotId :=
  match s.executors[g].current with
  | none => (s, none)
  | some k =>
    let d := s.slots[k].record
    let s1 := putExecutor g
      { s.executors[g] with
        lastFailure := some { slot := k, reason := reason, stage := stage }, waiting := none, timer := none } s
    match d.onFail with
    | .halt => (haltChain g accepted s1, none)
    | .continue =>
      match d.next with
      | none => (endChain g .failed s1, none)
      | some n => (s1, some n)
    | .abort => (endChain g .failed s1, none)
    | .branch (some n) => (s1, some n)
    | .branch none => (endChain g .failed s1, none)

/-- What the beginning of the current step's execution leads to. -/
def settleStep (g : GroupId) (p : State × Progress) : State × Option SlotId :=
  match p.2 with
  | .waits => (p.1, none)
  | .completes => completeStep g p.1
  | .fails r => failStep g r .execution true p.1
  | .ended => (p.1, none)

/-- A slot taken (R76): its acceptance checks, and on acceptance its fetch and execution (R78), or its failure at
acceptance (R79). The answer names the slot to take next in the same event, where there is one. -/
def takeSlot (g : GroupId) (k : SlotId) (s : State) : State × Option SlotId :=
  let s1 := putExecutor g
    { s.executors[g] with
      state := .active, current := some k, waiting := none, timer := none, currentAccepted := none } s
  let d := s.slots[k].record
  match acceptanceFailure g d.op s1 with
  | some r => failStep g r .acceptance false s1
  | none =>
    let s2 := acceptStep g d s1
    settleStep g (beginStep g d.op (fetch s1.profile s1.executors[g] d) s2)

/-- The run of steps within one event (R76), up to the first that waits, halts or ends the chain. A chain that RUN CHAIN
has validated has no loop and takes each of the 128 slots at most once, so that the number of steps is never the limit. -/
def runFrom : Nat → GroupId → SlotId → State → State
  | 0, _, _, s => s
  | fuel + 1, g, k, s =>
    match takeSlot g k s with
    | (t, none) => t
    | (t, some n) => runFrom fuel g n t

/-- The most slots one event can take. -/
def chainFuel : Nat := 128

/-- The executor goes on to the slot that a completion or failure names. -/
def proceed (g : GroupId) (p : State × Option SlotId) : State :=
  match p.2 with
  | none => p.1
  | some k => runFrom chainFuel g k p.1

/-! ### Reports of ACT to the executor -/

/-- The executor's current step waits on actuator `n`, for the thing named (R68, R89). -/
def waitsOn (g : GroupId) (n : ActId) (w : Waiting) (s : State) : Bool :=
  s.executors[g].state == .active && s.executors[g].waiting == some w &&
    (match currentRecord g s with
      | some d => d.op.actuator == some n
      | none => false)

/-- The current step completes and the chain goes on (R90). -/
def completeAndProceed (g : GroupId) (s : State) : State := proceed g (completeStep g s)

/-- The current step fails at stage EXECUTION and its on-fail is carried out (R91). -/
def failAndProceed (g : GroupId) (reason : FailReason) (s : State) : State :=
  proceed g (failStep g reason .execution true s)

/-- The retained first value of a group's current step. -/
def retainedTarget (g : GroupId) (s : State) : Int :=
  match s.executors[g].retained with
  | some r => r.first.toInt
  | none => 0

/-- The report target reached (R25, R81). -/
def reportLanded (n : ActId) (s : State) : State :=
  match s.actuators[n].cfg.group with
  | none => s
  | some g =>
    if waitsOn g n .landing s then proceed g (settleStep g (afterLanding g n (retainedTarget g s) s)) else s

/-- The report feedback changed (R25, R81). -/
def reportFeedback (n : ActId) (s : State) : State :=
  match s.actuators[n].cfg.group with
  | none => s
  | some g =>
    if waitsOn g n .feedback s && feedbackReached s.actuators[n] (retainedTarget g s) then completeAndProceed g s else s

/-- The report start proven (R25, R82). -/
def reportStarted (n : ActId) (s : State) : State :=
  match s.actuators[n].cfg.group with
  | none => s
  | some g => if waitsOn g n .runProof s then completeAndProceed g s else s

/-- The report stop proven (R25, R83). -/
def reportStopped (n : ActId) (s : State) : State :=
  match s.actuators[n].cfg.group with
  | none => s
  | some g => if waitsOn g n .stopProof s then completeAndProceed g s else s

/-- The reason with which a waiting step fails on a fault report (R25, R82, R83). -/
def faultReason (w : Waiting) (code : FaultCode) : FailReason :=
  match w, code with
  | .runProof, .proofFail => .proofFail
  | .stopProof, .stopFail => .stopFail
  | _, _ => .faultedDuring

/-- The report of a fault with its code (R25). -/
def reportFault (n : ActId) (code : FaultCode) (s : State) : State :=
  match s.actuators[n].cfg.group with
  | none => s
  | some g =>
    if waitsOn g n .runProof s then failAndProceed g (faultReason .runProof code) s
    else if waitsOn g n .stopProof s then failAndProceed g (faultReason .stopProof code) s
    else if waitsOn g n .landing s || waitsOn g n .feedback s then failAndProceed g .faultedDuring s
    else s

/-- The SAFE ramp of this entry's safe action lands at once (R22, R34): the valve's command is its safe value already. -/
def landsAtFault (a : Actuator) : Bool :=
  a.cfg.kind == .valve && a.cfg.safeAction == some .go && clampTarget a (a.cfg.safeValue.getD 0) == a.command

/-- The report target reached of a safe action that landed at once (R34, R36) at actuator `n`, whose entry before its fault
was `a`. It is handed after the report of the fault itself (log entry 15). -/
def reportSafeLanding (a : Actuator) (n : ActId) (s : State) : State := if landsAtFault a then reportLanded n s else s

/-- These reports for every actuator that has taken a first fault between `before` and `s`. -/
def reportSafeLandings (before s : State) : State :=
  allActuators.foldl (fun t n =>
    if healthy before.actuators[n] && t.actuators[n].state == .faulted then
      reportSafeLanding before.actuators[n] n t
    else t) s

/-- A fault of an actuator's own (R21): the first fault, then the group trip where its trip scope is GROUP, and otherwise
the report to its group's executor; and last the reports of the safe actions that landed at once. It reaches a healthy
actuator only. -/
def raiseFault (code : FaultCode) (n : ActId) (s : State) : State :=
  if healthy s.actuators[n] then
    let s1 := firstFault code n s
    match s.actuators[n].cfg.tripScope, s.actuators[n].cfg.group with
    | .group, some g => reportSafeLandings s (groupTrip g n s1)
    | _, _ => reportSafeLanding s.actuators[n] n (reportFault n code s1)
  else s

/-! ### Starting and resuming -/

/-- The halted step carried out again where it had been accepted (R95): the checks of R77 again, then its execution on
the retained operands, with no fetch, no cursor update and no count. -/
def retryAccepted (g : GroupId) (s : State) : State × Option SlotId :=
  match s.executors[g].current, s.executors[g].retained with
  | some k, some r =>
    let d := s.slots[k].record
    match acceptanceFailure g d.op s with
    | some reason => failStep g reason .acceptance true s
    | none => settleStep g (beginStep g d.op r s)
  | _, _ => (s, none)

/-- RETRY (R95). -/
def retryChain (g : GroupId) (s : State) : State :=
  let x := s.executors[g]
  let s1 := putExecutor g { x with state := .active, currentAccepted := none } s
  match x.currentAccepted, x.current with
  | some true, _ => proceed g (retryAccepted g s1)
  | _, some k => proceed g (s1, some k)
  | _, none => s1

/-- SKIP (R96): the halted step is left as it failed, and its next is taken. -/
def skipChain (g : GroupId) (s : State) : State :=
  proceed g (completeStep g (putExecutor g { s.executors[g] with state := .active, currentAccepted := none } s))

end Sys2Proof.Machine
end

