-- ==== Sys2Proof/Machine/Reply.lean ====
section
/-! DEFINITION. The answers of owners: refusal codes (R187), the payload a response carries, and the whole response frame
(R176, R185). -/

namespace Sys2Proof.Machine

/-- The refusal codes (R187). -/
inductive RefusalCode where
  | notHolder
  | heldByOther
  | busy
  | bound
  | ownedByOther
  | foreignSlot
  | unwrittenSlot
  | chainLoop
  | chainTooLong
  | invalidForm
  | wrongState
  | tripActive
  | notPresent
  | inUse
  | duplicate
  | outOfRange
  | unknownRequest
  | badLength
deriving DecidableEq, Repr

/-- The status byte of a refusal (R187). -/
def refusalByte : RefusalCode → Byte
  | .notHolder => 1
  | .heldByOther => 2
  | .busy => 3
  | .bound => 4
  | .ownedByOther => 5
  | .foreignSlot => 6
  | .unwrittenSlot => 7
  | .chainLoop => 8
  | .chainTooLong => 9
  | .invalidForm => 10
  | .wrongState => 11
  | .tripActive => 12
  | .notPresent => 13
  | .inUse => 14
  | .duplicate => 15
  | .outOfRange => 16
  | .unknownRequest => 17
  | .badLength => 18

/-- What an owner answers: OK with its payload, or a refusal with the payload its rule gives (R176, R188). -/
inductive Reply where
  | ok (payload : List Byte)
  | refuse (code : RefusalCode) (payload : List Byte)
deriving DecidableEq, Repr

/-- The status byte of an answer (R176). -/
def replyStatus : Reply → Byte
  | .ok _ => 0
  | .refuse c _ => refusalByte c

/-- The payload of an answer. -/
def replyPayload : Reply → List Byte
  | .ok p => p
  | .refuse _ p => p

/-- An owner's refusal with no payload: no effect. -/
def refuse (c : RefusalCode) (s : State) : State × Reply := (s, .refuse c [])

/-- The bytes of a response from its length byte through its last payload byte (R185). -/
def responseBody (r : Response) : List Byte :=
  byte1 (4 + r.payload.length) ++ [r.status, r.code] ++ byte2 r.tag.toNat ++ r.payload

/-- The whole response frame: lead, body and check (R176, R185). -/
def responseFrame (r : Response) : List Byte :=
  (0xD3 : Byte) :: (responseBody r ++ byte2 (crc16 (responseBody r)).toNat)

/-- A byte as an index below `n`, where it is one. -/
def index? (n : Nat) (b : Byte) : Option (Fin n) := if h : b.toNat < n then some ⟨b.toNat, h⟩ else none

/-- A master as a byte: 1 or 2 (R186). -/
def masterByte : Master → Byte
  | .m1 => 1
  | .m2 => 2

/-- A holder, writer or starter as a byte, 0 where there is none (R186, R189, R191). -/
def holderByte : Option Master → Byte
  | none => 0
  | some m => masterByte m

/-- An index as a byte, 255 where it is absent (R183). -/
def indexByte {n : Nat} : Option (Fin n) → Byte
  | none => 255
  | some k => BitVec.ofNat 8 k.val

end Sys2Proof.Machine
end

