-- ==== Sys2Proof/Machine/Layouts.lean ====
section
/-! DEFINITION. The records of Chapter 10: reading the records that requests carry, with their range checks (R183, R189,
R190, R192, R193), and writing the records that responses carry (R189 to R193). -/

namespace Sys2Proof.Machine

/-! ### The descriptor record (R189) -/

/-- A yes or no byte (R183). -/
def flag? (b : Byte) : Option Bool :=
  match b.toNat with
  | 0 => some false
  | 1 => some true
  | _ => none

/-- A number within `lo..hi`, where it is one. -/
def range? (lo hi n : Nat) : Option Nat := if lo ≤ n ∧ n ≤ hi then some n else none

/-- A link byte: slot 0..127, or 255 for END or NONE (R189). -/
def link? (b : Byte) : Option (Option SlotId) :=
  if b = 255 then some none else (index? 128 b).map some

/-- A base cursor byte (R189). -/
def base? (b : Byte) : Option BaseCursor :=
  match b.toNat with
  | 0 => some .c0
  | 1 => some .c1
  | 2 => some .c2
  | _ => none

/-- A displacement byte, −32..+31 in two's complement (R183, R189). -/
def displacement? (b : Byte) : Option (BitVec 6) :=
  if -32 ≤ b.toInt ∧ b.toInt ≤ 31 then some (BitVec.ofInt 6 b.toInt) else none

/-- The operand of a record under its mode (R189). -/
def operand? (mode high low : Byte) : Option Operand :=
  match mode.toNat with
  | 0 => some (.imm (join2 high low))
  | 1 => if high = 0 then (index? 64 low).map Operand.row else none
  | 2 => (base? high).bind fun b => (displacement? low).map fun d => Operand.idx b d
  | 3 => (base? high).bind fun b => (displacement? low).map fun d => Operand.idxu b d
  | _ => none

/-- The op of a record, with the range checks of the fields that it uses (R48, R49). The qualifier byte of an op that has no
qualifier is not judged, and reads back as 0 (log entry 22). -/
def op? (r : RawDescriptor) (pair : Bool) : Option Op :=
  match r.op.toNat with
  | 0 =>
    (index? 16 r.subject).bind fun a =>
    (flag? r.wait).bind fun w =>
    if pair then some (.move a 0 w) else (range? 0 10000 r.second.toNat).map fun rate => Op.move a rate w
  | 1 => (index? 16 r.subject).map Op.start
  | 2 => (index? 16 r.subject).map Op.stop
  | 3 => (index? 16 r.subject).map Op.follow
  | 4 => some .dwell
  | 5 =>
    (index? 24 r.subject).bind fun d =>
    (flag? r.qualifier).bind fun l =>
    (range? 1 3600 r.second.toNat).map fun t => Op.awaitInput d l t
  | 6 =>
    (index? 16 r.subject).bind fun c =>
    (flag? r.qualifier).bind fun (q : Bool) =>
    (range? 1 3600 r.second.toNat).map fun t => Op.awaitMeas c (if q then .below else .above) t
  | 7 =>
    (match r.subject.toNat with
      | 1 => some CursorName.c1
      | 2 => some CursorName.c2
      | _ => none).bind fun c =>
    (flag? r.qualifier).map fun (q : Bool) => Op.cursor c (if q then .add else .load)
  | _ => none

/-- The on-fail of a record with its alt link (R48, R189). -/
def onFail? (onFail alt : Byte) : Option OnFail :=
  match onFail.toNat with
  | 0 => some .halt
  | 1 => some .continue
  | 2 => some .abort
  | 3 => (link? alt).map OnFail.branch
  | _ => none

/-- A descriptor record read from its bytes, none where a field that the op uses is out of range (R49, R183). -/
def descriptor? (r : RawDescriptor) : Option Descriptor :=
  (flag? r.pair).bind fun pair =>
  (op? r pair).bind fun op =>
  (operand? r.mode r.operandHigh r.operandLow).bind fun operand =>
  (onFail? r.onFail r.alt).bind fun onFail =>
  (link? r.next).map fun next =>
    { op := op, operand := operand, pair := pair, onFail := onFail, next := next }

/-- The op, subject number and qualifier bytes of an op (R189). -/
def opBytes : Op → List Byte
  | .move a _ _ => [0, indexByte (some a), 0]
  | .start a => [1, indexByte (some a), 0]
  | .stop a => [2, indexByte (some a), 0]
  | .follow a => [3, indexByte (some a), 0]
  | .dwell => [4, 0, 0]
  | .awaitInput d l _ => [5, indexByte (some d), flagByte l]
  | .awaitMeas c r _ => [6, indexByte (some c), if r = .below then 1 else 0]
  | .cursor c a => [7, if c = .c1 then 1 else 2, if a = .add then 1 else 0]

/-- The base cursor byte (R189). -/
def baseByte : BaseCursor → Byte
  | .c0 => 0
  | .c1 => 1
  | .c2 => 2

/-- The displacement byte, sign-extended (R183). -/
def displacementByte (d : BitVec 6) : Byte := BitVec.ofInt 8 d.toInt

/-- The mode and operand bytes (R189). -/
def operandBytes : Operand → List Byte
  | .imm v => 0 :: byte2 v.toNat
  | .row r => [1, 0, indexByte (some r)]
  | .idx b d => [2, baseByte b, displacementByte d]
  | .idxu b d => [3, baseByte b, displacementByte d]

/-- The second field of an op as stored (R48). -/
def Op.second : Op → Nat
  | .move _ rate _ => rate
  | .awaitInput _ _ t => t
  | .awaitMeas _ _ t => t
  | _ => 0

/-- The wait field of an op as stored (R48). -/
def Op.waits : Op → Bool
  | .move _ _ w => w
  | _ => false

/-- The on-fail byte (R189). -/
def onFailByte : OnFail → Byte
  | .halt => 0
  | .continue => 1
  | .abort => 2
  | .branch _ => 3

/-- The alt link of an on-fail: NONE but for BRANCH (R48). -/
def altOf : OnFail → Option SlotId
  | .branch a => a
  | _ => none

/-- The 13 bytes of a descriptor record (R189). -/
def descriptorBytes (d : Descriptor) : List Byte :=
  opBytes d.op ++ operandBytes d.operand ++ [flagByte d.pair] ++ byte2 d.op.second ++
    [flagByte d.op.waits, onFailByte d.onFail, indexByte d.next, indexByte (altOf d.onFail)]

/-! ### Actuator records (R190) -/

/-- An optional index byte with 255 for absent. -/
def optionalIndex? (n : Nat) (b : Byte) : Option (Option (Fin n)) :=
  if b = 255 then some none else (index? n b).map some

/-- The permissive of a record: the sense is not checked where the input is absent (R190). -/
def permissive? (input sense : Byte) : Option (Option Permissive) :=
  (optionalIndex? 24 input).bind fun i =>
    match i with
    | none => some none
    | some d => (flag? sense).map fun l => some { input := d, sense := l }

/-- The feedback of a record: tolerance and time are not checked where the channel is absent (R190). -/
def feedback? (channel : Byte) (tolerance : Half) (time : Byte) : Option (Option FeedbackConfig) :=
  (optionalIndex? 16 channel).bind fun i =>
    match i with
    | none => some none
    | some c =>
      (range? 0 2000 tolerance.toNat).bind fun tol =>
      (range? 1 255 time.toNat).map fun t => some { channel := c, tolerance := tol, time := t }

/-- The fields of a record that a PUMP and a VALVE share, with their range checks (R3, R4). -/
def commonConfig? (kind : Kind) (r : RawActuator) : Option ActConfig :=
  (index? 5 r.group).bind fun group =>
  (range? 0 10000 r.min.toNat).bind fun min =>
  (range? 0 10000 r.max.toNat).bind fun max =>
  (range? 1 10000 r.maxRate.toNat).bind fun maxRate =>
  (range? 1 10000 r.defaultRate.toNat).bind fun defaultRate =>
  (flag? r.tripScope).bind fun scope =>
  (permissive? r.permissiveInput r.permissiveSense).bind fun permissive =>
  (feedback? r.feedbackChannel r.tolerance r.deviationTime).bind fun feedback =>
  if min ≤ max ∧ defaultRate ≤ maxRate then
    some
      { kind := kind, group := some group, min := min, max := max, maxRate := maxRate, defaultRate := defaultRate,
        proofInput := none, proofTimeout := none, safeAction := none, safeValue := none,
        tripScope := if scope then .group else .self, permissive := permissive, feedback := feedback }
  else none

/-- The safe action of a VALVE record (R190); a valve has one. -/
def safeAction? (b : Byte) : Option SafeAction :=
  match b.toNat with
  | 1 => some .hold
  | 2 => some .go
  | 3 => some .release
  | _ => none

/-- The safe value of a VALVE record: absent only where the safe action is not GO, and within `[min, max]` where it is (R3,
R4). -/
def safeValue? (action : SafeAction) (min max : Nat) (v : Half) : Option (Option Nat) :=
  match action with
  | .go => (range? min max v.toNat).bind fun n => if n ≤ 10000 then some (some n) else none
  | _ => if v = 0xFFFF then some none else (range? 0 10000 v.toNat).map some

/-- The configuration of a record of kind PUMP: a proof input and a proof timeout are required (R4). -/
def pumpConfig? (r : RawActuator) : Option ActConfig :=
  (commonConfig? .pump r).bind fun c =>
  (index? 24 r.proofInput).bind fun d =>
  (range? 1 255 r.proofTimeout.toNat).map fun t => { c with proofInput := some d, proofTimeout := some t }

/-- The configuration of a record of kind VALVE (R4). -/
def valveConfig? (r : RawActuator) : Option ActConfig :=
  (commonConfig? .valve r).bind fun c =>
  (safeAction? r.safeAction).bind fun a =>
  (safeValue? a c.min c.max r.safeValue).map fun v => { c with safeAction := some a, safeValue := v }

/-- A polarity byte (R190). -/
def polarity? (b : Byte) : Option Polarity := (flag? b).map fun l => if l then .activeLow else .activeHigh

/-- What an accepted CONFIGURE ACTUATOR writes: the configuration record and the channel's period and polarity. -/
structure ActWrite where
  cfg : ActConfig
  period : Nat
  polarity : Polarity
deriving DecidableEq, Repr

/-- A whole configuration record, none where a range check fails (R4). A record of kind NONE is all power-on values. -/
def actWrite? (r : RawActuator) : Option ActWrite :=
  match r.kind.toNat with
  | 0 => some { cfg := ActConfig.powerOn, period := 1000, polarity := .activeHigh }
  | 1 =>
    (pumpConfig? r).bind fun c => (range? 100 4095 r.period.toNat).bind fun p =>
      (polarity? r.polarity).map fun l => { cfg := c, period := p, polarity := l }
  | 2 =>
    (valveConfig? r).bind fun c => (range? 100 4095 r.period.toNat).bind fun p =>
      (polarity? r.polarity).map fun l => { cfg := c, period := p, polarity := l }
  | _ => none

/-- The kind byte (R190). -/
def kindByte : Kind → Byte
  | .none => 0
  | .pump => 1
  | .valve => 2

/-- The polarity byte (R190). -/
def polarityByte : Polarity → Byte
  | .activeHigh => 0
  | .activeLow => 1

/-- The safe action byte, 0 where it is absent (R190). -/
def safeActionByte : Option SafeAction → Byte
  | none => 0
  | some .hold => 1
  | some .go => 2
  | some .release => 3

/-- The permissive sense byte, 255 where there is no permissive (R190). -/
def senseByte : Option Permissive → Byte
  | none => 255
  | some p => flagByte p.sense

/-- The 26 bytes of READ ACTUATOR CONFIGURATION (R190). The period is the one last configured: the pending period of the
channel, or its active period. -/
def configBytes (n : ActId) (c : ActConfig) (o : OutputChannel) : List Byte :=
  [indexByte (some n), kindByte c.kind, indexByte c.group] ++ byte2 c.min ++ byte2 c.max ++ byte2 c.maxRate ++
    byte2 c.defaultRate ++ byte2 (nextPeriod o) ++
    [polarityByte o.polarity, indexByte c.proofInput] ++ byte1 (c.proofTimeout.getD 0) ++
    [safeActionByte c.safeAction] ++
    byte2 (c.safeValue.getD 0xFFFF) ++
    [flagByte (c.tripScope == .group), indexByte (c.permissive.map Permissive.input), senseByte c.permissive,
      indexByte (c.feedback.map FeedbackConfig.channel)] ++
    byte2 (match c.feedback with
      | none => 0xFFFF
      | some f => f.tolerance) ++
    byte1 (match c.feedback with
      | none => 0
      | some f => f.time)

/-- The state byte (R190). -/
def serviceByte : Service → Byte
  | .outOfService => 0
  | .stopped => 1
  | .starting => 2
  | .running => 3
  | .stopping _ => 4
  | .faulted => 5
  | .holding => 6
  | .moving => 7

/-- The stop phase byte (R190). -/
def phaseByte : Service → Byte
  | .stopping .rampDown => 1
  | .stopping .dropWait => 2
  | _ => 0

/-- The ramp origin byte (R190). -/
def originByte : RampOrigin → Byte
  | .move => 1
  | .stop => 2
  | .follow => 3
  | .safe => 4

/-- The status byte of a capture channel or feedback (R190, R192). -/
def captureStatusByte : CaptureStatus → Byte
  | .ok => 1
  | .overrange => 2
  | .noSignal => 3

/-- The fault code byte (R190). -/
def faultByte : FaultCode → Byte
  | .none => 0
  | .proofFail => 1
  | .proofLost => 2
  | .stopFail => 3
  | .permissiveLost => 4
  | .deviation => 5
  | .feedbackLost => 6
  | .plantTrip => 7
  | .groupTrip => 8

/-- The seconds left of a timer as one byte, 0 where it is absent (R190), and where it has reached 0 and its expiry has not
been taken yet (log entry 25). -/
def timerByte (t : Option Nat) : List Byte := byte1 (secondsLeft (t.getD 0))

/-- The filtered level of an input, 255 where none is configured (R190). -/
def levelByte (d : Option InputId) (s : State) : Byte :=
  match d with
  | none => 255
  | some d => flagByte (filteredLevel d s)

/-- The 26 bytes of READ ACTUATOR STATUS (R190, R2). -/
def statusBytes (n : ActId) (a : Actuator) (s : State) : List Byte :=
  [indexByte (some n), serviceByte a.state, phaseByte a.state] ++ byte2 a.command ++
    (match a.ramp with
      | none => ([0, 0, 0, 0, 0] : List Byte)
      | some r => originByte r.origin :: (byte2 r.target ++ byte2 r.rateStep)) ++
    byte1 a.accumulator ++ [flagByte a.follow.isSome] ++ byte2 (a.follow.getD 0) ++
    (match a.feedback with
      | none => ([0, 0, 0] : List Byte)
      | some f => byte2 f.value ++ [captureStatusByte f.status]) ++
    [faultByte a.fault, flagByte a.furtherFault] ++ byte2 a.commandAtFault ++
    [levelByte a.cfg.proofInput s, levelByte (a.cfg.permissive.map Permissive.input) s] ++
    timerByte a.proofTimer ++ timerByte a.deviationTimer ++ timerByte a.lostTimer

/-! ### The chain record (R191) -/

/-- The executor state byte (R191). -/
def execByte : ExecState → Byte
  | .idle => 0
  | .active => 1
  | .halted => 2

/-- The waiting-for byte (R191). -/
def waitingByte : Option Waiting → Byte
  | none => 0
  | some .runProof => 1
  | some .stopProof => 2
  | some .landing => 3
  | some .feedback => 4
  | some .timer => 5
  | some .input => 6
  | some .measurement => 7

/-- The failure reason byte (R191). -/
def reasonByte : FailReason → Byte
  | .notAvailable => 1
  | .wrongState => 2
  | .permissive => 3
  | .governorOff => 4
  | .proofFail => 5
  | .stopFail => 6
  | .faultedDuring => 7
  | .timeout => 8

/-- The outcome byte (R191). -/
def outcomeByte : ChainOutcome → Byte
  | .none => 0
  | .complete => 1
  | .failed => 2
  | .cancelled => 3
  | .tripped => 4
  | .reset => 5

/-- The current accepted byte (R191). -/
def acceptedByte : Option Bool → Byte
  | none => 0
  | some false => 1
  | some true => 2

/-- The 20 bytes of READ CHAIN (R191). The time left is 0 also for a step that still waits where its timer has reached 0 and
the expiry has not been taken yet (R68; log entry 25). Bytes 11 to 14 are 0 where the values they carry are absent (log
entry 26). -/
def chainBytes (g : GroupId) (x : Executor) : List Byte :=
  [indexByte (some g), execByte x.state, holderByte x.starter, indexByte x.startSlot, indexByte x.current,
    waitingByte x.waiting] ++ byte2 (secondsLeft (x.timer.getD 0)) ++ byte1 x.stepCount ++
    [acceptedByte x.currentAccepted] ++
    (match x.retained with
      | none => ([0, 0, 0, 0, 0, 255] : List Byte)
      | some r =>
        (if r.second.isSome then 2 else 1) :: (byte2 r.first.toNat ++ byte2 (r.second.getD 0).toNat ++
          [indexByte r.row])) ++
    (match x.lastFailure with
      | none => ([255, 0, 0] : List Byte)
      | some f => [indexByte (some f.slot), reasonByte f.reason, if f.stage = .acceptance then 1 else 2]) ++
    [outcomeByte x.outcome]

/-! ### Field channel records (R192) -/

/-- The 11 bytes of one output channel in READ OUTPUTS (R192). -/
def outputBytes (o : OutputChannel) : List Byte :=
  [flagByte (o.condition == .driven), polarityByte o.polarity] ++ byte2 o.activePeriod ++
    byte2 (o.pendingPeriod.getD 0) ++ byte2 o.activeDuty ++ byte2 o.pendingDuty ++ [flagByte o.runOutput]

/-- The 3 bytes of one discrete input in READ INPUTS (R192). -/
def inputBytes (x : InputFilter) : List Byte := [flagByte x.filtered, flagByte x.raw] ++ byte1 x.debounce

/-- The two PTRIP bytes of READ INPUTS (R192): the raw level, and whether it is asserted. -/
def tripBytes (x : TripFilter) : List Byte := [flagByte x.raw, flagByte x.asserted]

/-- A capture configuration read from its record (R161, R192). -/
structure CaptureWrite where
  mode : CaptureMode
  prescale : Nat
  timeout : Nat
  gain : Nat
  offset : Half
deriving DecidableEq, Repr

/-- A capture mode byte (R192). -/
def captureMode? (b : Byte) : Option CaptureMode :=
  match b.toNat with
  | 0 => some .off
  | 1 => some .frequency
  | 2 => some .duty
  | _ => none

/-- A whole capture configuration, none where a range check fails (R161). -/
def captureWrite? (r : RawCapture) : Option CaptureWrite :=
  (captureMode? r.mode).bind fun mode =>
  (range? 1 160 r.timeout.toNat).bind fun timeout =>
  if r.prescale = 1 ∨ r.prescale = 4 ∨ r.prescale = 16 then
    some { mode := mode, prescale := r.prescale.toNat, timeout := timeout, gain := r.gain.toNat, offset := r.offset }
  else none

/-- The capture mode byte (R192). -/
def captureModeByte : CaptureMode → Byte
  | .off => 0
  | .frequency => 1
  | .duty => 2

/-- The phase and edges-seen bytes (R192). -/
def capturePhaseBytes : CapturePhase → List Byte
  | .waitEdge => [0, 0]
  | .counting n _ => 1 :: byte1 n
  | .high _ => [2, 0]
  | .low _ _ => [3, 0]

/-- The 18 bytes of READ MEASUREMENT (R192), with the timeout left as log entry 25 says. -/
def captureBytes (c : CaptureId) (x : Capture) : List Byte :=
  [indexByte (some c), captureModeByte x.mode] ++ byte1 x.prescale ++ byte1 x.timeout ++ byte2 x.gain ++
    byte2 x.offset.toNat ++ capturePhaseBytes x.phase ++ byte4 (x.lastRaw.getD 0xFFFFFFFF) ++ byte2 x.value ++
    [captureStatusByte x.status] ++ byte1 (tenthsLeft (x.timer.getD 0))

/-! ### Governor and station records (R193) -/

/-- The 12 bytes of the governor settings (R193). -/
def settingsBytes (g : Governor) : List Byte :=
  byte1 g.kp ++ byte1 g.ki ++ byte2 g.dmin ++ byte2 g.dmax ++ byte2 g.dstep ++ byte2 g.holdTime ++ byte2 g.fallback

/-- The governor mode byte (R193). -/
def modeByte : GovMode → Byte
  | .off => 0
  | .hold => 1
  | .fallback => 2
  | .regulate => 3

/-- The 22 bytes of READ GOVERNOR STATUS (R193), with the hold time left as log entry 25 says. -/
def governorBytes (g : Governor) : List Byte :=
  modeByte g.mode :: (byte2 g.demand ++ byte4 g.integral ++ byte2 (secondsLeft (g.holdTimer.getD 0)) ++
    byte1 (g.eligible.getD 255) ++
    (match g.lastError with
      | none => List.replicate 12 (0 : Byte)
      | some e => [1, indexByte (some e.entry)] ++ signed2 e.error ++ signed4 e.p ++ signed4 e.raw))

/-- The station state byte (R193). -/
def stationStateByte : StationState → Byte
  | .never => 0
  | .fresh => 1
  | .stale => 2
  | .bad => 3

/-- The quality byte (R193). -/
def qualityByte : Quality → Byte
  | .good => 0
  | .uncertain => 1
  | .bad => 2

/-- The 12 bytes of READ STATION (R193). -/
def stationBytes (k : StationId) (x : Station) : List Byte :=
  [indexByte (some k), flagByte x.enabled] ++ byte1 x.address ++ byte2 x.setpoint ++ byte1 x.staleTime ++
    [stationStateByte x.state] ++
    (match x.reading with
      | none => ([0, 0, 0, 0] : List Byte)
      | some r => byte2 r.dp ++ [r.sequence, qualityByte r.quality]) ++
    timerByte x.staleTimer

/-- The assembler state byte (R193). -/
def assemblerByte : StationAssembler → Byte
  | .hunt => 0
  | .address => 1
  | .body _ => 2

/-- The last rejection and its address (R193). -/
def rejectionBytes : Rejection → List Byte
  | .none => [0, 0]
  | .framing => [1, 0]
  | .cutShort => [2, 0]
  | .check => [3, 0]
  | .noise => [4, 0]
  | .notEnabled a => [5, a]
  | .repeated a => [6, a]

/-- The divisor bytes of a baud: integer part and fraction (R186, R193). -/
def divisorBytes (baud : Nat) : List Byte := byte2 (divisorInteger baud) ++ byte1 (divisorFraction baud)

/-- The 8 bytes of READ STATION LINE STATUS (R193). -/
def lineStatusBytes (r : StationReceiver) : List Byte :=
  byte2 r.baud ++ divisorBytes r.baud ++ [assemblerByte r.assembler] ++ rejectionBytes r.lastRejection

/-- The port phase byte (R193). -/
def portPhaseByte : Phase → Byte
  | .listen => 0
  | .handling => 1
  | .turnaround => 2
  | .responding => 3

/-- The last receive error byte (R193). -/
def linkErrorByte : LinkError → Byte
  | .none => 0
  | .overrun => 1
  | .brk => 2
  | .framing => 3
  | .parity => 4
  | .length => 5
  | .timeout => 6
  | .check => 7
  | .noise => 8

/-- The 14 bytes of READ LINK STATUS (R193). -/
def linkStatusBytes (m : Master) (p : Port) : List Byte :=
  [masterByte m] ++ byte3 p.line.baud ++ [flagByte p.line.even] ++ byte1 p.line.silence ++ divisorBytes p.line.baud ++
    [portPhaseByte p.phase, flagByte p.active] ++ byte1 p.fifo.length ++ [linkErrorByte p.lastError] ++
    timerByte p.silenceTimer

end Sys2Proof.Machine
end

