-- ==== Sys2Proof/Machine/Dispatching.lean ====
section
/-! DEFINITION. The owners of the dispatch requests: CLM (R104 to R108), DST (R49 to R51), PRT (R56, R57), and the group
executors (R60, R61, R70 to R74, R94 to R97). Each owner takes a request as one event and answers it. -/

namespace Sys2Proof.Machine

/-! ### CLM -/

/-- The claimable resources, by their bits in a resource set (R184): 0 to 4 are G0 to G4 and 5 is GOV. -/
abbrev Resource := Fin 6

/-- All six resources. -/
def allResources : List Resource := List.finRange 6

/-- The holder of a resource (R104). -/
def holderOf (r : Resource) (s : State) : Option Master :=
  if h : r.val < 5 then s.groupHolders[(⟨r.val, h⟩ : GroupId)] else s.govHolder

/-- The requester holds a group. -/
def holdsGroup (m : Master) (g : GroupId) (s : State) : Bool := s.groupHolders[g] == some m

/-- The requester holds GOV. -/
def holdsGov (m : Master) (s : State) : Bool := s.govHolder == some m

/-- A resource set names a resource (R184). -/
def names (set : Byte) (r : Resource) : Bool := set.getLsbD r.val

/-- A set that names at least one resource and nothing else (R104, R184). -/
def validSet (set : Byte) : Bool := decide (0 < set.toNat) && decide (set.toNat < 64)

/-- The resource set of the resources of which `p` says so (R184). -/
def setOf (p : Resource → Bool) : Byte :=
  allResources.foldl (fun acc r => if p r then acc ||| ((1 : Byte) <<< r.val) else acc) 0

/-- Every holder replaced by a function of its resource and the holder before. -/
def mapHolders (f : Resource → Option Master → Option Master) (s : State) : State :=
  { s with
    groupHolders := each (fun g h => f ⟨g.val, by omega⟩ h) s.groupHolders
    govHolder := f 5 s.govHolder }

/-- CLAIM (R105). -/
def claimOwner (m : Master) (set : Byte) (s : State) : State × Reply :=
  if ¬ validSet set then refuse .outOfRange s
  else
    let barred := fun r => names set r && holderOf r s == some m.other
    if allResources.any barred then (s, .refuse .heldByOther [setOf barred])
    else
      let s1 := mapHolders (fun r h => if names set r then some m else h) s
      let s2 :=
        if allResources.any (fun r => names set r && holderOf r s == none) then setFlag m.other .claimsChanged s1 else s1
      (s2, .ok [setOf fun r => holderOf r s1 == some m])

/-- The endings of the claims that master `m` holds on the resources of which `which` says so: CLM first (one event over
all six holders), then each group whose claim has ended is told (R107, R108, R111). -/
def endClaims (m : Master) (which : Resource → Bool) (s : State) : State :=
  let s1 := mapHolders (fun r h => if which r && h == some m then none else h) s
  allGroups.foldl (fun t g =>
    if which ⟨g.val, by omega⟩ && s.groupHolders[g] == some m then endIfRunning g .cancelled t else t) s1

/-- RELEASE (R107). -/
def releaseOwner (m : Master) (set : Byte) (s : State) : State × Reply :=
  if ¬ validSet set then refuse .outOfRange s
  else
    let s1 := endClaims m (names set) s
    let s2 :=
      if allResources.any (fun r => names set r && holderOf r s == some m) then setFlag m.other .claimsChanged s1 else s1
    (s2, .ok [setOf fun r => names set r && holderOf r s != some m])

/-- READ CLAIMS (R104). -/
def readClaimsOwner (s : State) : State × Reply := (s, .ok (allResources.map fun r => holderByte (holderOf r s)))

/-! ### DST and PRT -/

/-- The master that wrote a slot, while it is not FREE (R46). -/
def slotWriter : SlotState → Option Master
  | .free => none
  | .written w => some w
  | .bound w _ => some w

/-- The slot is BOUND. -/
def isBound : SlotState → Bool
  | .bound _ _ => true
  | _ => false

/-- The checks that WRITE DESCRIPTOR and FREE DESCRIPTOR share (R49, R50): the slot where they pass. -/
def slotFor (m : Master) (slot : Byte) (s : State) : Except RefusalCode SlotId :=
  match index? 128 slot with
  | none => .error .outOfRange
  | some k =>
    if isBound s.slots[k].state then .error .bound
    else if slotWriter s.slots[k].state == some m.other then .error .ownedByOther
    else .ok k

/-- WRITE DESCRIPTOR (R49). -/
def writeDescriptorOwner (m : Master) (slot : Byte) (r : RawDescriptor) (s : State) : State × Reply :=
  match slotFor m slot s with
  | .error c => refuse c s
  | .ok k =>
    match descriptor? r with
    | none => refuse .outOfRange s
    | some d => (putSlot k { state := .written m, record := d } s, .ok [])

/-- FREE DESCRIPTOR (R50). -/
def freeDescriptorOwner (m : Master) (slot : Byte) (s : State) : State × Reply :=
  match slotFor m slot s with
  | .error c => refuse c s
  | .ok k => (putSlot k Slot.powerOn s, .ok [])

/-- The 17 bytes of READ DESCRIPTOR (R189). -/
def slotBytes (k : SlotId) (x : Slot) : List Byte :=
  (match x.state with
    | .free => [indexByte (some k), 0, 0, 255]
    | .written w => [indexByte (some k), 1, masterByte w, 255]
    | .bound w g => [indexByte (some k), 2, masterByte w, indexByte (some g)]) ++ descriptorBytes x.record

/-- READ DESCRIPTOR (R51). -/
def readDescriptorOwner (slot : Byte) (s : State) : State × Reply :=
  match index? 128 slot with
  | none => refuse .outOfRange s
  | some k => (s, .ok (slotBytes k s.slots[k]))

/-- The values of a WRITE PROFILE written from a row on, with wraparound (R56). -/
def writeRows (t : Table Half 64) : RowId → List Half → Table Half 64
  | _, [] => t
  | r, v :: vs => writeRows (put t r v) (mod64 (r.val + 1)) vs

/-- WRITE PROFILE (R56): a request without 1 to 16 values is the port's to refuse. -/
def writeProfileOwner (first : Byte) (values : List Half) (s : State) : State × Reply :=
  if values.length = 0 ∨ 16 < values.length then refuse .badLength s
  else
    match index? 64 first with
    | none => refuse .outOfRange s
    | some r => ({ s with profile := writeRows s.profile r values }, .ok [])

/-- READ PROFILE (R57). -/
def readProfileOwner (first count : Byte) (s : State) : State × Reply :=
  match index? 64 first with
  | none => refuse .outOfRange s
  | some r =>
    if count.toNat = 0 ∨ 16 < count.toNat then refuse .outOfRange s
    else
      (s, .ok (first :: (List.range count.toNat).flatMap fun k => byte2 s.profile[mod64 (r.val + k)].toNat))

/-! ### RUN CHAIN -/

/-- The record is an invalid form judged for group g (R67). -/
def invalidForm (g : GroupId) (d : Descriptor) (s : State) : Bool :=
  invalidRecord d ||
    (match d.op.actuator with
      | none => false
      | some n => (d.op.needsPump && s.actuators[n].cfg.kind == .valve) || !memberOf g s.actuators[n])

/-- The links of a slot in the order the walk follows them (R72): next, then alt where the on-fail is BRANCH. -/
def linksOf (d : Descriptor) : List SlotId := d.next.toList ++ (altOf d.onFail).toList

/-- The first check of R73 that the walk's slot fails, where `seen` distinct slots have been examined before it. -/
def unfitSlot (m : Master) (g : GroupId) (seen : Nat) (x : Slot) (s : State) : Option RefusalCode :=
  if 32 ≤ seen then some .chainTooLong
  else
    match x.state with
    | .free => some .unwrittenSlot
    | .written w =>
      if w ≠ m then some .foreignSlot else if invalidForm g x.record s then some .invalidForm else none
    | .bound w _ => if w ≠ m then some .foreignSlot else some .bound

/-- The validation walk (R72), depth-first from slot `k`: `path` holds the slots from the start to the one that led here,
`seen` the slots examined. It answers the slots examined, or the refusal with the slot it names. A path longer than 32
slots cannot be, because the 33rd slot is refused; `fuel` is above that. -/
def walk (m : Master) (g : GroupId) (s : State) :
    Nat → List SlotId → List SlotId → SlotId → Except (RefusalCode × SlotId) (List SlotId)
  | 0, _, _, k => .error (.chainTooLong, k)
  | fuel + 1, path, seen, k =>
    match unfitSlot m g seen.length s.slots[k] s with
    | some c => .error (c, k)
    | none =>
      (linksOf s.slots[k].record).foldlM (fun acc l =>
        if l ∈ k :: path then .error (.chainLoop, k)
        else if l ∈ acc then .ok acc
        else walk m g s fuel (k :: path) acc l) (k :: seen)

/-- The reachable set of a start slot, where the chain is fit (R72, R73). -/
def reachable (m : Master) (g : GroupId) (k : SlotId) (s : State) : Except (RefusalCode × SlotId) (List SlotId) :=
  walk m g s 33 [] [] k

/-- Every slot of the reachable set bound to the group, keeping writer and record (R53). -/
def bindSlots (g : GroupId) (ks : List SlotId) (s : State) : State :=
  { s with
    slots := each (fun k x =>
      if k ∈ ks then
        match x.state with
        | .written w => { x with state := .bound w g }
        | _ => x
      else x) s.slots }

/-- The chain record at the start of a run (R74). -/
def startedExecutor (m : Master) (k : SlotId) (x : Executor) : Executor :=
  { x with
    state := .active, starter := some m, startSlot := some k, current := some k, waiting := none, timer := none,
    stepCount := 0, currentAccepted := none, retained := none, lastFailure := none, outcome := .none }

/-- RUN CHAIN (R71 to R74). -/
def runChainOwner (m : Master) (group slot : Byte) (s : State) : State × Reply :=
  match index? 5 group with
  | none => refuse .outOfRange s
  | some g =>
    match index? 128 slot with
    | none => refuse .outOfRange s
    | some k =>
      if ¬ holdsGroup m g s then refuse .notHolder s
      else if s.executors[g].state ≠ .idle then refuse .busy s
      else if s.ptrip.asserted then refuse .tripActive s
      else
        match reachable m g k s with
        | .error (c, j) => (s, .refuse c [indexByte (some j)])
        | .ok ks =>
          let s1 := bindSlots g ks s
          (proceed g (putExecutor g (startedExecutor m k s1.executors[g]) s1, some k), .ok (byte1 ks.length))

/-! ### The other requests of an executor -/

/-- The group of a request whose group must be in range and held by the requester. -/
def heldGroup (m : Master) (group : Byte) (s : State) : Except RefusalCode GroupId :=
  match index? 5 group with
  | none => .error .outOfRange
  | some g => if holdsGroup m g s then .ok g else .error .notHolder

/-- CANCEL CHAIN (R97). -/
def cancelChainOwner (m : Master) (group : Byte) (s : State) : State × Reply :=
  match heldGroup m group s with
  | .error c => refuse c s
  | .ok g => if s.executors[g].state = .idle then refuse .wrongState s else (endChain g .cancelled s, .ok [])

/-- RESUME with action RETRY (R94, R95). -/
def resumeRetryOwner (m : Master) (group : Byte) (s : State) : State × Reply :=
  match heldGroup m group s with
  | .error c => refuse c s
  | .ok g => if s.executors[g].state = .halted then (retryChain g s, .ok []) else refuse .wrongState s

/-- RESUME with action SKIP (R94, R96). -/
def resumeSkipOwner (m : Master) (group : Byte) (s : State) : State × Reply :=
  match heldGroup m group s with
  | .error c => refuse c s
  | .ok g => if s.executors[g].state = .halted then (skipChain g s, .ok []) else refuse .wrongState s

/-- READ CHAIN (R70). -/
def readChainOwner (group : Byte) (s : State) : State × Reply :=
  match index? 5 group with
  | none => refuse .outOfRange s
  | some g => (s, .ok (chainBytes g s.executors[g]))

/-- WRITE CURSOR (R60). -/
def writeCursorOwner (m : Master) (group cursor value : Byte) (s : State) : State × Reply :=
  match heldGroup m group s with
  | .error c => refuse c s
  | .ok g =>
    match base? cursor, index? 64 value with
    | some .c1, some r => (putExecutor g (setCursor s.executors[g] .c1 r) s, .ok [])
    | some .c2, some r => (putExecutor g (setCursor s.executors[g] .c2 r) s, .ok [])
    | _, _ => refuse .outOfRange s

/-- READ CURSORS (R61). -/
def readCursorsOwner (group : Byte) (s : State) : State × Reply :=
  match index? 5 group with
  | none => refuse .outOfRange s
  | some g =>
    (s, .ok [indexByte (some g), indexByte (some s.executors[g].c1), indexByte (some s.executors[g].c2)])

/-! ### The silence expiry at the owners -/

/-- Every slot freed whose writer is `m` and which is not BOUND (R54). -/
def freeSlotsOf (m : Master) (s : State) : State :=
  { s with slots := each (fun _ x => if x.state = .written m then Slot.powerOn else x) s.slots }

/-- A silence expiry on the link of master m, carried through CLM, the executors and DST, with its attention (R111,
R112). -/
def silenceAtOwners (m : Master) (s : State) : State :=
  let held := allResources.any fun r => holderOf r s == some m
  let s1 := freeSlotsOf m (endClaims m (fun _ => true) s)
  let s2 := setFlag m .claimLost s1
  if held then setFlag m.other .claimsChanged s2 else s2

end Sys2Proof.Machine
end

