-- ==== Sys2Proof/Machine/Field.lean ====
section
/-! DEFINITION. The field side: changes of a discrete input as ACT and the executors take them (R13 to R17, R86, R165),
the plant trip (R27 to R29), slew expiries and output periods (R35, R43 to R45, R149), and the capture channels (R154 to
R160). -/

namespace Sys2Proof.Machine

/-! ### Discrete inputs -/

/-- One use of a discrete input: the proof input of an actuator, the permissive of an actuator, or the AWAIT_INPUT of an
executor. -/
inductive InputUse where
  | proof (n : ActId)
  | permissive (n : ActId)
  | wait (g : GroupId)
deriving DecidableEq, Repr

/-- The proof input of an actuator has changed to `level` (R13, R14, R15). -/
def takeProof (n : ActId) (level : Bool) (s : State) : State :=
  let a := s.actuators[n]
  match a.state, level with
  | .starting, true => reportStarted n (putActuator n { a with state := .running, proofTimer := none } s)
  | .running, false => raiseFault .proofLost n s
  | .stopping .rampDown, false => raiseFault .proofLost n s
  | .stopping .dropWait, false =>
    reportStopped n (putActuator n { a with state := .stopped, command := 0, proofTimer := none } s)
  | _, _ => s

/-- ACT watches the permissive of an actuator in this state: a pump STARTING or RUNNING (R16), a valve MOVING (R17). -/
def watchesPermissive (a : Actuator) : Bool :=
  a.state == .starting || a.state == .running || a.state == .moving

/-- The permissive input of an actuator has changed: away from the permitting sense it faults what is watched (R16, R17). -/
def takePermissive (n : ActId) (s : State) : State :=
  if watchesPermissive s.actuators[n] && !permits s.actuators[n] s then raiseFault .permissiveLost n s else s

/-- The current step of an executor is an AWAIT_INPUT on `d` that wants `level` (R86). -/
def awaitsInput (g : GroupId) (d : InputId) (level : Bool) (s : State) : Bool :=
  s.executors[g].state == .active && s.executors[g].waiting == some .input &&
    (match currentRecord g s with
      | some r => (match r.op with
        | .awaitInput e l _ => e == d && l == level
        | _ => false)
      | none => false)

/-- One use of an input takes its change to `level`. -/
def takeInputUse (d : InputId) (level : Bool) (u : InputUse) (s : State) : State :=
  match u with
  | .proof n => takeProof n level s
  | .permissive n => takePermissive n s
  | .wait g => if awaitsInput g d level s then completeAndProceed g s else s

/-- The uses of an input at its change: every actuator that names it, and every executor that waits on it (R165). -/
def inputUses (d : InputId) (level : Bool) (s : State) : List InputUse :=
  allActuators.flatMap (fun n =>
    let a := s.actuators[n]
    (if a.cfg.proofInput == some d then [InputUse.proof n] else []) ++
    (match a.cfg.permissive with
      | some p => if p.input == d then [InputUse.permissive n] else []
      | none => []))
  ++ (allGroups.filter fun g => awaitsInput g d level s).map InputUse.wait

/-- A change of a filtered level handed to ACT and the executors (R165), in an order the manual leaves open. -/
def handInputChange (d : InputId) (level : Bool) (s : State) : State :=
  takeInOpenOrder (takeInputUse d level) (inputUses d level s) s

/-- The filtered level of an input becomes `level`, which its raw level has reached, and the change is handed on (R165).
Where it already holds that level, there is no change. -/
def changeInput (d : InputId) (level : Bool) (s : State) : State :=
  let x := s.inputs[d]
  if x.filtered = level then s
  else handInputChange d level (putInput d { x with filtered := level, raw := level, age := 0 } s)

/-- The time a raw level must have differed for the filtered level to change (R165), in microseconds. -/
def debounceTime (x : InputFilter) : Nat := x.debounce * 10000

/-- A difference in progress that has lasted the debounce time changes the filtered level (R165, R166). -/
def judgeInput (d : InputId) (s : State) : State :=
  let x := s.inputs[d]
  if x.raw ≠ x.filtered ∧ debounceTime x ≤ x.age then changeInput d x.raw s else s

/-- The raw level of an input becomes `level` (R165): a new difference begins its count, a return abandons it, and with
a debounce time of 0 the filtered level follows at once. -/
def changeRaw (d : InputId) (level : Bool) (s : State) : State :=
  let x := s.inputs[d]
  if x.raw = level then s else judgeInput d (putInput d { x with raw := level, age := 0 } s)

/-! ### The plant trip -/

/-- The trip assertion event (R28). The raw level is low when it comes (R27). The safe landings are reported last (log entry
15). -/
def assertTrip (s : State) : State :=
  if s.ptrip.asserted then s
  else
    let s1 := { s with ptrip := { asserted := true, raw := false, age := 0 } }
    let s2 := allActuators.foldl (fun t n => tripFault .plantTrip n t) s1
    let s3 := allGroups.foldl (fun t g => endIfRunning g .tripped t) s2
    reportSafeLandings s1 (setFlagBoth .trip s3)

/-- The trip de-assertion event (R29). The raw level is high when it comes (R27). -/
def deassertTrip (s : State) : State :=
  if s.ptrip.asserted then { s with ptrip := { asserted := false, raw := true, age := 0 } } else s

/-- The PTRIP debounce time in microseconds (R27). -/
def tripDebounce : Nat := 20000

/-- The raw PTRIP level changes (R27): the 20 ms count starts, or is abandoned. -/
def changeTripRaw (level : Bool) (s : State) : State :=
  if s.ptrip.raw = level then s else { s with ptrip := { s.ptrip with raw := level, age := 0 } }

/-! ### Slew expiries, timers and periods -/

/-- A slew expiry (R35): the timer restarts (R32), which is all it does without a ramp; a ramp steps the command or lands. -/
def slewTick (n : ActId) (s : State) : State :=
  let a := { s.actuators[n] with slewTimer := slewInterval }
  match a.ramp with
  | none => { s with actuators := put s.actuators n a }
  | some r =>
    match stepRamp r a with
    | (b, true) => reportLanded n (putActuator n b s)
    | (b, false) => putActuator n b s

/-- The expiry of a pump's proof timer (R13, R15): PROOF_FAIL in STARTING, STOP_FAIL in DROP_WAIT. A timer that is absent or
has time left does not expire (log entry 5). -/
def proofExpiry (n : ActId) (s : State) : State :=
  let a := s.actuators[n]
  match a.proofTimer, a.state with
  | some 0, .starting => raiseFault .proofFail n s
  | some 0, .stopping .dropWait => raiseFault .stopFail n s
  | _, _ => s

/-- The expiry of a deviation timer (R19). -/
def deviationExpiry (n : ActId) (s : State) : State :=
  match s.actuators[n].deviationTimer with
  | some 0 => raiseFault .deviation n s
  | _ => s

/-- The expiry of a feedback-lost timer (R20). -/
def lostExpiry (n : ActId) (s : State) : State :=
  match s.actuators[n].lostTimer with
  | some 0 => raiseFault .feedbackLost n s
  | _ => s

/-- A period end (R149): the pending period and the pending duty become active together, a new period begins, and a
channel driven again now carries its duty (R150). -/
def endPeriod (n : ActId) (s : State) : State :=
  let o := s.outputs[n]
  { s with
    outputs := put s.outputs n
      { o with
        activePeriod := nextPeriod o, pendingPeriod := none, activeDuty := o.pendingDuty, position := 0, held := false } }

/-- The line of an output channel is at its active level (R149, R150). -/
def lineActive (o : OutputChannel) : Bool :=
  o.condition == .driven && !o.held && decide (o.position < o.activeDuty)

/-- The level of an output channel's line, high or low (R149). -/
def lineHigh (o : OutputChannel) : Bool :=
  match o.polarity with
  | .activeHigh => lineActive o
  | .activeLow => !lineActive o

/-! ### Capture channels -/

/-- A channel's offset as a value: the value of zero flow (R159). -/
def offsetValue (x : Capture) : Nat := clampInt 0 65535 x.offset.toInt

/-- A channel's timeout in microseconds (R153). -/
def captureTimeout (x : Capture) : Nat := x.timeout * 100000

/-- A channel's timeout timer as a configuration or a reset starts it (R161, R164): full in FREQUENCY and DUTY, absent in
OFF. -/
def freshTimeout (x : Capture) : Option Nat := if x.mode = .off then none else some (captureTimeout x)

/-- The feedback of an actuator that names channel `c`, taken from the channel (R18). -/
def feedbackFrom (x : Capture) : Feedback := { value := clampNat 0 10000 x.value, status := x.status }

/-- One taker of a capture report: ACT for an actuator, or an executor. -/
inductive ReportTaker where
  | actuator (n : ActId)
  | executor (g : GroupId)
deriving DecidableEq, Repr

/-- The current step of an executor is an AWAIT_MEAS on channel `c` (R87). -/
def awaitsMeasurement (g : GroupId) (c : CaptureId) (s : State) : Bool :=
  s.executors[g].state == .active && s.executors[g].waiting == some .measurement &&
    (match currentRecord g s with
      | some r => (match r.op with
        | .awaitMeas e _ _ => e == c
        | _ => false)
      | none => false)

/-- A completed measurement satisfies the executor's AWAIT_MEAS (R87). -/
def satisfies (g : GroupId) (value : Nat) (status : CaptureStatus) (s : State) : Bool :=
  status != .noSignal &&
    (match currentRecord g s with
      | some r => (match r.op with
        | .awaitMeas _ .above _ => decide (retainedTarget g s < (value : Int))
        | .awaitMeas _ .below _ => decide ((value : Int) < retainedTarget g s)
        | _ => false)
      | none => false)

/-- One taker takes a report of channel `c` with the value and status that the channel holds (R160). -/
def takeReport (c : CaptureId) (t : ReportTaker) (s : State) : State :=
  match t with
  | .actuator n =>
    let a := s.actuators[n]
    let f := feedbackFrom s.captures[c]
    if a.feedback = some f then s else reportFeedback n (putActuator n { a with feedback := some f } s)
  | .executor g =>
    if awaitsMeasurement g c s && satisfies g s.captures[c].value s.captures[c].status s then completeAndProceed g s
    else s

/-- The takers of a report (R160): the actuators that name the channel as feedback and, where a measurement has
completed, the executors that waited on the channel when it completed. -/
def reportTakers (c : CaptureId) (completed : Bool) (s : State) : List ReportTaker :=
  ((allActuators.filter fun n =>
    match s.actuators[n].cfg.feedback with
    | some f => f.channel == c
    | none => false).map ReportTaker.actuator)
  ++ (if completed then (allGroups.filter fun g => awaitsMeasurement g c s).map ReportTaker.executor else [])

/-- A capture channel's report (R160), in an order the manual leaves open. -/
def reportCapture (c : CaptureId) (completed : Bool) (s : State) : State :=
  takeInOpenOrder (takeReport c) (reportTakers c completed s) s

/-- The signed engineering sum of a raw value before its clamp (R158). -/
def engineeringSum (x : Capture) (raw : Nat) : Int := x.offset.toInt + ((raw * x.gain / 4096 : Nat) : Int)

/-- The channel with a completed measurement's raw value, value and status (R158). -/
def withMeasurement (x : Capture) (raw : Nat) : Capture :=
  { x with
    lastRaw := some raw
    value := clampInt 0 65535 (engineeringSum x raw)
    status := if 65535 < engineeringSum x raw then .overrange else .ok }

/-- What an edge does to a channel: the channel after it, and whether it has completed a measurement. -/
structure EdgeResult where
  channel : Capture
  completed : Bool
deriving DecidableEq, Repr

/-- The span in counts from one stamp to a later one, modulo 16,777,216 (R155). -/
def spanOf (start stamp : Stamp) : Nat := (stamp - start).toNat

/-- The channel with its timeout timer restarted (R159). -/
def restartTimeout (x : Capture) : Capture := { x with timer := some (captureTimeout x) }

/-- The counts after which a span can be measured no more (R157). -/
def spanLimit : Nat := 16777216

/-- The ending edge of a measurement taken at a count at which 16,777,216 have passed since the start stamp (R157, R159: the
edge is taken first): its span, modulo 16,777,216, gives no raw value. A DUTY measurement comes so far where configurations have
started its timer anew (log entry 28). -/
def meetsOverflow (stamp : Stamp) (x : Capture) : Bool :=
  match x.mode, x.phase with
  | .frequency, .counting seen start =>
    decide (x.prescale ≤ seen + 1) && decide (spanOf start stamp < 2 * x.prescale) && decide (spanLimit ≤ x.age)
  | .duty, .low start highTime => decide (spanOf start stamp ≤ highTime) && decide (spanLimit ≤ x.age)
  | _, _ => false

/-- A completed measurement with its raw value (R155, R156, steps 3 and 4): the timer restarts, and the ending edge begins the
next measurement in the given phase. -/
def measurementCompleted (phase : CapturePhase) (raw : Nat) (x : Capture) : EdgeResult :=
  { channel := restartTimeout { withMeasurement x raw with phase := phase, age := 0 }, completed := true }

/-- A rising edge at a channel (R155, R156). An edge that ends a span shorter than R154 allows (2 counts for each period, or no
more than the high time) is one the channel cannot have seen, and changes nothing; but where the span overflows at this very
count, the measurement completes (R157, R159), in FREQUENCY and in DUTY, with a raw value that the manual does not give, `free`
within the bounds of R153: the model's choice (log entry 29). -/
def risingEdge (free : Nat) (stamp : Stamp) (x : Capture) : EdgeResult :=
  match x.mode, x.phase with
  | .off, _ => { channel := x, completed := false }
  | .frequency, .counting seen start =>
    let span := spanOf start stamp
    if seen + 1 < x.prescale then
      { channel := restartTimeout { x with phase := .counting (seen + 1) start }, completed := false }
    else if meetsOverflow stamp x then measurementCompleted (.counting 0 stamp) (free % 10000001) x
    else if span < 2 * x.prescale then { channel := x, completed := false }
    else measurementCompleted (.counting 0 stamp) ((10000000 * x.prescale + span / 2) / span) x
  | .frequency, _ => { channel := restartTimeout { x with phase := .counting 0 stamp, age := 0 }, completed := false }
  | .duty, .low start highTime =>
    let period := spanOf start stamp
    if meetsOverflow stamp x then measurementCompleted (.high stamp) (free % 10001) x
    else if period ≤ highTime then { channel := x, completed := false }
    else measurementCompleted (.high stamp) ((highTime * 10000 + period / 2) / period) x
  | .duty, .high _ => { channel := restartTimeout x, completed := false }
  | .duty, _ => { channel := restartTimeout { x with phase := .high stamp, age := 0 }, completed := false }

/-- A falling edge at a channel (R156): in DUTY phase HIGH it gives the high time; elsewhere it plays no part (R155). It
does not restart the timeout timer, which only a rising edge does (R159). A high time that overflows at this very count, and so
is 0, is not taken: the measurement stays due to be abandoned (R157, log entry 29). -/
def fallingEdge (stamp : Stamp) (x : Capture) : Capture :=
  match x.mode, x.phase with
  | .duty, .high start =>
    if spanOf start stamp = 0 then x else { x with phase := .low start (spanOf start stamp) }
  | _, _ => x

/-- The channel sees a rising or a falling edge at a count (R154): it is not OFF, the level it took last is the opposite one,
and it has taken no edge at this count already. A channel that came out of OFF or out of a reset with its input high took
that high level, and so sees no rising edge before a falling one. -/
def seesEdge (rising : Bool) (stamp : Stamp) (x : Capture) : Bool :=
  x.mode != .off && x.sample != rising && x.edge != some stamp

/-- The channel with the edge taken as its last level (R154). -/
def withEdge (rising : Bool) (stamp : Stamp) (x : Capture) : Capture := { x with sample := rising, edge := some stamp }

/-- What an edge that a channel sees does to it (R155, R156). -/
def edgeResult (free : Nat) (rising : Bool) (stamp : Stamp) (x : Capture) : EdgeResult :=
  if rising then risingEdge free stamp x else { channel := fallingEdge stamp x, completed := false }

/-- The input of channel `c` goes high or low at a count (R154): its pin has the new level and the counter stands at the
stamp; where the channel sees the edge it takes it, and a completed measurement is reported. -/
def takeEdge (c : CaptureId) (rising : Bool) (stamp : Stamp) (s : State) : State :=
  let x := { s.captures[c] with input := { s.captures[c].input with level := rising } }
  if seesEdge rising stamp x then
    let s1 :=
      { s with counter := stamp, freeCount := if rising && meetsOverflow stamp x then s.freeCount + 1 else s.freeCount }
    let r := edgeResult (Config.freeRaw s.freeCount) rising stamp (withEdge rising stamp x)
    let s2 := putCapture c r.channel s1
    if r.completed then reportCapture c true s2 else s2
  else putCapture c x { s with counter := stamp }

/-- A channel's timeout expiry less its report (R159, steps 1 to 4). -/
def timedOut (x : Capture) : Capture :=
  { x with
    phase := .waitEdge, status := .noSignal, timer := none, age := 0
    value := if x.mode = .frequency then offsetValue x else x.value }

/-- A timeout expiry of channel `c` (R159), reported where the status or the value has changed. -/
def timeOutCapture (c : CaptureId) (s : State) : State :=
  let x := s.captures[c]
  let y := timedOut x
  let s1 := putCapture c y s
  if x.status ≠ .noSignal ∨ x.value ≠ y.value then reportCapture c false s1 else s1

/-- The expiry of a channel's timeout timer (R159, R163): nothing where the timer is absent or has time left. -/
def captureExpiry (c : CaptureId) (s : State) : State :=
  match s.captures[c].timer with
  | some 0 => timeOutCapture c s
  | _ => s

/-- 16,777,216 counts have passed since the start stamp of the measurement in progress (R157); nothing where fewer have. -/
def spanOverflow (c : CaptureId) (s : State) : State :=
  match s.captures[c].phase with
  | .waitEdge => s
  | _ => if spanLimit ≤ s.captures[c].age then timeOutCapture c s else s

end Sys2Proof.Machine
end

