-- ==== Sys2Proof/Machine/Sampler.lean ====
section
/-! DEFINITION. The bit samplers of the serial lines: the taking of one character sample by sample, which the station line and
the master links share (R135, R170), the station sampler with its low-sample count (R135, R136), the receiver of a link port
with the marks it decides (R170), and the idle line of TURNAROUND (R177). -/

namespace Sys2Proof.Machine

/-! ### One character -/

/-- What one sample does to a character in reception. -/
inductive Received where
  /-- The character goes on. -/
  | goesOn (r : Reception)
  /-- The start bit is high at its sample 8: a false start. -/
  | falseStart
  /-- The last bit is decided: the bits after the start bit in their order, and whether a triple of samples disagreed. -/
  | complete (bits : List Bool) (noisy : Bool)
deriving DecidableEq, Repr

/-- The next sample of a character, whose bits are numbered from the start bit, 0, to `lastBit` (R135, R170): the start bit
must still be low at its sample 8, and every later bit is decided at its sample 9 by the majority of its samples 7, 8 and
9. -/
def Reception.take (lastBit : Nat) (level : Bool) (r : Reception) : Received :=
  let bit := r.samples / 16
  let place := r.samples % 16 + 1
  let highs := r.highs + level.toNat
  if bit = 0 then
    if place = 8 ∧ level = true then .falseStart else .goesOn { r with samples := r.samples + 1 }
  else if place = 7 ∨ place = 8 then .goesOn { r with samples := r.samples + 1, highs := highs }
  else if place = 9 then
    let bits := r.bits ++ [decide (2 ≤ highs)]
    let noisy := r.noisy || (highs != 0 && highs != 3)
    if bit = lastBit then .complete bits noisy
    else .goesOn { samples := r.samples + 1, highs := 0, bits := bits, noisy := noisy }
  else .goesOn { r with samples := r.samples + 1 }

/-- The byte of a character's first eight bits, the least significant first (R135). -/
def byteOfBits (bits : List Bool) : Byte :=
  BitVec.ofNat 8 ((bits.take 8).foldr (fun b n => b.toNat + 2 * n) 0)

/-! ### The station sampler -/

/-- The low-sample count at which a low stretch is a break: 11 bit times (R136). -/
def breakSamples : Nat := 176

/-- The number of the stop bit of a station character: a start bit and eight data bits come before it (R134). -/
def stationStopBit : Nat := 9

/-- A station character whose stop bit is decided: handed on where the stop bit is high, and otherwise waiting in LOW_WATCH
(R135). -/
def stationDecided (bits : List Bool) (noisy : Bool) (r : StationReceiver) : StationReceiver :=
  if bits.getD 8 false then { r with sampler := .idle, decided := some (.character (byteOfBits bits) noisy) }
  else { r with sampler := .lowWatch }

/-- What a sample does in the state that the sampler is in (R135, R136); `first` says that it is the first low sample after
a high one. -/
def samplerStep (first : Bool) (r : StationReceiver) : StationReceiver :=
  match r.sampler with
  | .markWait => if r.input.level then { r with sampler := .idle } else r
  | .idle => if first then { r with sampler := .character .start } else r
  | .character c =>
    match c.take stationStopBit r.input.level with
    | .goesOn c => { r with sampler := .character c }
    | .falseStart => { r with sampler := .idle }
    | .complete bits noisy => stationDecided bits noisy r
  | .lowWatch => if r.input.level then { r with sampler := .idle, decided := some .framingError } else r

/-- One sample of the station line (R135, R136). The count of low samples runs in every state. Where it reaches 176 the low
stretch is a break, unless the sampler is in MARK_WAIT, where it takes no notice of a low line (log entry 23). -/
def sampleStation (r : StationReceiver) : StationReceiver :=
  let x := { r with input := r.input.next }
  let y := { x with lowCount := if x.input.level then 0 else x.lowCount + 1 }
  if breakSamples ≤ y.lowCount ∧ y.sampler ≠ .markWait then { y with sampler := .markWait, decided := some .brk }
  else samplerStep (!x.input.level && x.lowCount == 0) y

/-! ### The receiver of a link port -/

/-- A character time in 1/64 µs (R169): 11 bit times under EVEN and 10 under NONE, of N ÷ 64 µs each. -/
def charTime (l : LineSettings) : Nat := (if l.even then 11 else 10) * divisorN l.baud

/-- The number of the stop bit of a link character (R169): nine bits come before it, and the parity bit under EVEN. -/
def portStopBit (l : LineSettings) : Nat := if l.even then 10 else 9

/-- The byte and the marks of a link character by its decided bits (R170): BREAK where every one is low, FRAMING where the
stop bit is low and an earlier one high, PARITY where the ones among the data and parity bits are odd in number. -/
def linkCharacter (l : LineSettings) (bits : List Bool) (noisy : Bool) : Byte × Marks :=
  let stop := bits.getLastD true
  let brk := !bits.any id
  (byteOfBits bits,
    { noise := noisy, parity := l.even && bits.dropLast.count true % 2 == 1, framing := !stop && !brk, brk := brk })

/-- The receiver after a character with these marks (R170): where its stop bit was low it waits for a high sample before it
looks for the next start edge. Where samples 7 and 8 have decided it low and sample 9 is high, the rule does not say whether
that sample is the line seen high; the model waits for a later one (log entry 24). -/
def receiverAfter (marks : Marks) : Receiver := if marks.framing || marks.brk then .waitHigh else .idle

/-- What a sample does in the state that the receiver is in (R170); `first` says that it is the first low sample after a high
one. -/
def receiverStep (first : Bool) (p : Port) : Port :=
  match p.receiver with
  | .waitHigh => if p.input.level then { p with receiver := .idle } else p
  | .idle => if first then { p with receiver := .character .start } else p
  | .character c =>
    match c.take (portStopBit p.line) p.input.level with
    | .goesOn c => { p with receiver := .character c }
    | .falseStart => { p with receiver := .idle }
    | .complete bits noisy =>
      let x := linkCharacter p.line bits noisy
      { p with receiver := receiverAfter x.2, decided := some x }

/-- The receiver is idle (R177): its line is high, and no character is in reception. -/
def lineIdle (p : Port) : Bool :=
  p.input.level &&
    (match p.receiver with
      | .character _ => false
      | _ => true)

/-- The idle count of TURNAROUND (R177): it runs while the receiver is idle, from the full two character times where it
starts, and is stopped while the receiver is not, also where it has just run out (log entry 31). -/
def idleCount (p : Port) : Option Nat := if lineIdle p then some (p.lineTimer.getD (2 * charTime p.line)) else none

/-- One sample of a link port's line (R170, R172, R177): in RESPONDING the receiver takes no notice of it, and in TURNAROUND
the idle count follows it. -/
def samplePort (p : Port) : Port :=
  let x := { p with input := p.input.next }
  if x.phase = .responding then x
  else
    let y := receiverStep (!x.input.level && p.input.level) x
    if y.phase = .turnaround then { y with lineTimer := idleCount y } else y

end Sys2Proof.Machine
end

