-- ==== Sys2Proof/Machine/Pressure.lean ====
section
/-! DEFINITION. The pressure governor (Chapter 6): the choice of the controlling error, the PI arithmetic, the evaluation in
each mode, the hand-over of the demand (R40), and the station line and table (Chapter 7). -/

namespace Sys2Proof.Machine

/-! ### The controlling error -/

/-- All station entries, in number order. -/
def allStations : List StationId := List.finRange 8

/-- An entry is eligible: enabled and FRESH (R118). -/
def eligibleStation (x : Station) : Bool := x.enabled && x.state == .fresh

/-- The station error of an entry (R119). -/
def stationError (x : Station) : Int :=
  match x.reading with
  | some r => (r.dp : Int) - (x.setpoint : Int)
  | none => -(x.setpoint : Int)

/-- The eligible entries, in number order. -/
def eligibleEntries (t : Table Station 8) : List StationId := allStations.filter fun k => eligibleStation t[k]

/-- The entry with the smallest station error, the lowest number where errors are equal (R119). -/
def controllingEntry (t : Table Station 8) : List StationId → Option StationId
  | [] => none
  | k :: rest =>
    match controllingEntry t rest with
    | none => some k
    | some j => if stationError t[j] < stationError t[k] then some j else some k

/-- The bound of the controlling error (R119). -/
def errorBound : Nat := 2000

/-! ### Regulation arithmetic -/

/-- The proportional term (R120): −(Kp × e) ÷ 8, truncated toward zero. -/
def proportional (g : Governor) (e : Int) : Int := (-((g.kp : Int) * e)).tdiv 8

/-- The integral change (R120). -/
def integralChange (g : Governor) (e : Int) : Int := -(g.ki : Int) * e

/-- The raw output (R120). -/
def rawOutput (g : Governor) (e : Int) : Int := proportional g e + ((g.integral / 64 : Nat) : Int)

/-- The demand moved toward `u` by at most Dstep (R120, R126). -/
def stepDemand (g : Governor) (u : Nat) : Nat := ((g.demand : Int) + clampAbs g.dstep ((u : Int) - g.demand)).toNat

/-- An integral clamped to the limits (R115, R121). -/
def clampIntegral (g : Governor) (x : Int) : Nat := clampInt (g.dmin * 64) (g.dmax * 64) x

/-- The integral after a regulating evaluation, judged by raw and its change (R121). -/
def nextIntegral (g : Governor) (e : Int) : Nat :=
  let raw := rawOutput g e
  let change := integralChange g e
  if (g.dmax : Int) ≤ raw ∧ 0 < change then g.integral
  else if raw ≤ (g.dmin : Int) ∧ change < 0 then g.integral
  else clampIntegral g ((g.integral : Int) + change)

/-- The arithmetic of one regulating evaluation (R120, R121) with controlling entry `k` and error `e`. -/
def regulate (k : StationId) (e : Int) (g : Governor) : Governor :=
  { g with
    demand := stepDemand g (clampInt g.dmin g.dmax (rawOutput g e))
    integral := nextIntegral g e
    lastError := some { entry := k, error := e, p := proportional g e, raw := rawOutput g e } }

/-- Bumpless entry to REGULATE (R122, steps 1 to 3): the integral is rebased so that raw starts at the demand held. -/
def enterRegulate (e : Int) (g : Governor) : Governor :=
  { g with
    mode := .regulate, holdTimer := none
    integral := clampIntegral g (((g.demand : Int) - proportional g e) * 64) }

/-- An evaluation that finds an eligible station (R117, R120, R122). -/
def evaluateWith (count : Nat) (k : StationId) (e : Int) (g : Governor) : Governor :=
  let g1 := { g with eligible := some count }
  match g.mode with
  | .off => g
  | .regulate => regulate k e g1
  | .hold => regulate k e (enterRegulate e g1)
  | .fallback => regulate k e (enterRegulate e g1)

/-- An evaluation that finds no eligible station (R117, R123, R126). -/
def evaluateWithout (g : Governor) : Governor :=
  let g1 := { g with eligible := some 0, lastError := none }
  match g.mode with
  | .off => g
  | .regulate => { g1 with mode := .hold, holdTimer := some (g.holdTime * 1000000) }
  | .hold => g1
  | .fallback => { g1 with demand := stepDemand g g.fallback }

/-- The governor after an evaluation of the station table (R117 to R123, R126). -/
def evaluate (t : Table Station 8) (g : Governor) : Governor :=
  match controllingEntry t (eligibleEntries t) with
  | some k => evaluateWith (eligibleEntries t).length k (clampAbs errorBound (stationError t[k])) g
  | none => evaluateWithout g

/-- The governor replaced; a change of mode sets GOV_MODE attention for both masters (R127). -/
def putGovernor (g : Governor) (s : State) : State :=
  let s1 := { s with governor := g }
  if g.mode = s.governor.mode then s1 else setFlagBoth .govMode s1

/-- The demand handed to one following pump (R40): a FOLLOW ramp toward D at its follow step. -/
def retarget (n : ActId) (demand : Nat) (s : State) : State :=
  let a := s.actuators[n]
  match a.follow with
  | none => s
  | some step =>
    match requestRamp .follow demand step true a with
    | (b, .landed) => reportLanded n (putActuator n b s)
    | (b, _) => putActuator n b s

/-- The demand handed to ACT at an evaluation end (R127, R40). -/
def handDemand (s : State) : State :=
  allActuators.foldl (fun t n => retarget n s.governor.demand t) s

/-- The evaluation interval in microseconds (R117). -/
def evalInterval : Nat := 1000000

/-- One evaluation (R117): the timer restarts; in OFF nothing more happens; otherwise the governor evaluates the stations
and hands its demand to ACT. -/
def evaluateGovernor (s : State) : State :=
  let g := { s.governor with evalTimer := evalInterval }
  if g.mode = .off then { s with governor := g }
  else handDemand (putGovernor (evaluate s.stations g) s)

/-- The hold timer expiry (R125): FALLBACK with D and I as they stand; nothing where the timer is absent or has time
left. -/
def holdExpiry (s : State) : State :=
  match s.governor.holdTimer with
  | some 0 => putGovernor { s.governor with mode := .fallback, holdTimer := none } s
  | _ => s

/-- Every follow flag cleared and every FOLLOW ramp removed, as at an entry into OFF (R41, R129). -/
def clearFollowers (s : State) : State :=
  allActuators.foldl (fun t n =>
    let a := t.actuators[n]
    match a.ramp with
    | some r =>
      if r.origin = .follow then putActuator n { removeRamp a with follow := none } t
      else putActuator n { a with follow := none } t
    | none => putActuator n { a with follow := none } t) s

/-! ### The station table -/

/-- A station entry replaced; a change of its state sets STATION_STATE attention for both masters (R144). -/
def changeStation (k : StationId) (x : Station) (s : State) : State :=
  let s1 := putStation k x s
  if x.state = s.stations[k].state then s1 else setFlagBoth .stationState s1

/-- The dynamic state of an entry in NEVER (R140, R145). -/
def neverState (x : Station) : Station := { x with state := .never, reading := none, staleTimer := none }

/-- The quality that a quality byte gives (R138, R142): its two low-order bits, with 2 and 3 both BAD. -/
def qualityOf (b : Byte) : Quality :=
  match b.toNat % 4 with
  | 0 => .good
  | 1 => .uncertain
  | _ => .bad

/-- The enabled entry that holds an address (R141). -/
def entryAt (address : Nat) (t : Table Station 8) : Option StationId :=
  allStations.find? fun k => t[k].enabled && t[k].address == address

/-- The last rejection recorded in the line status (R139). -/
def reject (r : Rejection) (s : State) : State := { s with receiver := { s.receiver with lastRejection := r } }

/-- A frame taken into its entry (R141, steps 1 to 5). -/
def takenFrame (dp : Nat) (sequence : Byte) (q : Quality) (x : Station) : Station :=
  { x with
    reading := some { dp := clampNat 0 10000 dp, sequence := sequence, quality := q }
    state := if q = .bad then .bad else .fresh
    staleTimer := some (x.staleTime * 1000000) }

/-- A checked frame handed to STB (R141): ignored, dropped as a repeat, or taken. -/
def takeStationFrame (address sequence : Byte) (dp : Nat) (q : Quality) (s : State) : State :=
  match entryAt address.toNat s.stations with
  | none => reject (.notEnabled address) s
  | some k =>
    let x := s.stations[k]
    if (match x.reading with | some r => r.sequence == sequence | none => false) then reject (.repeated address) s
    else changeStation k (takenFrame dp sequence q x) s

/-- Six bytes after a break, checked (R138). -/
def checkStationFrame (bytes : List (Byte × Bool)) (s : State) : State :=
  match bytes.map Prod.fst with
  | [address, sequence, high, low, quality, check] =>
    if crc8 [address, sequence, high, low, quality] = check then
      takeStationFrame address sequence (high.toNat * 256 + low.toNat) (qualityOf quality) s
    else reject (if bytes.any Prod.snd then .noise else .check) s
  | _ => s

/-- The assembler's state replaced. -/
def putAssembler (x : StationAssembler) (s : State) : State := { s with receiver := { s.receiver with assembler := x } }

/-- A byte handed to the station assembler (R137). -/
def stationByte (b : Byte) (noisy : Bool) (s : State) : State :=
  match s.receiver.assembler with
  | .hunt => s
  | .address => putAssembler (.body [(b, noisy)]) s
  | .body taken =>
    if taken.length < 5 then putAssembler (.body (taken ++ [(b, noisy)])) s
    else checkStationFrame (taken ++ [(b, noisy)]) (putAssembler .hunt s)

/-- A framing error handed to the station assembler (R137). -/
def stationFraming (s : State) : State :=
  match s.receiver.assembler with
  | .hunt => s
  | _ => reject .framing (putAssembler .hunt s)

/-- A break handed to the station assembler (R137). -/
def stationBreakEvent (s : State) : State :=
  match s.receiver.assembler with
  | .body _ => reject .cutShort (putAssembler .address s)
  | _ => putAssembler .address s

/-- The sampler's state and low-sample count replaced. -/
def putSampler (x : Sampler) (low : Nat) (s : State) : State :=
  { s with receiver := { s.receiver with sampler := x, lowCount := low } }

/-- The sampler looks for a start edge or is inside a character (R135): the states in which the stop bit of a character can
come to be decided. -/
def mayReceive (x : Sampler) : Bool :=
  match x with
  | .idle => true
  | .character _ => true
  | _ => false

/-- An event of the station sampler taken by the assembler (R135 to R137): one that the sampler has decided at its present
sample is handed on with the sampler as that sample left it; one that comes as a command alone is handed on where `may`, with
the sampler as the samples that make it leave it. Any other cannot have come about, and changes nothing (log entry 10). -/
def takeStationEvent (e : StationEvent) (may : Bool) (after : Sampler) (low : Nat) (hand : State → State) (s : State) :
    State :=
  if s.receiver.decided = some e then hand { s with receiver := { s.receiver with decided := none } }
  else if may then hand (putSampler after low s)
  else s

/-- A character completes (R135): its stop bit is high, so that the sampler is IDLE with low-sample count 0. -/
def stationCharacterEvent (byte : Byte) (noisy : Bool) (s : State) : State :=
  takeStationEvent (.character byte noisy) (mayReceive s.receiver.sampler) .idle 0 (stationByte byte noisy) s

/-- A high sample ends LOW_WATCH (R136). -/
def stationFramingEvent (s : State) : State :=
  takeStationEvent .framingError (s.receiver.sampler == .lowWatch) .idle 0 stationFraming s

/-- The low-sample count reaches 176 (R136), which in MARK_WAIT is no break (log entry 23). -/
def stationLowEvent (s : State) : State :=
  takeStationEvent .brk (s.receiver.sampler != .markWait) .markWait breakSamples stationBreakEvent s

/-- A character's stop bit is decided low (R135, R136): the sampler goes to LOW_WATCH with `count` low samples counted. -/
def stationStopLow (count : Nat) (s : State) : State :=
  if mayReceive s.receiver.sampler then putSampler .lowWatch count s else s

/-- A stale timer expiry (R143, R148); nothing where the timer is absent or has time left. -/
def staleExpiry (k : StationId) (s : State) : State :=
  match s.stations[k].staleTimer with
  | some 0 => changeStation k { s.stations[k] with state := .stale, staleTimer := none } s
  | _ => s

end Sys2Proof.Machine
end

