-- ==== Sys2Proof/Machine/Plant.lean ====
section
/-! DEFINITION. The owners of the plant's requests: ACT (R2, R4, R5, R11, R12, R26), the field channels (R152, R161, R162,
R166, R167), GOV (R116, R128 to R131), STB and SRX (R139, R145 to R147). -/

namespace Sys2Proof.Machine

/-! ### ACT -/

/-- The executor of a group is IDLE; an absent group has none. -/
def groupIdle (g : Option GroupId) (s : State) : Bool :=
  match g with
  | none => true
  | some g => s.executors[g].state == .idle

/-- The requester holds the present group of an entry, where it has one (R4). -/
def holdsPresent (m : Master) (g : Option GroupId) (s : State) : Bool :=
  match g with
  | none => true
  | some g => holdsGroup m g s

/-- The group a new record names: none for kind NONE, else the group of its code, where there is such a group. -/
def newGroup (r : RawActuator) : Option GroupId := if r.kind = 0 then none else index? 5 r.group

/-- The requester holds the group named in the new record, where the new kind is not NONE (R4). -/
def holdsNew (m : Master) (r : RawActuator) (s : State) : Bool :=
  r.kind == 0 ||
    (match index? 5 r.group with
      | none => false
      | some g => holdsGroup m g s)

/-- The feedback that a configuration's named channel gives (R5), absent where none is named. -/
def configuredFeedback (c : ActConfig) (s : State) : Option Feedback :=
  c.feedback.map fun f => feedbackFrom s.captures[f.channel]

/-- An accepted configuration takes effect (R5, R44, R150): the record, the channel's pending period and polarity, and
the feedback taken at once from the named channel. -/
def configure (n : ActId) (w : ActWrite) (s : State) : State :=
  let s1 :=
    { s with
      outputs := put s.outputs n { s.outputs[n] with pendingPeriod := some w.period, polarity := w.polarity } }
  putActuator n { s.actuators[n] with cfg := w.cfg, feedback := configuredFeedback w.cfg s } s1

/-- CONFIGURE ACTUATOR (R4, R5). -/
def configureActuatorOwner (m : Master) (r : RawActuator) (s : State) : State × Reply :=
  match index? 16 r.number with
  | none => refuse .outOfRange s
  | some n =>
    let old := s.actuators[n].cfg.group
    if ¬ (holdsPresent m old s && holdsNew m r s) then refuse .notHolder s
    else if s.actuators[n].state ≠ .outOfService then refuse .wrongState s
    else if old ≠ newGroup r ∧ ¬ (groupIdle old s && groupIdle (newGroup r) s) then refuse .busy s
    else
      match actWrite? r with
      | none => refuse .outOfRange s
      | some w => (configure n w s, .ok [])

/-- The feedback status of an entry is OK, or it has no feedback configured (R11). -/
def feedbackOk (a : Actuator) : Bool :=
  match a.cfg.feedback, a.feedback with
  | some _, some f => f.status == .ok
  | some _, none => false
  | none, _ => true

/-- The entry brought into service (R11): a STOPPED pump, or a HOLDING valve at its feedback or at min. -/
def serviceEntry (a : Actuator) : Actuator :=
  let b := { a with ramp := none, accumulator := 0, fault := .none, furtherFault := false }
  match a.cfg.kind with
  | .pump => { b with state := .stopped, command := 0 }
  | _ =>
    { b with
      state := .holding
      command := match a.cfg.feedback, a.feedback with
        | some _, some f => clampNat a.cfg.min a.cfg.max f.value
        | _, _ => a.cfg.min }

/-- The requester holds the actuator's group. -/
def holdsActuator (m : Master) (a : Actuator) (s : State) : Bool :=
  match a.cfg.group with
  | none => false
  | some g => holdsGroup m g s

/-- SET SERVICE IN (R11). -/
def setServiceInOwner (m : Master) (actuator : Byte) (s : State) : State × Reply :=
  match index? 16 actuator with
  | none => refuse .outOfRange s
  | some n =>
    let a := s.actuators[n]
    if a.cfg.kind = .none then refuse .wrongState s
    else if ¬ holdsActuator m a s then refuse .notHolder s
    else if s.ptrip.asserted then refuse .tripActive s
    else if a.state ≠ .outOfService then refuse .wrongState s
    else if a.cfg.kind = .pump ∧ proofRunning a s then refuse .notPresent s
    else if ¬ feedbackOk a then refuse .notPresent s
    else (putActuator n (serviceEntry a) s, .ok [])

/-- The entry taken out of service (R12): the command at fault is kept. -/
def serviceExit (a : Actuator) : Actuator :=
  { a with
    state := .outOfService, command := 0, ramp := none, accumulator := 0, follow := none, fault := .none,
    furtherFault := false, proofTimer := none, deviationTimer := none, lostTimer := none }

/-- A state in which service exit is accepted (R12): a pump STOPPED or FAULTED, a valve HOLDING or FAULTED. -/
def mayLeave (a : Actuator) : Bool :=
  match a.cfg.kind with
  | .pump => a.state == .stopped || a.state == .faulted
  | _ => a.state == .holding || a.state == .faulted

/-- SET SERVICE OUT (R12). -/
def setServiceOutOwner (m : Master) (actuator : Byte) (s : State) : State × Reply :=
  match index? 16 actuator with
  | none => refuse .outOfRange s
  | some n =>
    let a := s.actuators[n]
    if a.cfg.kind = .none then refuse .wrongState s
    else if ¬ holdsActuator m a s then refuse .notHolder s
    else if ¬ groupIdle a.cfg.group s then refuse .busy s
    else if ¬ mayLeave a then refuse .wrongState s
    else (putActuator n (serviceExit a) s, .ok [])

/-- The entry cleared of its fault (R26). -/
def clearedEntry (a : Actuator) : Actuator :=
  let b := { a with ramp := none, accumulator := 0, fault := .none, furtherFault := false }
  match a.cfg.kind with
  | .pump => { b with state := .stopped, command := 0 }
  | _ =>
    { b with
      state := .holding
      command := clampNat a.cfg.min a.cfg.max
        (match a.cfg.feedback, a.feedback with
          | some _, some f => if f.status = .ok then f.value else a.command
          | _, _ => a.command) }

/-- The requester may clear a fault (R26): it holds the group, or the group has no holder, or there is no group. -/
def mayClear (m : Master) (a : Actuator) (s : State) : Bool :=
  match a.cfg.group with
  | none => true
  | some g => s.groupHolders[g] == some m || s.groupHolders[g] == none

/-- CLEAR FAULT (R26). -/
def clearFaultOwner (m : Master) (actuator : Byte) (s : State) : State × Reply :=
  match index? 16 actuator with
  | none => refuse .outOfRange s
  | some n =>
    let a := s.actuators[n]
    if ¬ mayClear m a s then refuse .notHolder s
    else if s.ptrip.asserted then refuse .tripActive s
    else if a.state ≠ .faulted then refuse .wrongState s
    else if a.cfg.kind = .pump ∧ proofRunning a s then refuse .wrongState s
    else (putActuator n (clearedEntry a) s, .ok [])

/-- READ ACTUATOR CONFIGURATION (R2). -/
def readConfigurationOwner (actuator : Byte) (s : State) : State × Reply :=
  match index? 16 actuator with
  | none => refuse .outOfRange s
  | some n => (s, .ok (configBytes n s.actuators[n].cfg s.outputs[n]))

/-- READ ACTUATOR STATUS (R2). -/
def readStatusOwner (actuator : Byte) (s : State) : State × Reply :=
  match index? 16 actuator with
  | none => refuse .outOfRange s
  | some n => (s, .ok (statusBytes n s.actuators[n] s))

/-! ### Field channels -/

/-- READ OUTPUTS (R152). -/
def readOutputsOwner (s : State) : State × Reply := (s, .ok (allActuators.flatMap fun n => outputBytes s.outputs[n]))

/-- An in-service actuator names the channel as feedback (R161). -/
def captureInUse (c : CaptureId) (s : State) : Bool :=
  allActuators.any fun n =>
    inService s.actuators[n] &&
      (match s.actuators[n].cfg.feedback with
        | some f => f.channel == c
        | none => false)

/-- A capture configuration written (R161, R163): its effect on the measurement state depends on what has changed. A channel
that comes out of OFF takes the level of its input, so that a high one gives no rising edge (R154). Where only the timeout, gain
or offset changes, or nothing, a running timer keeps the time it has left. A timer that has run out, its expiry not yet taken,
is started anew under any configuration, and the expiry does not occur (R163): the model's choice where R161 restarts no timer
(log entry 28). -/
def writeCapture (w : CaptureWrite) (x : Capture) : Capture :=
  let y := { x with mode := w.mode, prescale := w.prescale, timeout := w.timeout, gain := w.gain, offset := w.offset }
  if w.mode ≠ x.mode then
    { y with
      phase := .waitEdge, status := .noSignal, lastRaw := none, age := 0
      sample := if x.mode = .off then x.input.level else x.sample
      value := if w.mode = .frequency then offsetValue y else 0
      timer := freshTimeout y }
  else if w.prescale ≠ x.prescale then { y with phase := .waitEdge, age := 0, timer := freshTimeout y }
  else { y with timer := if x.timer = some 0 then freshTimeout y else x.timer }

/-- CONFIGURE CAPTURE (R161). -/
def configureCaptureOwner (r : RawCapture) (s : State) : State × Reply :=
  match index? 16 r.channel with
  | none => refuse .outOfRange s
  | some c =>
    match captureWrite? r with
    | none => refuse .outOfRange s
    | some w =>
      if captureInUse c s then refuse .inUse s
      else
        let x := s.captures[c]
        let y := writeCapture w x
        let s1 := putCapture c y s
        (if x.status ≠ y.status ∨ x.value ≠ y.value then reportCapture c false s1 else s1, .ok [])

/-- READ MEASUREMENT (R162). -/
def readMeasurementOwner (channel : Byte) (s : State) : State × Reply :=
  match index? 16 channel with
  | none => refuse .outOfRange s
  | some c => (s, .ok (captureBytes c s.captures[c]))

/-- SET DEBOUNCE (R166): every time 0..255 is in range of its byte. -/
def setDebounceOwner (input time : Byte) (s : State) : State × Reply :=
  match index? 24 input with
  | none => refuse .outOfRange s
  | some d => (judgeInput d (putInput d { s.inputs[d] with debounce := time.toNat } s), .ok [])

/-- All discrete inputs, in number order. -/
def allInputs : List InputId := List.finRange 24

/-- READ INPUTS (R167). -/
def readInputsOwner (s : State) : State × Reply :=
  (s, .ok (allInputs.flatMap (fun d => inputBytes s.inputs[d]) ++ tripBytes s.ptrip))

/-! ### GOV -/

/-- The settings of a record are within their ranges (R130). -/
def validSettings (r : RawGovernor) : Bool :=
  decide (r.dmin.toNat ≤ 10000) && decide (r.dmax.toNat ≤ 10000) && decide (r.dmin.toNat ≤ r.dmax.toNat) &&
    decide (1 ≤ r.dstep.toNat) && decide (r.dstep.toNat ≤ 2000) && decide (1 ≤ r.holdTime.toNat) &&
    decide (r.holdTime.toNat ≤ 600) && decide (r.fallback.toNat ≤ 10000)

/-- The governor with new settings (R130), and with D and I clamped to the new limits (R131). -/
def withSettings (r : RawGovernor) (g : Governor) : Governor :=
  { g with
    kp := r.kp.toNat, ki := r.ki.toNat, dmin := r.dmin.toNat, dmax := r.dmax.toNat, dstep := r.dstep.toNat,
    holdTime := r.holdTime.toNat, fallback := clampNat r.dmin.toNat r.dmax.toNat r.fallback.toNat,
    demand := clampNat r.dmin.toNat r.dmax.toNat g.demand,
    integral := clampNat (r.dmin.toNat * 64) (r.dmax.toNat * 64) g.integral }

/-- GOVERNOR SETTINGS (R130, R131). -/
def governorSettingsOwner (m : Master) (r : RawGovernor) (s : State) : State × Reply :=
  if ¬ holdsGov m s then refuse .notHolder s
  else if ¬ validSettings r then refuse .outOfRange s
  else
    let g := withSettings r s.governor
    ({ s with governor := g }, .ok (byte2 g.fallback))

/-- The governor switched on from OFF (R128). -/
def switchedOn (g : Governor) : Governor :=
  { g with
    mode := .hold, demand := g.fallback, integral := g.fallback * 64, holdTimer := some (g.holdTime * 1000000) }

/-- GOVERNOR MODE ON (R128). -/
def modeOnOwner (m : Master) (s : State) : State × Reply :=
  if ¬ holdsGov m s then refuse .notHolder s
  else
    let s1 := if s.governor.mode = .off then putGovernor (switchedOn s.governor) s else s
    (s1, .ok [modeByte s1.governor.mode])

/-- The governor switched off (R129). -/
def switchedOff (g : Governor) : Governor :=
  { g with mode := .off, holdTimer := none, eligible := none, lastError := none }

/-- GOVERNOR MODE OFF (R129). -/
def modeOffOwner (m : Master) (s : State) : State × Reply :=
  if ¬ holdsGov m s then refuse .notHolder s
  else
    let s1 :=
      if s.governor.mode = .off then s else clearFollowers (putGovernor (switchedOff s.governor) s)
    (s1, .ok [modeByte s1.governor.mode])

/-- GOVERNOR MODE with an argument that is neither ON nor OFF (R128). -/
def modeOtherOwner (m : Master) (s : State) : State × Reply :=
  if ¬ holdsGov m s then refuse .notHolder s else refuse .outOfRange s

/-- READ GOVERNOR SETTINGS (R116). -/
def readSettingsOwner (s : State) : State × Reply := (s, .ok (settingsBytes s.governor))

/-- READ GOVERNOR STATUS (R116). -/
def readGovernorOwner (s : State) : State × Reply := (s, .ok (governorBytes s.governor))

/-! ### STB and SRX -/

/-- Another enabled entry holds the address (R145). -/
def addressTaken (k : StationId) (address : Nat) (t : Table Station 8) : Bool :=
  allStations.any fun j => j != k && t[j].enabled && t[j].address == address

/-- A station entry with a new configuration (R145): its dynamic state is kept only where it stays enabled with its
address unchanged. -/
def configuredStation (enabled : Bool) (address setpoint staleTime : Nat) (x : Station) : Station :=
  let y := { x with enabled := enabled, address := address, setpoint := setpoint, staleTime := staleTime }
  if x.enabled ∧ enabled ∧ x.address = address then y else neverState y

/-- CONFIGURE STATION (R145). -/
def configureStationOwner (m : Master) (r : RawStation) (s : State) : State × Reply :=
  if ¬ holdsGov m s then refuse .notHolder s
  else
    match index? 8 r.entry, flag? r.enabled, range? 1 247 r.address.toNat, range? 0 10000 r.setpoint.toNat,
      range? 1 60 r.staleTime.toNat with
    | some k, some enabled, some address, some setpoint, some staleTime =>
      if enabled ∧ addressTaken k address s.stations then refuse .duplicate s
      else (changeStation k (configuredStation enabled address setpoint staleTime s.stations[k]) s, .ok [])
    | _, _, _, _, _ => refuse .outOfRange s

/-- READ STATION (R146). -/
def readStationOwner (entry : Byte) (s : State) : State × Reply :=
  match index? 8 entry with
  | none => refuse .outOfRange s
  | some k => (s, .ok (stationBytes k s.stations[k]))

/-- The receiver at a new baud (R147): the sampler in MARK_WAIT, the assembler in HUNT, the last rejection kept. -/
def receiverAt (baud : Nat) (r : StationReceiver) : StationReceiver :=
  { r with
    baud := baud, clock := { fraction := 0, left := divisorInteger baud }, sampler := .markWait, lowCount := 0,
    decided := none, assembler := .hunt }

/-- STATION LINE SETTINGS (R147). -/
def stationLineOwner (m : Master) (baud : Half) (s : State) : State × Reply :=
  if ¬ holdsGov m s then refuse .notHolder s
  else if baud.toNat < 1200 ∨ 38400 < baud.toNat then refuse .outOfRange s
  else
    let s1 := if baud.toNat = s.receiver.baud then s else { s with receiver := receiverAt baud.toNat s.receiver }
    (s1, .ok (divisorBytes baud.toNat))

/-- READ STATION LINE STATUS (R139). -/
def readLineStatusOwner (s : State) : State × Reply := (s, .ok (lineStatusBytes s.receiver))

end Sys2Proof.Machine
end

