-- ==== Sys2Proof/Machine/Link.lean ====
section
/-! DEFINITION. The link ports (Chapter 9): the port's own requests (R178, R179, R181), the handling of a checked frame and
the building of its response (R172, R176), the frame assembler and its FIFO (R171, R173 to R175), the turnaround and the
end of a response (R177, R178), and the silence expiry (R110, R111). -/

namespace Sys2Proof.Machine

/-! ### The port's own requests -/

/-- Line settings as LINK SETTINGS carries them, where they are in range (R178, R186). -/
def lineSettings? (r : RawLink) : Option LineSettings :=
  (range? 1200 115200 r.baud.toNat).bind fun baud =>
  (flag? r.parity).bind fun even =>
  (range? 1 120 r.silence.toNat).map fun silence => { baud := baud, even := even, silence := silence }

/-- LINK SETTINGS (R178): the new settings are held as pending, and the answer carries the new divisor. -/
def linkSettingsOwner (m : Master) (r : RawLink) (s : State) : State × Reply :=
  match lineSettings? r with
  | none => refuse .outOfRange s
  | some l => (setPort m { port m s with pendingLine := some l } s, .ok (divisorBytes l.baud))

/-- The master of a link number (R179). -/
def link1or2? (b : Byte) : Option Master :=
  match b.toNat with
  | 1 => some .m1
  | 2 => some .m2
  | _ => none

/-- READ LINK STATUS (R179). -/
def readLinkOwner (link : Byte) (s : State) : State × Reply :=
  match link1or2? link with
  | none => refuse .outOfRange s
  | some m => (s, .ok (linkStatusBytes m (port m s)))

/-- READ ATTENTION (R181). -/
def readAttentionOwner (m : Master) (s : State) : State × Reply :=
  (s, .ok (byte2 (port m s).flags.toNat ++ byte2 (port m s).mask.toNat))

/-- CLEAR ATTENTION (R181). -/
def clearAttentionOwner (m : Master) (flags : Half) (s : State) : State × Reply :=
  (setPort m { port m s with flags := (port m s).flags &&& ~~~flags } s,
    .ok (byte2 ((port m s).flags &&& ~~~flags).toNat))

/-- SET MASK (R181). -/
def setMaskOwner (m : Master) (flags : Half) (s : State) : State × Reply :=
  (setPort m { port m s with mask := flags } s, .ok [])

/-- RESUME with an action that is neither RETRY nor SKIP (R94): out of range, whatever the group. -/
def resumeOtherOwner (s : State) : State × Reply := refuse .outOfRange s

/-! ### Handling -/

/-- The port of a master takes a frame that has passed its check (R110, R172, R175): the silence timer restarts, the link
is ACTIVE, the assembler is in HUNT and the phase is HANDLING. -/
def acceptFrame (m : Master) (s : State) : State :=
  let p := port m s
  setPort m
    { p with
      silenceTimer := some (seconds p.line.silence), active := true, assembler := .hunt, interByte := none,
      phase := .handling } s

/-- The response of an answer (R176): it is fixed here, and the port enters TURNAROUND, with the whole idle time of two
character times before it where its line is idle, and otherwise with the count not begun (R177). -/
def respond (q : Req) (code : Byte) (r : State × Reply) : State :=
  let p := port q.master r.1
  setPort q.master
    { p with
      response := some { status := replyStatus r.2, code := code, tag := q.tag, payload := replyPayload r.2 }
      phase := .turnaround
      lineTimer := if lineIdle p then some (2 * charTime p.line) else none } r.1

/-- The owner of a request takes it (R176). An event is no request and has no owner. -/
def serve (i : Instr) (s : State) : State × Reply :=
  match i with
  | .claim q set => claimOwner q.master set s
  | .release q set => releaseOwner q.master set s
  | .readClaims _ => readClaimsOwner s
  | .writeDescriptor q slot r => writeDescriptorOwner q.master slot r s
  | .freeDescriptor q slot => freeDescriptorOwner q.master slot s
  | .readDescriptor _ slot => readDescriptorOwner slot s
  | .writeProfile _ first vs => writeProfileOwner first vs s
  | .readProfile _ first count => readProfileOwner first count s
  | .runChain q group slot => runChainOwner q.master group slot s
  | .cancelChain q group => cancelChainOwner q.master group s
  | .resumeRetry q group => resumeRetryOwner q.master group s
  | .resumeSkip q group => resumeSkipOwner q.master group s
  | .readChain _ group => readChainOwner group s
  | .writeCursor q group cursor value => writeCursorOwner q.master group cursor value s
  | .readCursors _ group => readCursorsOwner group s
  | .configureActuator q r => configureActuatorOwner q.master r s
  | .setServiceIn q n => setServiceInOwner q.master n s
  | .setServiceOut q n => setServiceOutOwner q.master n s
  | .clearFault q n => clearFaultOwner q.master n s
  | .readActuatorConfiguration _ n => readConfigurationOwner n s
  | .readActuatorStatus _ n => readStatusOwner n s
  | .readOutputs _ => readOutputsOwner s
  | .configureCapture _ r => configureCaptureOwner r s
  | .readMeasurement _ c => readMeasurementOwner c s
  | .setDebounce _ input time => setDebounceOwner input time s
  | .readInputs _ => readInputsOwner s
  | .governorSettings q r => governorSettingsOwner q.master r s
  | .governorModeOn q => modeOnOwner q.master s
  | .governorModeOff q => modeOffOwner q.master s
  | .readGovernorSettings _ => readSettingsOwner s
  | .readGovernorStatus _ => readGovernorOwner s
  | .configureStation q r => configureStationOwner q.master r s
  | .readStation _ entry => readStationOwner entry s
  | .stationLineSettings q baud => stationLineOwner q.master baud s
  | .readStationLineStatus _ => readLineStatusOwner s
  | .linkSettings q r => linkSettingsOwner q.master r s
  | .readLinkStatus _ link => readLinkOwner link s
  | .readAttention q => readAttentionOwner q.master s
  | .clearAttention q flags => clearAttentionOwner q.master flags s
  | .setMask q flags => setMaskOwner q.master flags s
  | .badLength _ _ _ => refuse .badLength s
  | .unknownRequest _ _ => refuse .unknownRequest s
  | .powerOnReset | .panelReset | .linkCharacterReceived _ _ _ | .interByteTimeout _ | .turnaroundEnd _
  | .responseSent _ | .silenceExpiry _ | .stationCharacter _ _ | .stationFramingError | .stationBreak
  | .staleTimerExpiry _ | .governorEvaluation | .holdTimerExpiry | .slewExpiry _ | .periodEnd _ | .proofTimerExpiry _
  | .deviationTimerExpiry _ | .feedbackLostTimerExpiry _ | .discreteInputChange _ _ | .tripAssertion
  | .tripDeassertion | .frequencyMeasurement _ _ | .dutyMeasurement _ _ | .captureTimeoutExpiry _
  | .captureSpanOverflow _ | .dwellExpiry _ | .awaitTimeout _ | .captureEdge _ _ _ | .rawLevelChange _ _
  | .ptripRawChange _ | .stationFirstHighSample | .stationStopBitLow _ => refuse .unknownRequest s

/-- What a port finds in a frame, handed to its owner (R176). -/
def serveParsed (m : Master) (x : Parsed) (s : State) : State × Reply :=
  match x with
  | .command i => serve i s
  | .resumeOther _ => resumeOtherOwner s
  | .modeOther => modeOtherOwner m s
  | .unknown => refuse .unknownRequest s
  | .badLength => refuse .badLength s

/-- A request of master m that claims bear on (`claimsBearOn`), whose frame passes its check, with the silence timer of m as
the check finds it (R75, R101, R109, R113). Where the timer has time left, the owner takes the request. Where it has run out and
the expiry is not yet taken, either comes first: the check, which restarts the timer, so that no expiry occurs; or, at the port,
the expiry, which then meets the request at its owner, where the request is taken first, has its full effect, and the expiry acts
at once on what it has left. (The expiry taken first at the owner too is the SILENCE_EXPIRY event before this one.) R113's list
of the port's two orders does not agree with the orders at the owners that R75, R101, R109 and R113's table give; that those can
follow from the expiry taken first at the port is the model's choice (log entry 27). -/
def serveAtClaims (m : Master) (owner : State → State × Reply) (s : State) : State × Reply :=
  if (port m s).silenceTimer = some 0 then
    let r := owner (acceptFrame m { s with freeCount := s.freeCount + 1 })
    if Config.freePick s.freeCount % 2 = 0 then r else (silenceAtOwners m r.1, r.2)
  else owner (acceptFrame m s)

/-- The request changes claims (R113) or needs one (R109), so that it can meet the ending of a claim at its owner. -/
def claimsBearOn (i : Instr) : Bool :=
  match i with
  | .claim _ _ | .release _ _ | .runChain _ _ _ | .cancelChain _ _ | .resumeRetry _ _ | .resumeSkip _ _
  | .writeCursor _ _ _ _ | .configureActuator _ _ | .setServiceIn _ _ | .setServiceOut _ _ | .clearFault _ _
  | .governorSettings _ _ | .governorModeOn _ | .governorModeOff _ | .configureStation _ _ | .stationLineSettings _ _ =>
    true
  | .readClaims _ | .writeDescriptor _ _ _ | .freeDescriptor _ _ | .readDescriptor _ _ | .writeProfile _ _ _
  | .readProfile _ _ _ | .readChain _ _ | .readCursors _ _ | .readActuatorConfiguration _ _ | .readActuatorStatus _ _
  | .readOutputs _ | .configureCapture _ _ | .readMeasurement _ _ | .setDebounce _ _ _ | .readInputs _
  | .readGovernorSettings _ | .readGovernorStatus _ | .readStation _ _ | .readStationLineStatus _ | .linkSettings _ _
  | .readLinkStatus _ _ | .readAttention _ | .clearAttention _ _ | .setMask _ _ | .badLength _ _ _ | .unknownRequest _ _
  | .powerOnReset | .panelReset | .linkCharacterReceived _ _ _ | .interByteTimeout _ | .turnaroundEnd _
  | .responseSent _ | .silenceExpiry _ | .stationCharacter _ _ | .stationFramingError | .stationBreak
  | .staleTimerExpiry _ | .governorEvaluation | .holdTimerExpiry | .slewExpiry _ | .periodEnd _ | .proofTimerExpiry _
  | .deviationTimerExpiry _ | .feedbackLostTimerExpiry _ | .discreteInputChange _ _ | .tripAssertion
  | .tripDeassertion | .frequencyMeasurement _ _ | .dutyMeasurement _ _ | .captureTimeoutExpiry _
  | .captureSpanOverflow _ | .dwellExpiry _ | .awaitTimeout _ | .captureEdge _ _ _ | .rawLevelChange _ _
  | .ptripRawChange _ | .stationFirstHighSample | .stationStopBitLow _ => false

/-- What a port finds in a frame is such a request. -/
def claimsBearOnParsed (x : Parsed) : Bool :=
  match x with
  | .command i => claimsBearOn i
  | .resumeOther _ | .modeOther => true
  | .unknown | .badLength => false

/-- A checked frame handled (R113, R175, R176): its bytes from the code through the last payload byte. -/
def handleFrame (m : Master) (bytes : List Byte) (s : State) : State :=
  match bytes with
  | code :: high :: low :: payload =>
    let q : Req := { master := m, tag := join2 high low }
    let x := parseRequest q code payload
    respond q code
      (if claimsBearOnParsed x then serveAtClaims m (serveParsed m x) s else serveParsed m x (acceptFrame m s))
  | _ => s

/-! ### The frame assembler -/

/-- An entry with any of the marks PARITY, FRAMING, BREAK or OVERRUN (R173). -/
def errored (e : FifoEntry) : Bool := e.overrun || e.marks.brk || e.marks.framing || e.marks.parity

/-- The error recorded of an errored entry: the first present of OVERRUN, BREAK, FRAMING and PARITY (R173). -/
def entryError (e : FifoEntry) : LinkError :=
  if e.overrun then .overrun else if e.marks.brk then .brk else if e.marks.framing then .framing else .parity

/-- What one entry does to the assembler: its state, the error recorded, and the bytes from the code through the last
payload byte of a frame that has passed its check. -/
structure Assembled where
  assembler : LinkAssembler
  error : Option LinkError
  frame : Option (List Byte)
deriving DecidableEq, Repr

/-- A byte examined in HUNT (R173). -/
def huntByte (b : Byte) (noise : Bool) : LinkAssembler := if b = 0xD2 then .length noise else .hunt

/-- One entry taken by the assembler (R173, R175). -/
def assemble (a : LinkAssembler) (e : FifoEntry) : Assembled :=
  if errored e then { assembler := .hunt, error := some (entryError e), frame := none }
  else
    match a with
    | .hunt => { assembler := huntByte e.byte e.marks.noise, error := none, frame := none }
    | .length noisy =>
      if 3 ≤ e.byte.toNat ∧ e.byte.toNat ≤ 60 then
        { assembler := .body e.byte.toNat [e.byte] (noisy || e.marks.noise), error := none, frame := none }
      else { assembler := huntByte e.byte e.marks.noise, error := some .length, frame := none }
    | .body length taken noisy =>
      let noisy := noisy || e.marks.noise
      if length < (taken ++ [e.byte]).length then
        { assembler := .check length (taken ++ [e.byte]) none noisy, error := none, frame := none }
      else { assembler := .body length (taken ++ [e.byte]) noisy, error := none, frame := none }
    | .check length taken none noisy =>
      { assembler := .check length taken (some e.byte) (noisy || e.marks.noise), error := none, frame := none }
    | .check _ taken (some high) noisy =>
      if crc16 taken = join2 high e.byte then { assembler := .hunt, error := none, frame := some taken.tail }
      else
        { assembler := .hunt, error := some (if noisy || e.marks.noise then .noise else .check), frame := none }

/-- The inter-byte timer in microseconds (R174). -/
def interByteTime : Nat := 25000

/-- The oldest entry of a port's FIFO taken by its assembler, as one event (R171, R173 to R175). -/
def takeEntry (m : Master) (s : State) : State :=
  let p := port m s
  match p.fifo with
  | [] => s
  | e :: rest =>
    let r := assemble p.assembler e
    let s1 := setPort m
      { p with
        fifo := rest, assembler := r.assembler, lastError := r.error.getD p.lastError
        interByte := if r.assembler ≠ .hunt ∧ rest = [] then some interByteTime else none } s
    match r.frame with
    | none => s1
    | some bytes => handleFrame m bytes s1

/-- In LISTEN the assembler takes the waiting entries in arrival order, up to the one that completes a frame (R172). -/
def drain : Nat → Master → State → State
  | 0, _, s => s
  | fuel + 1, m, s =>
    if (port m s).phase = .listen ∧ (port m s).fifo ≠ [] then drain fuel m (takeEntry m s) else s

/-- The assembler takes every entry that it may. -/
def listenNow (m : Master) (s : State) : State := drain (port m s).fifo.length m s

/-- The entry that a received character makes (R170): a break is stored as 0 with no framing or parity mark, and a parity
mark belongs to parity EVEN. -/
def entryOf (even overrun : Bool) (byte : Byte) (marks : Marks) : FifoEntry :=
  if marks.brk then { byte := 0, marks := { marks with framing := false, parity := false }, overrun := overrun }
  else { byte := byte, marks := { marks with parity := marks.parity && even }, overrun := overrun }

/-- The depth of a receive FIFO (R171). -/
def fifoDepth : Nat := 16

/-- A completed character stored (R171): appended where there is room, with OVERRUN where one was pending, and otherwise
lost with the overrun-pending mark set. -/
def storeCharacter (byte : Byte) (marks : Marks) (p : Port) : Port :=
  if p.fifo.length < fifoDepth then
    { p with fifo := p.fifo ++ [entryOf p.line.even p.overrunPending byte marks], overrunPending := false }
  else { p with overrunPending := true }

/-- The receiver as a completed character leaves it (R170, R177). Where the receiver has decided this character at its
present sample, that sample has left it so. Where the character comes as a command alone, its stop bit tells what its samples
do: the receiver looks for the next start edge, or waits for a high sample; and in TURNAROUND the idle count begins anew at
the character's end, or, where the line stays low, when it next goes high. -/
def receiverDone (byte : Byte) (marks : Marks) (p : Port) : Port :=
  if p.decided = some (byte, marks) then { p with decided := none }
  else
    { p with
      receiver := receiverAfter marks
      lineTimer :=
        if p.phase = .turnaround then
          (if receiverAfter marks = .waitHigh then none else some (2 * charTime p.line))
        else p.lineTimer }

/-- A character completes on a link (R170 to R172, R177): RESPONDING takes no notice of it; elsewhere it is stored, and
LISTEN hands it to the assembler. -/
def receiveCharacter (m : Master) (byte : Byte) (marks : Marks) (s : State) : State :=
  let p := port m s
  if p.phase = .responding then s
  else listenNow m (setPort m (storeCharacter byte marks (receiverDone byte marks p)) s)

/-- The inter-byte timer expires (R174); nothing where it is absent or has time left. -/
def interByteExpiry (m : Master) (s : State) : State :=
  let p := port m s
  match p.interByte with
  | some 0 => setPort m { p with assembler := .hunt, interByte := none, lastError := .timeout } s
  | _ => s

/-! ### Turnaround, response and silence -/

/-- The characters of a response frame (R185): lead, length, the counted bytes and two check bytes. -/
def responseChars (r : Response) : Nat := r.payload.length + 8

/-- The bits of a character as the port sends it, in its order (R169): a low start bit, the data bits with the least
significant bit first, under EVEN the parity bit that makes the number of ones even, and a high stop bit. -/
def characterBits (l : LineSettings) (b : Byte) : List Bool :=
  let data := (List.range 8).map fun i => b.getLsbD i
  false :: data ++ (if l.even then [data.count true % 2 == 1] else []) ++ [true]

/-- The bits of a response as the port sends it, its characters back to back (R169, R177). -/
def responseBits (l : LineSettings) (r : Response) : List Bool := (responseFrame r).flatMap (characterBits l)

/-- The end of TURNAROUND (R170, R177), when the line has been idle for its two character times: the port enters RESPONDING
and sends its response, and its receiver is to wait for a high sample when that has ended. -/
def beginResponse (m : Master) (s : State) : State :=
  let p := port m s
  match p.phase, p.lineTimer, p.response with
  | .turnaround, some 0, some r =>
    setPort m
      { p with
        phase := .responding, receiver := .waitHigh, lineTimer := some (responseChars r * charTime p.line) } s
  | _, _, _ => s

/-- The transmit-enable of a port is asserted (R172, R177, R182): in RESPONDING, and in no other phase. It follows the phase
in the event that changes it, so that a panel reset cuts the character in progress. -/
def transmitEnable (m : Master) (s : State) : Bool := (port m s).phase == .responding

/-- The level that a port drives onto its line (R169, R172, R177): in RESPONDING the bit being sent, each of N ÷ 64 µs, and
in every other phase none, because the line is released. -/
def transmitLevel (m : Master) (s : State) : Option Bool :=
  let p := port m s
  match p.phase, p.response, p.lineTimer with
  | .responding, some r, some left =>
    let n := divisorN p.line.baud
    some ((responseBits p.line r).getD ((responseChars r * charTime p.line - left) / n) true)
  | _, _, _ => none

/-- The port at the end of its response (R177, R178): pending settings become the line settings, with the sample spacing
begun anew where they differ and the silence timer restarted; the receiver waits for a high sample. -/
def releasedPort (p : Port) : Port :=
  let line := p.pendingLine.getD p.line
  { p with
    line := line, pendingLine := none
    clock := if line = p.line then p.clock else { fraction := 0, left := divisorInteger line.baud }
    silenceTimer := match p.pendingLine with
      | some l => some (seconds l.silence)
      | none => p.silenceTimer
    phase := .listen, receiver := .waitHigh, response := none, lineTimer := none }

/-- The return to LISTEN (R172): the port takes the entries that wait. -/
def returnToListen (m : Master) (s : State) : State := listenNow m (setPort m (releasedPort (port m s)) s)

/-- The stop bit of a response's last character has been sent (R177): in RESPONDING with no time left to send. -/
def endResponse (m : Master) (s : State) : State :=
  match (port m s).phase, (port m s).lineTimer with
  | .responding, some 0 => returnToListen m s
  | _, _ => s

/-- A silence expiry (R110, R111): the timer becomes absent and the link SILENT, and the expiry is carried through the
owners as one event; nothing where the timer is absent or has time left, so that a frame whose check was taken first has left
no expiry (R113). Where the orders of R113, R75, R101 and R109 do not agree, log entry 27 says what the model takes (`serveAtClaims`). -/
def silenceEvent (m : Master) (s : State) : State :=
  let p := port m s
  match p.silenceTimer with
  | some 0 => silenceAtOwners m (setPort m { p with silenceTimer := none, active := false } s)
  | _ => s

/-! ### Requests as commands -/

/-- The port of a master brought to LISTEN, where alone a frame can pass its check (R172): responses before this one have
been sent (log entry 8). -/
def settleFor : Nat → Master → State → State
  | 0, _, s => s
  | fuel + 1, m, s => if (port m s).phase = .listen then s else settleFor fuel m (returnToListen m s)

/-- The port brought to LISTEN: each response leaves fewer entries waiting. -/
def settle (m : Master) (s : State) : State := settleFor ((port m s).fifo.length + 1) m s

/-- A request command: the frame that carries it has passed its check at its master's port, the owner takes it, and the
port holds the response (R172, R175, R176). -/
def answer (q : Req) (code : Byte) (owner : State → State × Reply) (s : State) : State :=
  respond q code (owner (acceptFrame q.master (settle q.master s)))

/-- A request that claims bear on, as a command: as `answer`, with its meeting of the silence expiry (R109, R113). -/
def answerAtClaims (q : Req) (code : Byte) (owner : State → State × Reply) (s : State) : State :=
  respond q code (serveAtClaims q.master owner (settle q.master s))

end Sys2Proof.Machine
end

