-- ==== Sys2Proof/Machine/ActuatorCommands.lean ====
section
/-! DEFINITION. The requests of ACT and of the output channels, the expiries of the actuators' timers, the period ends and the plant trip
(Chapters 1, 2 and 8). -/

namespace Sys2Proof.Machine

/-- CONFIGURE ACTUATOR (R4, R5). -/
def execConfigureActuator (q : Req) (record : RawActuator) (s : State) : Host.Outcome State Fault Refusal :=
  .next (answerAtClaims q 0x40 (configureActuatorOwner q.master record) s)

/-- SET SERVICE IN (R11). -/
def execSetServiceIn (q : Req) (actuator : Byte) (s : State) : Host.Outcome State Fault Refusal :=
  .next (answerAtClaims q 0x41 (setServiceInOwner q.master actuator) s)

/-- SET SERVICE OUT (R12). -/
def execSetServiceOut (q : Req) (actuator : Byte) (s : State) : Host.Outcome State Fault Refusal :=
  .next (answerAtClaims q 0x42 (setServiceOutOwner q.master actuator) s)

/-- CLEAR FAULT (R26). -/
def execClearFault (q : Req) (actuator : Byte) (s : State) : Host.Outcome State Fault Refusal :=
  .next (answerAtClaims q 0x43 (clearFaultOwner q.master actuator) s)

/-- READ ACTUATOR CONFIGURATION (R2, R190). -/
def execReadActuatorConfiguration (q : Req) (actuator : Byte) (s : State) : Host.Outcome State Fault Refusal :=
  .next (answer q 0x44 (readConfigurationOwner actuator) s)

/-- READ ACTUATOR STATUS (R2, R190). -/
def execReadActuatorStatus (q : Req) (actuator : Byte) (s : State) : Host.Outcome State Fault Refusal :=
  .next (answer q 0x45 (readStatusOwner actuator) s)

/-- READ OUTPUTS (R152). -/
def execReadOutputs (q : Req) (s : State) : Host.Outcome State Fault Refusal :=
  .next (answer q 0x50 (readOutputsOwner) s)

/-- SLEW_EXPIRY (R32, R35, R36). -/
def execSlewExpiry (n : ActId) (s : State) : Host.Outcome State Fault Refusal := .next (slewTick n s)

/-- PERIOD_END (R43, R44, R149). -/
def execPeriodEnd (n : ActId) (s : State) : Host.Outcome State Fault Refusal := .next (endPeriod n s)

/-- PROOF_TIMER_EXPIRY (R13, R15). -/
def execProofTimerExpiry (n : ActId) (s : State) : Host.Outcome State Fault Refusal := .next (proofExpiry n s)

/-- DEVIATION_TIMER_EXPIRY (R19). -/
def execDeviationTimerExpiry (n : ActId) (s : State) : Host.Outcome State Fault Refusal := .next (deviationExpiry n s)

/-- FEEDBACK_LOST_TIMER_EXPIRY (R20). -/
def execFeedbackLostTimerExpiry (n : ActId) (s : State) : Host.Outcome State Fault Refusal := .next (lostExpiry n s)

/-- TRIP_ASSERTION (R28). -/
def execTripAssertion (s : State) : Host.Outcome State Fault Refusal := .next (assertTrip s)

/-- TRIP_DEASSERTION (R29). -/
def execTripDeassertion (s : State) : Host.Outcome State Fault Refusal := .next (deassertTrip s)

/-- PTRIP_RAW_CHANGE (R27). -/
def execPtripRawChange (level : Bool) (s : State) : Host.Outcome State Fault Refusal := .next (changeTripRaw level s)

end Sys2Proof.Machine
end

