-- ==== Sys2Proof/Machine/ChainCommands.lean ====
section
/-! DEFINITION. The requests of the group executors and the expiries of their step timers (Chapter 4). -/

namespace Sys2Proof.Machine

/-- RUN CHAIN (R71 to R76). -/
def execRunChain (q : Req) (group : Byte) (slot : Byte) (s : State) : Host.Outcome State Fault Refusal :=
  .next (answerAtClaims q 0x30 (runChainOwner q.master group slot) s)

/-- CANCEL CHAIN (R97, R98). -/
def execCancelChain (q : Req) (group : Byte) (s : State) : Host.Outcome State Fault Refusal :=
  .next (answerAtClaims q 0x31 (cancelChainOwner q.master group) s)

/-- RESUME with action RETRY (R94, R95). -/
def execResumeRetry (q : Req) (group : Byte) (s : State) : Host.Outcome State Fault Refusal :=
  .next (answerAtClaims q 0x32 (resumeRetryOwner q.master group) s)

/-- RESUME with action SKIP (R94, R96). -/
def execResumeSkip (q : Req) (group : Byte) (s : State) : Host.Outcome State Fault Refusal :=
  .next (answerAtClaims q 0x32 (resumeSkipOwner q.master group) s)

/-- READ CHAIN (R70). -/
def execReadChain (q : Req) (group : Byte) (s : State) : Host.Outcome State Fault Refusal :=
  .next (answer q 0x33 (readChainOwner group) s)

/-- WRITE CURSOR (R60). -/
def execWriteCursor (q : Req) (group : Byte) (cursor : Byte) (value : Byte) (s : State) : Host.Outcome State Fault Refusal :=
  .next (answerAtClaims q 0x34 (writeCursorOwner q.master group cursor value) s)

/-- READ CURSORS (R61). -/
def execReadCursors (q : Req) (group : Byte) (s : State) : Host.Outcome State Fault Refusal :=
  .next (answer q 0x35 (readCursorsOwner group) s)

/-- The executor's step timer runs, and its step waits for one of the things named (R68). -/
def timedWait (x : Executor) (ws : List Waiting) : Bool :=
  x.state == .active && x.timer.isSome && (match x.waiting with
    | some w => decide (w ∈ ws)
    | none => false)

/-- The executor's step timer expires (R85 to R87): it runs with no time left, in a step that waits for one of the things
named. -/
def stepExpires (x : Executor) (ws : List Waiting) : Bool := timedWait x ws && x.timer == some 0

/-- A DWELL's timer expires and the step completes (R85). -/
def dwellExpiry (g : GroupId) (s : State) : State :=
  if stepExpires s.executors[g] [.timer] then completeAndProceed g s else s

/-- An AWAIT's timer expires and the step fails with TIMEOUT (R86, R87). -/
def awaitExpiry (g : GroupId) (s : State) : State :=
  if stepExpires s.executors[g] [.input, .measurement] then failAndProceed g .timeout s else s

/-- DWELL_EXPIRY (R85). -/
def execDwellExpiry (g : GroupId) (s : State) : Host.Outcome State Fault Refusal := .next (dwellExpiry g s)

/-- AWAIT_TIMEOUT (R86, R87). -/
def execAwaitTimeout (g : GroupId) (s : State) : Host.Outcome State Fault Refusal := .next (awaitExpiry g s)

end Sys2Proof.Machine
end

