-- ==== Sys2Proof/Machine/ClaimCommands.lean ====
section
/-! DEFINITION. The requests of CLM (Chapter 5). -/

namespace Sys2Proof.Machine

/-- CLAIM (R105, R113). -/
def execClaim (q : Req) (set : Byte) (s : State) : Host.Outcome State Fault Refusal :=
  .next (answerAtClaims q 0x10 (claimOwner q.master set) s)

/-- RELEASE (R107, R108, R113). -/
def execRelease (q : Req) (set : Byte) (s : State) : Host.Outcome State Fault Refusal :=
  .next (answerAtClaims q 0x11 (releaseOwner q.master set) s)

/-- READ CLAIMS (R104). -/
def execReadClaims (q : Req) (s : State) : Host.Outcome State Fault Refusal :=
  .next (answer q 0x12 (readClaimsOwner) s)

end Sys2Proof.Machine
end

