-- ==== Sys2Proof/Machine/FieldCommands.lean ====
section
/-! DEFINITION. The requests of the capture channels and input filters, and the events of their pins and timers (Chapter 8). -/

namespace Sys2Proof.Machine

/-- CONFIGURE CAPTURE (R161). -/
def execConfigureCapture (q : Req) (record : RawCapture) (s : State) : Host.Outcome State Fault Refusal :=
  .next (answer q 0x51 (configureCaptureOwner record) s)

/-- READ MEASUREMENT (R162). -/
def execReadMeasurement (q : Req) (channel : Byte) (s : State) : Host.Outcome State Fault Refusal :=
  .next (answer q 0x52 (readMeasurementOwner channel) s)

/-- SET DEBOUNCE (R166). -/
def execSetDebounce (q : Req) (input : Byte) (time : Byte) (s : State) : Host.Outcome State Fault Refusal :=
  .next (answer q 0x53 (setDebounceOwner input time) s)

/-- READ INPUTS (R167). -/
def execReadInputs (q : Req) (s : State) : Host.Outcome State Fault Refusal :=
  .next (answer q 0x54 (readInputsOwner) s)

/-- DISCRETE_INPUT_CHANGE (R165). -/
def execDiscreteInputChange (d : InputId) (level : Bool) (s : State) : Host.Outcome State Fault Refusal := .next (changeInput d level s)

/-- RAW_LEVEL_CHANGE (R165). -/
def execRawLevelChange (d : InputId) (level : Bool) (s : State) : Host.Outcome State Fault Refusal := .next (changeRaw d level s)

/-- FREQUENCY_MEASUREMENT (R154, R155, R158, R160): a rising edge. -/
def execFrequencyMeasurement (c : CaptureId) (stamp : Stamp) (s : State) : Host.Outcome State Fault Refusal :=
  .next (takeEdge c true stamp s)

/-- DUTY_MEASUREMENT (R154, R156, R158, R160): a rising edge. -/
def execDutyMeasurement (c : CaptureId) (stamp : Stamp) (s : State) : Host.Outcome State Fault Refusal :=
  .next (takeEdge c true stamp s)

/-- CAPTURE_EDGE (R154, R155, R156, R159): a rising or a falling edge. -/
def execCaptureEdge (c : CaptureId) (rising : Bool) (stamp : Stamp) (s : State) : Host.Outcome State Fault Refusal :=
  .next (takeEdge c rising stamp s)

/-- CAPTURE_TIMEOUT_EXPIRY (R159). -/
def execCaptureTimeoutExpiry (c : CaptureId) (s : State) : Host.Outcome State Fault Refusal := .next (captureExpiry c s)

/-- CAPTURE_SPAN_OVERFLOW (R157). -/
def execCaptureSpanOverflow (c : CaptureId) (s : State) : Host.Outcome State Fault Refusal := .next (spanOverflow c s)

end Sys2Proof.Machine
end

