-- ==== Sys2Proof/Machine/GovernorCommands.lean ====
section
/-! DEFINITION. The requests of GOV and the expiries of its timers (Chapter 6). -/

namespace Sys2Proof.Machine

/-- GOVERNOR SETTINGS (R130, R131). -/
def execGovernorSettings (q : Req) (record : RawGovernor) (s : State) : Host.Outcome State Fault Refusal :=
  .next (answerAtClaims q 0x60 (governorSettingsOwner q.master record) s)

/-- GOVERNOR MODE with argument ON (R128). -/
def execGovernorModeOn (q : Req) (s : State) : Host.Outcome State Fault Refusal :=
  .next (answerAtClaims q 0x61 (modeOnOwner q.master) s)

/-- GOVERNOR MODE with argument OFF (R129). -/
def execGovernorModeOff (q : Req) (s : State) : Host.Outcome State Fault Refusal :=
  .next (answerAtClaims q 0x61 (modeOffOwner q.master) s)

/-- READ GOVERNOR SETTINGS (R116). -/
def execReadGovernorSettings (q : Req) (s : State) : Host.Outcome State Fault Refusal :=
  .next (answer q 0x62 (readSettingsOwner) s)

/-- READ GOVERNOR STATUS (R116). -/
def execReadGovernorStatus (q : Req) (s : State) : Host.Outcome State Fault Refusal :=
  .next (answer q 0x63 (readGovernorOwner) s)

/-- GOVERNOR_EVALUATION (R117). -/
def execGovernorEvaluation (s : State) : Host.Outcome State Fault Refusal := .next (evaluateGovernor s)

/-- HOLD_TIMER_EXPIRY (R125). -/
def execHoldTimerExpiry (s : State) : Host.Outcome State Fault Refusal := .next (holdExpiry s)

end Sys2Proof.Machine
end

