-- ==== Sys2Proof/Machine/LinkCommands.lean ====
section
/-! DEFINITION. The requests of the link ports, the frames that are no request, and the events of the links (Chapter 9). -/

namespace Sys2Proof.Machine

/-- LINK SETTINGS (R178). -/
def execLinkSettings (q : Req) (record : RawLink) (s : State) : Host.Outcome State Fault Refusal :=
  .next (answer q 0x70 (linkSettingsOwner q.master record) s)

/-- READ LINK STATUS (R179). -/
def execReadLinkStatus (q : Req) (link : Byte) (s : State) : Host.Outcome State Fault Refusal :=
  .next (answer q 0x71 (readLinkOwner link) s)

/-- READ ATTENTION (R181). -/
def execReadAttention (q : Req) (s : State) : Host.Outcome State Fault Refusal :=
  .next (answer q 0x72 (readAttentionOwner q.master) s)

/-- CLEAR ATTENTION (R181). -/
def execClearAttention (q : Req) (flags : Half) (s : State) : Host.Outcome State Fault Refusal :=
  .next (answer q 0x73 (clearAttentionOwner q.master flags) s)

/-- SET MASK (R181). -/
def execSetMask (q : Req) (flags : Half) (s : State) : Host.Outcome State Fault Refusal :=
  .next (answer q 0x74 (setMaskOwner q.master flags) s)

/-- UNKNOWN_REQUEST (R176): the frame's code is no request code. -/
def execUnknownRequest (q : Req) (code : Byte) (s : State) : Host.Outcome State Fault Refusal :=
  .next (answer q code (refuse .unknownRequest) s)

/-- BAD_LENGTH (R176): the frame's payload length is not one that its code allows. -/
def execBadLength (q : Req) (code : Byte) (_length : Nat) (s : State) : Host.Outcome State Fault Refusal :=
  .next (answer q code (refuse .badLength) s)

/-- LINK_CHARACTER_RECEIVED (R170 to R173). -/
def execLinkCharacterReceived (m : Master) (byte : Byte) (marks : Marks) (s : State) : Host.Outcome State Fault Refusal := .next (receiveCharacter m byte marks s)

/-- INTER_BYTE_TIMEOUT (R174). -/
def execInterByteTimeout (m : Master) (s : State) : Host.Outcome State Fault Refusal := .next (interByteExpiry m s)

/-- TURNAROUND_END (R177). -/
def execTurnaroundEnd (m : Master) (s : State) : Host.Outcome State Fault Refusal := .next (beginResponse m s)

/-- RESPONSE_SENT (R177, R178). -/
def execResponseSent (m : Master) (s : State) : Host.Outcome State Fault Refusal := .next (endResponse m s)

/-- SILENCE_EXPIRY (R110 to R112). -/
def execSilenceExpiry (m : Master) (s : State) : Host.Outcome State Fault Refusal := .next (silenceEvent m s)

end Sys2Proof.Machine
end

