-- ==== Sys2Proof/Machine/Due.lean ====
section
/-! DEFINITION. The events that have come due: the expiries of the timers, the period ends, the changes that the filters have
come to, the edges that the capture channels see and what the receivers have decided; and the one of them that is taken
next. -/

namespace Sys2Proof.Machine

/-- The event where the condition holds. -/
def dueIf (b : Bool) (i : Instr) : List Instr := if b then [i] else []

/-- The due events of an actuator and its output channel. -/
def dueActuator (n : ActId) (s : State) : List Instr :=
  dueIf (s.actuators[n].slewTimer == 0) (.slewExpiry n) ++
  dueIf (s.actuators[n].proofTimer == some 0) (.proofTimerExpiry n) ++
  dueIf (s.actuators[n].deviationTimer == some 0) (.deviationTimerExpiry n) ++
  dueIf (s.actuators[n].lostTimer == some 0) (.feedbackLostTimerExpiry n) ++
  dueIf (decide (s.outputs[n].activePeriod ≤ s.outputs[n].position)) (.periodEnd n)

/-- The event that the edge of a channel's input is (R155, R156): the one that completes a measurement, or another. -/
def edgeEvent (c : CaptureId) (stamp : Stamp) (x : Capture) : Instr :=
  match x.mode, x.phase with
  | .frequency, .counting seen _ =>
    if x.input.level && decide (x.prescale ≤ seen + 1) then .frequencyMeasurement c stamp
    else .captureEdge c x.input.level stamp
  | .duty, .low _ _ => if x.input.level then .dutyMeasurement c stamp else .captureEdge c x.input.level stamp
  | _, _ => .captureEdge c x.input.level stamp

/-- The due events of a capture channel: its timers' expiries, and the edge that its sample at this count makes (R154). -/
def dueCapture (c : CaptureId) (s : State) : List Instr :=
  dueIf (s.captures[c].timer == some 0) (.captureTimeoutExpiry c) ++
  dueIf (s.captures[c].phase != .waitEdge && decide (spanLimit ≤ s.captures[c].age)) (.captureSpanOverflow c) ++
  dueIf (seesEdge s.captures[c].input.level s.counter s.captures[c]) (edgeEvent c s.counter s.captures[c])

/-- The due change of a discrete input (R165). -/
def dueInput (d : InputId) (s : State) : List Instr :=
  dueIf (s.inputs[d].raw != s.inputs[d].filtered && decide (debounceTime s.inputs[d] ≤ s.inputs[d].age))
    (.discreteInputChange d s.inputs[d].raw)

/-- The raw PTRIP level differs from the filtered level (R27): low while not asserted, or high while asserted. -/
def tripDiffers (x : TripFilter) : Bool := x.raw == x.asserted

/-- The due event of the PTRIP filter (R27). -/
def dueTrip (s : State) : List Instr :=
  dueIf (tripDiffers s.ptrip && decide (tripDebounce ≤ s.ptrip.age))
    (if s.ptrip.asserted then .tripDeassertion else .tripAssertion)

/-- The due events of an executor (R85 to R87). -/
def dueExecutor (g : GroupId) (s : State) : List Instr :=
  dueIf (stepExpires s.executors[g] [.timer]) (.dwellExpiry g) ++
  dueIf (stepExpires s.executors[g] [.input, .measurement]) (.awaitTimeout g)

/-- The due event of a station entry (R143). -/
def dueStation (k : StationId) (s : State) : List Instr :=
  dueIf (s.stations[k].staleTimer == some 0) (.staleTimerExpiry k)

/-- The command of an event that the station sampler hands on (R135, R136). -/
def stationCommand : StationEvent → Instr
  | .character byte noisy => .stationCharacter byte noisy
  | .framingError => .stationFramingError
  | .brk => .stationBreak

/-- The event that the station sampler has decided (R135, R136). -/
def dueStationLine (s : State) : List Instr := (s.receiver.decided.map stationCommand).toList

/-- The due events of the governor (R117, R125). -/
def dueGovernor (s : State) : List Instr :=
  dueIf (s.governor.evalTimer == 0) .governorEvaluation ++
  dueIf (s.governor.holdTimer == some 0) .holdTimerExpiry

/-- The due events of a port (R110, R170, R174, R177). -/
def duePort (m : Master) (s : State) : List Instr :=
  ((port m s).decided.map fun x => Instr.linkCharacterReceived m x.1 x.2).toList ++
  dueIf ((port m s).interByte == some 0) (.interByteTimeout m) ++
  dueIf ((port m s).phase == .turnaround && (port m s).lineTimer == some 0) (.turnaroundEnd m) ++
  dueIf ((port m s).phase == .responding && (port m s).lineTimer == some 0) (.responseSent m) ++
  dueIf ((port m s).silenceTimer == some 0) (.silenceExpiry m)

/-- Every event that has come due. -/
def dueEvents (s : State) : List Instr :=
  allActuators.flatMap (fun n => dueActuator n s) ++ (List.finRange 16).flatMap (fun c => dueCapture c s) ++
  allInputs.flatMap (fun d => dueInput d s) ++ dueTrip s ++ allGroups.flatMap (fun g => dueExecutor g s) ++
  dueStationLine s ++ allStations.flatMap (fun k => dueStation k s) ++ dueGovernor s ++ duePort .m1 s ++ duePort .m2 s

/-- The event taken next of those that have come due, with the choice counted where there was one: events that come
together are taken in an order the manual leaves open (log entry 3). -/
def nextDue (s : State) : Option (Instr × State) :=
  match dueEvents s with
  | [] => none
  | [i] => some (i, s)
  | i :: j :: r =>
    some ((i :: j :: r).getD (Config.freePick s.freeCount % (r.length + 2)) i, { s with freeCount := s.freeCount + 1 })

end Sys2Proof.Machine
end

