-- ==== Sys2Proof/Machine/StationCommands.lean ====
section
/-! DEFINITION. The requests of STB and SRX, the events of the station line and the stale timers (Chapter 7). -/

namespace Sys2Proof.Machine

/-- CONFIGURE STATION (R145). -/
def execConfigureStation (q : Req) (record : RawStation) (s : State) : Host.Outcome State Fault Refusal :=
  .next (answerAtClaims q 0x64 (configureStationOwner q.master record) s)

/-- READ STATION (R146). -/
def execReadStation (q : Req) (entry : Byte) (s : State) : Host.Outcome State Fault Refusal :=
  .next (answer q 0x65 (readStationOwner entry) s)

/-- STATION LINE SETTINGS (R147). -/
def execStationLineSettings (q : Req) (baud : Half) (s : State) : Host.Outcome State Fault Refusal :=
  .next (answerAtClaims q 0x66 (stationLineOwner q.master baud) s)

/-- READ STATION LINE STATUS (R139). -/
def execReadStationLineStatus (q : Req) (s : State) : Host.Outcome State Fault Refusal :=
  .next (answer q 0x67 (readLineStatusOwner) s)

/-- STATION_CHARACTER (R135, R137, R138, R141). -/
def execStationCharacter (byte : Byte) (noisy : Bool) (s : State) : Host.Outcome State Fault Refusal :=
  .next (stationCharacterEvent byte noisy s)

/-- STATION_FRAMING_ERROR (R136, R137): the high sample that ends LOW_WATCH. -/
def execStationFramingError (s : State) : Host.Outcome State Fault Refusal := .next (stationFramingEvent s)

/-- STATION_BREAK (R136, R137): the low-sample count is 176, and the sampler waits for the line to go high. -/
def execStationBreak (s : State) : Host.Outcome State Fault Refusal := .next (stationLowEvent s)

/-- STALE_TIMER_EXPIRY (R143). -/
def execStaleTimerExpiry (k : StationId) (s : State) : Host.Outcome State Fault Refusal := .next (staleExpiry k s)

/-- STATION_FIRST_HIGH_SAMPLE (R135): from MARK_WAIT to IDLE. -/
def execStationFirstHighSample (s : State) : Host.Outcome State Fault Refusal :=
  .next (if s.receiver.sampler = .markWait then putSampler .idle 0 s else s)

/-- STATION_STOP_BIT_LOW (R136): the character waits in LOW_WATCH with `count` low samples counted. -/
def execStationStopBitLow (count : Nat) (s : State) : Host.Outcome State Fault Refusal := .next (stationStopLow count s)

end Sys2Proof.Machine
end

