-- ==== Sys2Proof/Machine/Events.lean ====
section
/-! DEFINITION. The events that have come due, taken before an event that has to come after them (R1). -/

namespace Sys2Proof.Machine

/-- What an event does that can come due: its own meaning. No other command comes due. -/
def eventOutcome (i : Instr) (s : State) : Host.Outcome State Fault Refusal :=
  match i with
  | .linkCharacterReceived m byte marks => execLinkCharacterReceived m byte marks s
  | .interByteTimeout m => execInterByteTimeout m s
  | .turnaroundEnd m => execTurnaroundEnd m s
  | .responseSent m => execResponseSent m s
  | .silenceExpiry m => execSilenceExpiry m s
  | .stationCharacter byte noisy => execStationCharacter byte noisy s
  | .stationFramingError => execStationFramingError s
  | .stationBreak => execStationBreak s
  | .staleTimerExpiry entry => execStaleTimerExpiry entry s
  | .governorEvaluation => execGovernorEvaluation s
  | .holdTimerExpiry => execHoldTimerExpiry s
  | .slewExpiry n => execSlewExpiry n s
  | .periodEnd n => execPeriodEnd n s
  | .proofTimerExpiry n => execProofTimerExpiry n s
  | .deviationTimerExpiry n => execDeviationTimerExpiry n s
  | .feedbackLostTimerExpiry n => execFeedbackLostTimerExpiry n s
  | .discreteInputChange d level => execDiscreteInputChange d level s
  | .tripAssertion => execTripAssertion s
  | .tripDeassertion => execTripDeassertion s
  | .frequencyMeasurement c stamp => execFrequencyMeasurement c stamp s
  | .dutyMeasurement c stamp => execDutyMeasurement c stamp s
  | .captureTimeoutExpiry c => execCaptureTimeoutExpiry c s
  | .captureSpanOverflow c => execCaptureSpanOverflow c s
  | .dwellExpiry g => execDwellExpiry g s
  | .awaitTimeout g => execAwaitTimeout g s
  | .captureEdge c rising stamp => execCaptureEdge c rising stamp s
  | .powerOnReset | .panelReset | .claim _ _ | .release _ _ | .readClaims _ | .writeDescriptor _ _ _
  | .freeDescriptor _ _ | .readDescriptor _ _ | .writeProfile _ _ _ | .readProfile _ _ _ | .runChain _ _ _
  | .cancelChain _ _ | .resumeRetry _ _ | .resumeSkip _ _ | .readChain _ _ | .writeCursor _ _ _ _ | .readCursors _ _
  | .configureActuator _ _ | .setServiceIn _ _ | .setServiceOut _ _ | .clearFault _ _
  | .readActuatorConfiguration _ _ | .readActuatorStatus _ _ | .readOutputs _ | .configureCapture _ _
  | .readMeasurement _ _ | .setDebounce _ _ _ | .readInputs _ | .governorSettings _ _ | .governorModeOn _
  | .governorModeOff _ | .readGovernorSettings _ | .readGovernorStatus _ | .configureStation _ _ | .readStation _ _
  | .stationLineSettings _ _ | .readStationLineStatus _ | .linkSettings _ _ | .readLinkStatus _ _ | .readAttention _
  | .clearAttention _ _ | .setMask _ _ | .unknownRequest _ _ | .badLength _ _ _ | .rawLevelChange _ _
  | .ptripRawChange _ | .stationFirstHighSample | .stationStopBitLow _ => .next s

/-- The state after an outcome, where it is a next state. -/
def outcomeState (o : Host.Outcome State Fault Refusal) (s : State) : State :=
  match o with
  | .next t => t
  | .fault _ => s
  | .refused _ => s

/-- Up to so many of the events that have come due, one after another in an open order (log entry 30). -/
def takeDueUpTo : Nat → State → State
  | 0, s => s
  | k + 1, s =>
    match nextDue s with
    | none => s
    | some (i, t) => takeDueUpTo k (outcomeState (eventOutcome i t) t)

/-- The events that have come due, taken (R1, log entry 30): as many as are due now. -/
def takeDueEvents (s : State) : State := takeDueUpTo (dueEvents s).length s

end Sys2Proof.Machine
end

