-- ==== Sys2Proof/Machine/Resets.lean ====
section
/-! DEFINITION. The two resets (section 5.6): power-on, which puts every block into its power-on values, and the panel
reset (R1), which each block takes as its own chapter gives (R30, R46, R102, R104, R133, R134, R140, R150, R164, R168,
R182). -/

namespace Sys2Proof.Machine

/-- A capture channel after power-on at this input (R153, R154). -/
def Capture.atPowerOn (input : LineInput) : Capture := { Capture.powerOn with input := input, sample := input.level }

/-- Power-on reset: every block at its power-on values. The levels of the input pins and lines are the outside's and stay; the
filtered level of each discrete input is its raw level (R168), and PTRIP starts at not asserted (R27). -/
def powerOn (s : State) : State :=
  { State.reset with
    inputs := each (fun _ x => InputFilter.powerOn x.raw) s.inputs
    ptrip := TripFilter.atReset s.ptrip.raw
    captures := each (fun _ x => Capture.atPowerOn x.input) s.captures
    receiver := { StationReceiver.powerOn with input := s.receiver.input }
    port1 := { Port.powerOn with input := s.port1.input }
    port2 := { Port.powerOn with input := s.port2.input }
    freeCount := s.freeCount, pending := s.pending }

/-- A capture channel across a panel reset (R164): the level of its input is the first that it takes (R154). -/
def resetCapture (x : Capture) : Capture :=
  { x with
    phase := .waitEdge, status := .noSignal, age := 0, sample := x.input.level, edge := none
    value := match x.mode with
      | .off => 0
      | .frequency => offsetValue x
      | .duty => x.value
    timer := freshTimeout x }

/-- The service state of an entry across a panel reset (R30). -/
def resetService : Service → Service
  | .moving => .holding
  | .stopping .rampDown => .running
  | x => x

/-- The proof timer of an entry across a panel reset (R30): full in STARTING and DROP_WAIT, absent elsewhere. -/
def resetProofTimer (a : Actuator) : Option Nat :=
  match a.state with
  | .starting => some (seconds (a.cfg.proofTimeout.getD 0))
  | .stopping .dropWait => some (seconds (a.cfg.proofTimeout.getD 0))
  | _ => none

/-- The feedback that an entry takes from the channels as the reset leaves them (R18, R164). -/
def resetFeedback (captures : Table Capture 16) (a : Actuator) : Option Feedback :=
  match a.cfg.feedback with
  | some f => some (feedbackFrom captures[f.channel])
  | none => a.feedback

/-- A FAULTED valve with safe action GO sets out anew toward its safe value (R30). Where it stands there already, the report
of that landing has no taker: every executor is IDLE after the reset (R102, log entry 15). -/
def resumeSafe (a : Actuator) : Actuator :=
  if a.state = .faulted ∧ a.cfg.kind = .valve ∧ a.cfg.safeAction = some .go then
    (requestRamp .safe (a.cfg.safeValue.getD 0) (rateStep a a.cfg.maxRate) true a).1
  else a

/-- An actuator entry across a panel reset (R30, R32), with the channels as the reset leaves them. Its supervision starts
again from the feedback status NO_SIGNAL. -/
def resetActuator (captures : Table Capture 16) (a : Actuator) : Actuator :=
  supervise (resumeSafe
    { a with
      state := resetService a.state, ramp := none, accumulator := 0, follow := none
      proofTimer := resetProofTimer a, deviationTimer := none, lostTimer := none
      feedback := resetFeedback captures a, slewTimer := slewInterval })

/-- An output channel across a panel reset (R45, R150, R151) with the kept command. -/
def resetOutput (command : Nat) (o : OutputChannel) : OutputChannel :=
  { o with
    activePeriod := nextPeriod o, pendingPeriod := none
    activeDuty := dutyOf command (nextPeriod o), pendingDuty := dutyOf command (nextPeriod o)
    position := 0, held := false }

/-- An executor across a panel reset (R102): a chain that runs or is halted ends with outcome RESET; the cursors stay. -/
def resetExecutor (x : Executor) : Executor := if x.state = .idle then x else endedExecutor .reset x

/-- The governor across a panel reset (R133, R117). -/
def resetGovernor (g : Governor) : Governor :=
  { g with
    mode := if g.mode = .off then .off else .hold
    holdTimer := if g.mode = .off then none else some (g.holdTime * 1000000)
    eligible := none, lastError := none, evalTimer := evalInterval }

/-- The station receiver across a panel reset (R134, R139). -/
def resetReceiver (r : StationReceiver) : StationReceiver :=
  { r with
    clock := { fraction := 0, left := divisorInteger r.baud }, sampler := .markWait, lowCount := 0, decided := none,
    assembler := .hunt, lastRejection := .none }

/-- A port across a panel reset (R182, R110, R169): its line settings and mask are kept. -/
def resetPort (p : Port) : Port :=
  { p with
    pendingLine := none, clock := { fraction := 0, left := divisorInteger p.line.baud }, receiver := .waitHigh,
    decided := none, phase := .listen, fifo := [], overrunPending := false, assembler := .hunt, interByte := none,
    lastError := .none, active := true, silenceTimer := some (seconds p.line.silence), flags := 0, response := none, lineTimer := none }

/-- An input filter across a panel reset (R168): the filtered level is the raw level. -/
def resetInput (x : InputFilter) : InputFilter := { x with filtered := x.raw, age := 0 }

/-- Every block's part of the panel reset, before the differences of the input filters are handed on. -/
def resetBlocks (s : State) : State :=
  let captures := each (fun _ x => resetCapture x) s.captures
  { s with
    groupHolders := Vector.replicate 5 none
    govHolder := none
    slots := (unbindSlots (fun _ => true) s).slots
    executors := each (fun _ x => resetExecutor x) s.executors
    captures := captures
    actuators := each (fun _ a => resetActuator captures a) s.actuators
    outputs := each (fun n o => resetOutput s.actuators[n].command o) s.outputs
    inputs := each (fun _ x => resetInput x) s.inputs
    ptrip := TripFilter.atReset s.ptrip.raw
    receiver := resetReceiver s.receiver
    stations := each (fun _ x => neverState x) s.stations
    governor := resetGovernor s.governor
    port1 := resetPort s.port1
    port2 := resetPort s.port2 }

/-- The inputs whose filtered level the panel reset changes (R168). -/
def changedAtReset (s : State) : List InputId := allInputs.filter fun d => s.inputs[d].raw != s.inputs[d].filtered

/-- The panel reset (R1): every block takes its part, and then ACT and the executors take each difference of the input
filters as a change (R168), in an order the manual leaves open. -/
def panelReset (s : State) : State :=
  takeInOpenOrder (fun d t => handInputChange d t.inputs[d].filtered t) (changedAtReset s) (resetBlocks s)

end Sys2Proof.Machine
end

