-- ==== Sys2Proof/Machine/ResetCommands.lean ====
section
/-! DEFINITION. The two reset commands (section 5.6, R1). -/

namespace Sys2Proof.Machine

/-- POWER_ON_RESET (R3, R6, R46, R55, R59, R68, R104, R115, R134, R140, R149, R153, R168, R169, R182). -/
def execPowerOnReset (s : State) : Host.Outcome State Fault Refusal := .next (powerOn s)

/-- PANEL_RESET (R1, R30, R102, R133, R164, R168, R182): the events that have come due come before the reset event. -/
def execPanelReset (s : State) : Host.Outcome State Fault Refusal := .next (panelReset (takeDueEvents s))

end Sys2Proof.Machine
end

