-- ==== Sys2Proof/Machine/StoreCommands.lean ====
section
/-! DEFINITION. The requests of DST and PRT (Chapter 3). -/

namespace Sys2Proof.Machine

/-- WRITE DESCRIPTOR (R49). -/
def execWriteDescriptor (q : Req) (slot : Byte) (record : RawDescriptor) (s : State) : Host.Outcome State Fault Refusal :=
  .next (answer q 0x20 (writeDescriptorOwner q.master slot record) s)

/-- FREE DESCRIPTOR (R50). -/
def execFreeDescriptor (q : Req) (slot : Byte) (s : State) : Host.Outcome State Fault Refusal :=
  .next (answer q 0x21 (freeDescriptorOwner q.master slot) s)

/-- READ DESCRIPTOR (R51). -/
def execReadDescriptor (q : Req) (slot : Byte) (s : State) : Host.Outcome State Fault Refusal :=
  .next (answer q 0x22 (readDescriptorOwner slot) s)

/-- WRITE PROFILE (R56). -/
def execWriteProfile (q : Req) (first : Byte) (values : List Half) (s : State) : Host.Outcome State Fault Refusal :=
  .next (answer q 0x24 (writeProfileOwner first values) s)

/-- READ PROFILE (R57). -/
def execReadProfile (q : Req) (first : Byte) (count : Byte) (s : State) : Host.Outcome State Fault Refusal :=
  .next (answer q 0x25 (readProfileOwner first count) s)

end Sys2Proof.Machine
end

