-- ==== Sys2Proof/Machine/Dispatch.lean ====
section
/-! DEFINITION. The meaning of every command: one arm for each constructor of Instr, one call of the command's own
definition. -/

namespace Sys2Proof.Machine

/-- The command's effect on the block. -/
def exec (i : Instr) (s : State) : Host.Outcome State Fault Refusal :=
  match i with
  | .powerOnReset => Sys2Proof.Machine.execPowerOnReset s
  | .panelReset => Sys2Proof.Machine.execPanelReset s
  | .claim q set => Sys2Proof.Machine.execClaim q set s
  | .release q set => Sys2Proof.Machine.execRelease q set s
  | .readClaims q => Sys2Proof.Machine.execReadClaims q s
  | .writeDescriptor q slot record => Sys2Proof.Machine.execWriteDescriptor q slot record s
  | .freeDescriptor q slot => Sys2Proof.Machine.execFreeDescriptor q slot s
  | .readDescriptor q slot => Sys2Proof.Machine.execReadDescriptor q slot s
  | .writeProfile q first values => Sys2Proof.Machine.execWriteProfile q first values s
  | .readProfile q first count => Sys2Proof.Machine.execReadProfile q first count s
  | .runChain q group slot => Sys2Proof.Machine.execRunChain q group slot s
  | .cancelChain q group => Sys2Proof.Machine.execCancelChain q group s
  | .resumeRetry q group => Sys2Proof.Machine.execResumeRetry q group s
  | .resumeSkip q group => Sys2Proof.Machine.execResumeSkip q group s
  | .readChain q group => Sys2Proof.Machine.execReadChain q group s
  | .writeCursor q group cursor value => Sys2Proof.Machine.execWriteCursor q group cursor value s
  | .readCursors q group => Sys2Proof.Machine.execReadCursors q group s
  | .configureActuator q record => Sys2Proof.Machine.execConfigureActuator q record s
  | .setServiceIn q actuator => Sys2Proof.Machine.execSetServiceIn q actuator s
  | .setServiceOut q actuator => Sys2Proof.Machine.execSetServiceOut q actuator s
  | .clearFault q actuator => Sys2Proof.Machine.execClearFault q actuator s
  | .readActuatorConfiguration q actuator => Sys2Proof.Machine.execReadActuatorConfiguration q actuator s
  | .readActuatorStatus q actuator => Sys2Proof.Machine.execReadActuatorStatus q actuator s
  | .readOutputs q => Sys2Proof.Machine.execReadOutputs q s
  | .configureCapture q record => Sys2Proof.Machine.execConfigureCapture q record s
  | .readMeasurement q channel => Sys2Proof.Machine.execReadMeasurement q channel s
  | .setDebounce q input time => Sys2Proof.Machine.execSetDebounce q input time s
  | .readInputs q => Sys2Proof.Machine.execReadInputs q s
  | .governorSettings q record => Sys2Proof.Machine.execGovernorSettings q record s
  | .governorModeOn q => Sys2Proof.Machine.execGovernorModeOn q s
  | .governorModeOff q => Sys2Proof.Machine.execGovernorModeOff q s
  | .readGovernorSettings q => Sys2Proof.Machine.execReadGovernorSettings q s
  | .readGovernorStatus q => Sys2Proof.Machine.execReadGovernorStatus q s
  | .configureStation q record => Sys2Proof.Machine.execConfigureStation q record s
  | .readStation q entry => Sys2Proof.Machine.execReadStation q entry s
  | .stationLineSettings q baud => Sys2Proof.Machine.execStationLineSettings q baud s
  | .readStationLineStatus q => Sys2Proof.Machine.execReadStationLineStatus q s
  | .linkSettings q record => Sys2Proof.Machine.execLinkSettings q record s
  | .readLinkStatus q link => Sys2Proof.Machine.execReadLinkStatus q link s
  | .readAttention q => Sys2Proof.Machine.execReadAttention q s
  | .clearAttention q flags => Sys2Proof.Machine.execClearAttention q flags s
  | .setMask q flags => Sys2Proof.Machine.execSetMask q flags s
  | .unknownRequest q code => Sys2Proof.Machine.execUnknownRequest q code s
  | .badLength q code length => Sys2Proof.Machine.execBadLength q code length s
  | .linkCharacterReceived m byte marks => Sys2Proof.Machine.execLinkCharacterReceived m byte marks s
  | .interByteTimeout m => Sys2Proof.Machine.execInterByteTimeout m s
  | .turnaroundEnd m => Sys2Proof.Machine.execTurnaroundEnd m s
  | .responseSent m => Sys2Proof.Machine.execResponseSent m s
  | .silenceExpiry m => Sys2Proof.Machine.execSilenceExpiry m s
  | .stationCharacter byte noisy => Sys2Proof.Machine.execStationCharacter byte noisy s
  | .stationFramingError => Sys2Proof.Machine.execStationFramingError s
  | .stationBreak => Sys2Proof.Machine.execStationBreak s
  | .staleTimerExpiry entry => Sys2Proof.Machine.execStaleTimerExpiry entry s
  | .governorEvaluation => Sys2Proof.Machine.execGovernorEvaluation s
  | .holdTimerExpiry => Sys2Proof.Machine.execHoldTimerExpiry s
  | .slewExpiry n => Sys2Proof.Machine.execSlewExpiry n s
  | .periodEnd n => Sys2Proof.Machine.execPeriodEnd n s
  | .proofTimerExpiry n => Sys2Proof.Machine.execProofTimerExpiry n s
  | .deviationTimerExpiry n => Sys2Proof.Machine.execDeviationTimerExpiry n s
  | .feedbackLostTimerExpiry n => Sys2Proof.Machine.execFeedbackLostTimerExpiry n s
  | .discreteInputChange d level => Sys2Proof.Machine.execDiscreteInputChange d level s
  | .tripAssertion => Sys2Proof.Machine.execTripAssertion s
  | .tripDeassertion => Sys2Proof.Machine.execTripDeassertion s
  | .frequencyMeasurement c stamp => Sys2Proof.Machine.execFrequencyMeasurement c stamp s
  | .dutyMeasurement c stamp => Sys2Proof.Machine.execDutyMeasurement c stamp s
  | .captureTimeoutExpiry c => Sys2Proof.Machine.execCaptureTimeoutExpiry c s
  | .captureSpanOverflow c => Sys2Proof.Machine.execCaptureSpanOverflow c s
  | .dwellExpiry g => Sys2Proof.Machine.execDwellExpiry g s
  | .awaitTimeout g => Sys2Proof.Machine.execAwaitTimeout g s
  | .captureEdge c rising stamp => Sys2Proof.Machine.execCaptureEdge c rising stamp s
  | .rawLevelChange d level => Sys2Proof.Machine.execRawLevelChange d level s
  | .ptripRawChange level => Sys2Proof.Machine.execPtripRawChange level s
  | .stationFirstHighSample => Sys2Proof.Machine.execStationFirstHighSample s
  | .stationStopBitLow count => Sys2Proof.Machine.execStationStopBitLow count s

end Sys2Proof.Machine
end

