-- ==== Sys2Proof/Machine/Clock.lean ====
section
/-! DEFINITION. Time (log entry 1). The opcode table has no row for a tick: with no command waiting, a step takes one event
that has come due, and where none has, one microsecond passes: every running timer has one microsecond less left (section
5.2, R32, R117, R149, R153, R165, R27), the capture channels take a sample of their inputs (R154), and the receivers sample
their lines as their sample clocks give (R134, R169). -/

namespace Sys2Proof.Machine

/-- A running timer with one microsecond less left. -/
def countDown (t : Option Nat) : Option Nat := t.map (· - 1)

/-- An actuator entry one microsecond later. -/
def ageActuator (a : Actuator) : Actuator :=
  { a with
    proofTimer := countDown a.proofTimer, deviationTimer := countDown a.deviationTimer,
    lostTimer := countDown a.lostTimer, slewTimer := a.slewTimer - 1 }

/-- An output channel one count later (R149). -/
def ageOutput (o : OutputChannel) : OutputChannel := { o with position := o.position + 1 }

/-- A capture channel one count later (R154, R157, R159): its pin has the level of the next sample, and the age of a
measurement is counted while one is in progress. -/
def ageCapture (x : Capture) : Capture :=
  { x with
    timer := countDown x.timer, age := if x.phase = .waitEdge then x.age else x.age + 1, input := x.input.next,
    edge := none }

/-- An input filter one microsecond later (R165): the age is that of a difference without interruption. -/
def ageInput (x : InputFilter) : InputFilter := { x with age := if x.raw = x.filtered then 0 else x.age + 1 }

/-- The PTRIP filter one microsecond later (R27). -/
def ageTrip (x : TripFilter) : TripFilter := { x with age := if tripDiffers x then x.age + 1 else 0 }

/-- A sample is due in this sixteenth of a microsecond (R134). -/
def sampleDue (c : SampleClock) : Bool := decide (c.left ≤ 1)

/-- A sample clock one sixteenth of a microsecond later (R134): at a sample the fraction is added, and the next interval is
longer by one sixteenth where the sum reaches 64. -/
def sixteenth (baud : Nat) (c : SampleClock) : SampleClock :=
  if sampleDue c then
    let sum := c.fraction + divisorFraction baud
    { fraction := sum % 64, left := divisorInteger baud + sum / 64 }
  else { c with left := c.left - 1 }

/-- The station receiver a number of sixteenths later, with the samples that fall in them (R134). -/
def runReceiver : Nat → StationReceiver → StationReceiver
  | 0, r => r
  | k + 1, r =>
    let x := { r with clock := sixteenth r.baud r.clock }
    runReceiver k (if sampleDue r.clock then sampleStation x else x)

/-- A link port a number of sixteenths later, with the samples that fall in them (R169, R170). -/
def runPort : Nat → Port → Port
  | 0, p => p
  | k + 1, p =>
    let x := { p with clock := sixteenth p.line.baud p.clock }
    runPort k (if sampleDue p.clock then samplePort x else x)

/-- A station entry one microsecond later. -/
def ageStation (x : Station) : Station := { x with staleTimer := countDown x.staleTimer }

/-- The governor one microsecond later. -/
def ageGovernor (g : Governor) : Governor :=
  { g with holdTimer := countDown g.holdTimer, evalTimer := g.evalTimer - 1 }

/-- An executor one microsecond later. -/
def ageExecutor (x : Executor) : Executor := { x with timer := countDown x.timer }

/-- A port one microsecond later: its timers, of which the line timer counts 1/64 µs, and then the samples of its line. So a
start edge that is sampled in the microsecond in which the idle count of TURNAROUND runs out is taken first: it stops the count,
and TURNAROUND does not end. R177 does not say which comes first: the model's choice (log entry 31). -/
def agePort (p : Port) : Port :=
  runPort 16
    { p with
      interByte := countDown p.interByte, silenceTimer := countDown p.silenceTimer,
      lineTimer := p.lineTimer.map (· - 64) }

/-- One microsecond passes. -/
def advanceTime (s : State) : State :=
  { s with
    actuators := each (fun _ a => ageActuator a) s.actuators
    outputs := each (fun _ o => ageOutput o) s.outputs
    captures := each (fun _ x => ageCapture x) s.captures
    counter := s.counter + 1
    inputs := each (fun _ x => ageInput x) s.inputs
    ptrip := ageTrip s.ptrip
    receiver := runReceiver 16 s.receiver
    stations := each (fun _ x => ageStation x) s.stations
    governor := ageGovernor s.governor
    executors := each (fun _ x => ageExecutor x) s.executors
    port1 := agePort s.port1
    port2 := agePort s.port2 }

/-- What a step does with no command waiting (log entry 1): one due event, or the passing of one microsecond. -/
def passTime (s : State) : Host.Outcome State Fault Refusal :=
  match nextDue s with
  | some (i, t) => exec i t
  | none => .next (advanceTime s)

end Sys2Proof.Machine
end

