-- ==== Sys2Proof/Safety.lean ====
section
/-! DEFINITION. What the statements call safe: the properties of a state that the manual gives as holding at all times
(R7, R8, R29, R31, R39, R46, R53, R93, R115, R124, R140, R171 to R174), each as a predicate that every step is to keep, and
the words the statements share. -/

namespace Sys2Proof.Machine

/-! ### Words the statements share -/

/-- The port of a master is in LISTEN, where alone a frame can pass its check (R172). -/
def Listening (m : Master) (s : State) : Prop := (port m s).phase = .listen

/-- The port of a master is in LISTEN, and its silence timer has not run out, so that a frame which passes its check now meets
no silence expiry (R113). -/
def ListeningInTime (m : Master) (s : State) : Prop := Listening m s ∧ (port m s).silenceTimer ≠ some 0

/-- No filtered input level differs from its raw level. -/
def InputsAgree (s : State) : Prop := ∀ d : InputId, s.inputs[d].raw = s.inputs[d].filtered

/-- A discrete input is named by no actuator and waited on by no executor (R165). -/
def Unused (d : InputId) (s : State) : Prop := ∀ level, inputUses d level s = []

/-- A capture channel is named by no actuator as feedback and waited on by no executor (R160). -/
def Unheard (c : CaptureId) (s : State) : Prop := reportTakers c true s = []

/-- The chain record that a chain end with outcome `o` leaves of a chain record (R98, step 4). -/
def Ended (o : ChainOutcome) (x : Executor) : Executor :=
  { x with
    state := .idle, outcome := o, current := none, waiting := none, timer := none, currentAccepted := none,
    retained := none }

/-- The MOVE and FOLLOW ramps of the actuators of the groups `ended` have been removed between `s` and `t` (R38, R98, R108):
the command stays where it stands, a MOVING valve is HOLDING, and of the rest of the entry its supervision timers alone may
differ. Every other actuator, those of the groups with no ramp or with one of another origin among them, and its output channel
stand as they stood. -/
def ChainRampsRemoved (ended : GroupId → Bool) (s t : State) : Prop :=
  ∀ n : ActId,
    let a := s.actuators[n]
    let b := t.actuators[n]
    if (∃ g, ended g = true ∧ memberOf g a = true) ∧ ∃ r, a.ramp = some r ∧ (r.origin = .move ∨ r.origin = .follow) then
      b =
        { a with
          ramp := none, accumulator := 0, state := if a.state = .moving then .holding else a.state
          deviationTimer := b.deviationTimer, lostTimer := b.lostTimer }
    else b = a ∧ t.outputs[n] = s.outputs[n]

/-- The supervision timers of an actuator as a change from `a` to `b` leaves them (R19, R20). In service, not FAULTED and with
feedback configured: while the feedback is not NO_SIGNAL, the deviation timer runs exactly where the feedback differs from the
command by more than the tolerance, with the full deviation time where it was absent and with its time left where it ran, and
the feedback-lost timer is absent; while it is NO_SIGNAL the other way round. Elsewhere both are absent. -/
def Supervised (a b : Actuator) : Prop :=
  match b.cfg.feedback, b.feedback with
  | some f, some v =>
    let judged := b.state ≠ .outOfService ∧ b.state ≠ .faulted
    b.deviationTimer =
        (if judged ∧ v.status ≠ .noSignal ∧ (f.tolerance < v.value - b.command ∨ f.tolerance < b.command - v.value) then
          some (a.deviationTimer.getD (f.time * 1000000))
        else none) ∧
      b.lostTimer =
        (if judged ∧ v.status = .noSignal then some (a.lostTimer.getD (f.time * 1000000)) else none)
  | _, _ => b.deviationTimer = none ∧ b.lostTimer = none

/-- A path of slots, each the first link of the one before it, that the validation walk for group `g` finds fit for master `m`,
slot by slot (R72, R73): at most 32 different slots, each WRITTEN by the master with no invalid form. -/
def FitPath (m : Master) (g : GroupId) (path : List SlotId) (s : State) : Prop :=
  path.Nodup ∧ path.length ≤ 32 ∧
    (∀ j ∈ path, s.slots[j].state = .written m ∧ invalidForm g s.slots[j].record s = false) ∧
    path.IsChain fun i j => (linksOf s.slots[i].record).head? = some j

/-- A chain can go from slot `i` to slot `j` along its links (R72). -/
def Leads (s : State) (i j : SlotId) : Prop := Relation.ReflTransGen (fun a b => b ∈ linksOf s.slots[a].record) i j

/-- A slot holds a DWELL with an immediate operand. -/
def DwellAt (j : SlotId) (v : Half) (s : State) : Prop :=
  s.slots[j].record.op = .dwell ∧ s.slots[j].record.operand = .imm v ∧ s.slots[j].record.pair = false

/-- The chain record of an executor that has gone on from `x` to such a slot (R76, R78, R85): the slot is the current one, the
step is counted, its operand retained, and it waits for TIMER with its duration clamped to 1..3600 s. -/
def EnteredDwell (j : SlotId) (v : Half) (x : Executor) : Executor :=
  { x with
    state := .active, current := some j, waiting := some .timer
    timer := some ((if v.toInt < 1 then 1 else if 3600 < v.toInt then 3600 else v.toInt.toNat) * 1000000)
    stepCount := x.stepCount + 1, currentAccepted := none
    retained := some { first := v, second := none, row := none } }

/-- The slot as the end of the chains of the groups `ended` leaves it: unbound, with its writer and record (R53). -/
def Unbound (ended : GroupId → Bool) (x : Slot) : Slot :=
  match x.state with
  | .bound w g => if ended g then { x with state := .written w } else x
  | _ => x

/-- No executor can take a report about an actuator: the executor of its group is IDLE (R25). -/
def Unattended (n : ActId) (s : State) : Prop :=
  ∀ g, s.actuators[n].cfg.group = some g → s.executors[g].state = .idle

/-- Actuator `n` has taken a first fault with this code between `s` and `t` (R21), with its safe action (R22) and
ACT_FAULT attention for both masters. -/
def FaultTaken (code : FaultCode) (n : ActId) (s t : State) : Prop :=
  let a := s.actuators[n]
  let b := t.actuators[n]
  b.state = .faulted ∧ b.fault = code ∧ b.commandAtFault = a.command ∧ b.furtherFault = a.furtherFault ∧
  b.cfg = a.cfg ∧ b.follow = none ∧ b.proofTimer = none ∧ b.deviationTimer = none ∧ b.lostTimer = none ∧
  t.outputs[n].runOutput = false ∧
  (a.cfg.kind = .pump → b.command = 0 ∧ b.ramp = none) ∧
  (a.cfg.kind = .valve → b.command = a.command ∧
    (a.cfg.safeAction = some .hold → b.ramp = none) ∧
    (a.cfg.safeAction = some .release → b.ramp = none ∧ t.outputs[n].condition = .released) ∧
    (a.cfg.safeAction = some .go →
      b.ramp =
        if clampTarget a (a.cfg.safeValue.getD 0) = a.command then none
        else some
          { target := clampTarget a (a.cfg.safeValue.getD 0), rateStep := rateStep a a.cfg.maxRate, origin := .safe })) ∧
  (∀ m, flagSet m .actFault t = true)

/-- Outside actuator `n` and its output channel, ACT, the executors, DST, the claims and the field channels stand as they
stood. -/
def OnlyActuator (n : ActId) (s t : State) : Prop :=
  (∀ k, k ≠ n → t.actuators[k] = s.actuators[k] ∧ t.outputs[k] = s.outputs[k]) ∧ t.executors = s.executors ∧
    t.slots = s.slots ∧ t.profile = s.profile ∧ t.groupHolders = s.groupHolders ∧ t.govHolder = s.govHolder ∧
    t.captures = s.captures ∧ t.governor = s.governor ∧ t.stations = s.stations ∧ t.receiver = s.receiver ∧
    t.ptrip = s.ptrip ∧ t.pending = s.pending

/-! ### Outputs -/

/-- The output channel of an actuator is RELEASED exactly where R7 says so, its run output is on exactly where R8 says so,
and its pending duty is the duty of the command under the period it runs next (R43). -/
def OutputFollows (a : Actuator) (o : OutputChannel) : Prop :=
  (o.condition = .released ↔ releases a = true) ∧ o.runOutput = runsOutput a ∧
    o.pendingDuty = dutyOf a.command (nextPeriod o)

/-- Every output channel follows its actuator. -/
def OutputsFollow (s : State) : Prop := ∀ n : ActId, OutputFollows s.actuators[n] s.outputs[n]

/-! ### Actuators -/

/-- The limits and rates of a configuration are in order (R3). -/
def ConfigOk (c : ActConfig) : Prop :=
  c.min ≤ c.max ∧ c.max ≤ 10000 ∧ 1 ≤ c.defaultRate ∧ c.defaultRate ≤ c.maxRate ∧ c.maxRate ≤ 10000

/-- The state is one of the kind's states (R6). -/
def StateFits (a : Actuator) : Prop :=
  match a.cfg.kind with
  | .none => a.state = .outOfService
  | .pump => a.state ≠ .holding ∧ a.state ≠ .moving
  | .valve => a.state = .outOfService ∨ a.state = .holding ∨ a.state = .moving ∨ a.state = .faulted

/-- The command is 0 in the states that R7 names, min in STARTING and DROP_WAIT (R9), and within the limits in every
other. -/
def CommandOk (a : Actuator) : Prop :=
  if a.state = .outOfService ∨ a.state = .stopped ∨ (a.state = .faulted ∧ a.cfg.kind = .pump) then a.command = 0
  else if a.state = .starting ∨ a.state = .stopping .dropWait then a.command = a.cfg.min
  else a.cfg.min ≤ a.command ∧ a.command ≤ a.cfg.max

/-- The slew generator (R31): without a ramp the accumulator is 0; a ramp has its target within the limits and its rate
step within what the max rate gives, and its origin fits the state (R9, R10, R36); the follow step is present only at a
RUNNING pump (R39). -/
def SlewOk (a : Actuator) : Prop :=
  a.accumulator < 64 ∧
  (match a.ramp with
    | none => a.accumulator = 0 ∧ a.state ≠ .moving ∧ a.state ≠ .stopping .rampDown
    | some r =>
      a.cfg.min ≤ r.target ∧ r.target ≤ a.cfg.max ∧ 6 ≤ r.rateStep ∧ r.rateStep ≤ rateStepOf a.cfg.maxRate ∧
        ((a.state = .running ∧ (r.origin = .move ∨ r.origin = .follow)) ∨ (a.state = .moving ∧ r.origin = .move) ∨
          (a.state = .stopping .rampDown ∧ r.origin = .stop ∧ r.target = a.cfg.min) ∨
          (a.state = .faulted ∧ a.cfg.kind = .valve ∧ r.origin = .safe))) ∧
  (match a.follow with
    | none => True
    | some q => a.state = .running ∧ 6 ≤ q ∧ q ≤ rateStepOf a.cfg.maxRate)

/-- An actuator entry is as Chapters 1 and 2 say it always is. -/
def ActuatorOk (a : Actuator) : Prop := ConfigOk a.cfg ∧ StateFits a ∧ CommandOk a ∧ SlewOk a

/-- Every actuator entry is so. -/
def ActuatorsOk (s : State) : Prop := ∀ n : ActId, ActuatorOk s.actuators[n]

/-- While the filtered PTRIP level is asserted, no actuator is in service and not FAULTED, and no chain runs or is halted
(R28, R29). -/
def TripHeld (s : State) : Prop :=
  s.ptrip.asserted = true →
    (∀ n : ActId, healthy s.actuators[n] = false) ∧ ∀ g : GroupId, s.executors[g].state = .idle

/-! ### Claims, slots and chains -/

/-- A chain that runs or is halted has a starter, who holds its group (R93, R108). -/
def StartersHold (s : State) : Prop :=
  ∀ g : GroupId, s.executors[g].state ≠ .idle →
    ∃ m, s.executors[g].starter = some m ∧ s.groupHolders[g] = some m

/-- A slot that is BOUND to a group is bound to a chain that runs or is halted, and its writer started that chain (R53,
R111); a FREE slot holds the cleared record (R46). -/
def SlotsBelong (s : State) : Prop :=
  ∀ k : SlotId, match s.slots[k].state with
    | .free => s.slots[k].record = Descriptor.cleared
    | .written _ => True
    | .bound w g => s.executors[g].state ≠ .idle ∧ s.executors[g].starter = some w

/-- Claims, chains and slots agree. -/
def DispatchOk (s : State) : Prop := StartersHold s ∧ SlotsBelong s

/-! ### Governor and stations -/

/-- The governor is as R115 and R124 say it always is. -/
def GovernorOk (g : Governor) : Prop :=
  g.dmin ≤ g.dmax ∧ g.dmax ≤ 10000 ∧ g.dmin ≤ g.fallback ∧ g.fallback ≤ g.dmax ∧
  1 ≤ g.dstep ∧ g.dstep ≤ 2000 ∧ 1 ≤ g.holdTime ∧ g.holdTime ≤ 600 ∧ g.kp ≤ 255 ∧ g.ki ≤ 255 ∧
  (g.mode ≠ .off →
    g.dmin ≤ g.demand ∧ g.demand ≤ g.dmax ∧ g.dmin * 64 ≤ g.integral ∧ g.integral ≤ g.dmax * 64) ∧
  (g.mode = .hold ↔ g.holdTimer.isSome = true) ∧
  (g.mode = .off → g.eligible = none ∧ g.lastError = none)

/-- A pump follows only while the governor is not OFF (R39). -/
def FollowersOk (s : State) : Prop :=
  s.governor.mode = .off → ∀ n : ActId, s.actuators[n].follow = none

/-- The governor's part of the state. -/
def PressureOk (s : State) : Prop := GovernorOk s.governor ∧ FollowersOk s

/-- A station entry's reading and timer are present as its state gives, and an entry that is not enabled is in NEVER
(R140, R143). -/
def StationOk (x : Station) : Prop :=
  (x.enabled = false → x.state = .never) ∧ (x.state = .never ↔ x.reading = none) ∧
    ((x.state = .fresh ∨ x.state = .bad) ↔ x.staleTimer.isSome = true)

/-- Every station entry is so, and no two enabled entries hold one address (R140). -/
def StationsOk (s : State) : Prop :=
  (∀ k : StationId, StationOk s.stations[k]) ∧
    ∀ j k : StationId, j ≠ k → s.stations[j].enabled = true → s.stations[k].enabled = true →
      s.stations[j].address ≠ s.stations[k].address

/-! ### Link ports -/

/-- A port between events (R171 to R174, R176): at most 16 entries wait, and none in LISTEN; outside LISTEN there is one
response and the assembler is in HUNT; the inter-byte timer runs exactly inside a frame; an ACTIVE link's silence timer runs
(R110). -/
def PortOk (p : Port) : Prop :=
  p.fifo.length ≤ 16 ∧
  (match p.phase with
    | .listen => p.fifo = [] ∧ p.response = none ∧ (p.interByte.isSome = true ↔ p.assembler ≠ .hunt)
    | .handling => False
    | .turnaround => p.response.isSome = true ∧ p.assembler = .hunt ∧ p.interByte = none
    | .responding => p.response.isSome = true ∧ p.assembler = .hunt ∧ p.interByte = none) ∧
  (p.active = true → p.silenceTimer.isSome = true)

/-- Both ports are so. -/
def PortsOk (s : State) : Prop := ∀ m, PortOk (port m s)

end Sys2Proof.Machine
end

