-- ==== Sys2Proof/WellFormed.lean ====
section
/-! DEFINITION. The checks that a command passes when it can come about at all: the number of values a WRITE PROFILE
carries (R56), the frames that are no request (R176), the marks a character may carry (R170) and the low samples that a
low stop bit may end in (R136): fewer than a break's 176, and none where its samples 7 and 8 were low and its sample 9 was
high (log entry 24). Every other field may hold any code: an out-of-range code is a request that is refused. -/

namespace Sys2Proof

/-- A command that can come about. -/
def Instr.wellFormed : Instr → Bool
  | .writeProfile _ _ vs => decide (1 ≤ vs.length) && decide (vs.length ≤ 16)
  | .unknownRequest q code => decide (parseRequest q code [] = .unknown)
  | .badLength q code n => decide (n ≤ 57) && decide (parseRequest q code (List.replicate n 0) = .badLength)
  | .linkCharacterReceived _ byte marks => !(marks.brk && marks.framing) && (!marks.brk || byte == 0)
  | .stationStopBitLow count => decide (count < 176)
  | _ => true

end Sys2Proof
end

