-- ==== Sys2Proof/Certificates/Slice0/Obligations.lean ====
section
/-! DEFINITION. The statements for the provers. Each says in its docstring which rules of the manual it formalises. A
statement about a request takes the port of the requester in LISTEN, where alone a frame can pass its check (R172); there
`acceptFrame` is what the port does with the checked frame (R110, R175) and `respond` is its building of the response
(R176). A statement about a request that claims bear on takes the silence timer of the requester not to have run out
(`ListeningInTime`); SilenceExpiryFreesEverything says of all of them what comes of a frame that meets the expiry (R109, R113). -/

section

open Sys2Proof Sys2Proof.Machine

/-! ### The step -/

/-- A step takes the command at the front of the queue and has its effect on the state with the rest of the queue. -/
def Obligations.StepTakesFrontCommand : Prop :=
  ∀ (c : Instr) (rest : List Instr) (s : State),
    s.pending = c :: rest → step s = exec c { s with pending := rest }

/-- The model's own time (log entry 1; R32, R117, R149, R153 give the timers): with no command waiting, a step takes the one
event that has come due, and where none has, one microsecond passes, which changes no command, claim, slot or row. -/
def Obligations.IdleStepPassesTime : Prop :=
  ∀ s : State, s.pending = [] →
    (∀ i, dueEvents s = [i] → step s = exec i s) ∧
    (dueEvents s = [] →
      ∃ t, step s = .next t ∧
        (∀ n : ActId,
          t.actuators[n].slewTimer = s.actuators[n].slewTimer - 1 ∧
          t.actuators[n].command = s.actuators[n].command ∧ t.actuators[n].state = s.actuators[n].state ∧
          t.outputs[n] = { s.outputs[n] with position := s.outputs[n].position + 1 }) ∧
        t.governor.evalTimer = s.governor.evalTimer - 1 ∧ t.governor.demand = s.governor.demand ∧
        t.counter = s.counter + 1 ∧ t.groupHolders = s.groupHolders ∧ t.govHolder = s.govHolder ∧ t.slots = s.slots ∧
        t.profile = s.profile ∧ t.pending = [])

/-! ### The resets -/

/-- Power-on puts every block into its power-on values (R3, R6, R31, R46, R55, R59, R68, R104, R115, R134, R135, R139, R140,
R149, R151, R153, R169, R182): every claim, chain record, slot, row, actuator entry, output and capture channel, the governor,
the station line and table and both ports, field by field; each filtered input level is the raw level (R168), PTRIP is not
asserted (R27), and a capture channel has taken the level that its input has (R154). That the sixteen slew timers and the
evaluation timer start full, and that the first sample of each receiver falls one sample interval after the reset (`left` 104
and 52), is the model's choice (log entry 9): R32 calls the phases of the timers unrelated, and R134 does not place the first
sample. -/
def Obligations.PowerOnResetValues : Prop :=
  ∀ s : State, ∃ t, exec .powerOnReset s = .next t ∧
    (∀ g : GroupId, t.groupHolders[g] = none ∧
      t.executors[g] =
        { state := .idle, starter := none, startSlot := none, current := none, waiting := none, timer := none,
          stepCount := 0, currentAccepted := none, retained := none, lastFailure := none, outcome := .none, c1 := 0,
          c2 := 0 }) ∧
    t.govHolder = none ∧
    (∀ k : SlotId, t.slots[k].state = .free ∧
      t.slots[k].record = { op := .move 0 0 false, operand := .imm 0, pair := false, onFail := .halt, next := none }) ∧
    (∀ r : RowId, t.profile[r] = 0) ∧
    (∀ n : ActId,
      t.actuators[n] =
        { cfg :=
            { kind := .none, group := none, min := 0, max := 10000, maxRate := 10000, defaultRate := 10000
              proofInput := none, proofTimeout := none, safeAction := none, safeValue := none, tripScope := .self
              permissive := none, feedback := none }
          state := .outOfService, command := 0, ramp := none, accumulator := 0, follow := none, feedback := none
          fault := .none, furtherFault := false, commandAtFault := 0, proofTimer := none, deviationTimer := none
          lostTimer := none, slewTimer := 100000 } ∧
      t.outputs[n] =
        { activePeriod := 1000, pendingPeriod := none, activeDuty := 0, pendingDuty := 0, polarity := .activeHigh,
          condition := .released, held := false, position := 0, runOutput := false }) ∧
    (∀ c : CaptureId,
      t.captures[c] =
        { mode := .off, prescale := 1, timeout := 20, gain := 4096, offset := 0, phase := .waitEdge, lastRaw := none
          value := 0, status := .noSignal, timer := none, age := 0, input := s.captures[c].input
          sample := s.captures[c].input.level, edge := none }) ∧
    (∀ d : InputId, t.inputs[d].debounce = 5 ∧ t.inputs[d].raw = s.inputs[d].raw ∧
      t.inputs[d].filtered = s.inputs[d].raw) ∧
    t.ptrip.asserted = false ∧ t.ptrip.raw = s.ptrip.raw ∧
    t.governor =
      { mode := .off, kp := 0, ki := 0, dmin := 0, dmax := 10000, dstep := 100, holdTime := 30, fallback := 5000
        demand := 0, integral := 0, holdTimer := none, eligible := none, lastError := none, evalTimer := 1000000 } ∧
    (∀ k : StationId,
      t.stations[k] =
        { enabled := false, address := k.val + 1, setpoint := 0, staleTime := 10, state := .never, reading := none
          staleTimer := none }) ∧
    t.receiver =
      { baud := 9600, clock := { fraction := 0, left := 104 }, input := s.receiver.input, sampler := .markWait
        lowCount := 0, decided := none, assembler := .hunt, lastRejection := .none } ∧
    (∀ m,
      port m t =
        { line := { baud := 19200, even := true, silence := 15 }, pendingLine := none
          clock := { fraction := 0, left := 52 }, input := (port m s).input, receiver := .waitHigh, decided := none
          phase := .listen, fifo := [], overrunPending := false, assembler := .hunt, interByte := none
          lastError := .none, active := false, silenceTimer := none, flags := 0, mask := 0xFFFF, response := none
          lineTimer := none })

/-- A panel reset takes the events that have come due first (R1): `takeDueEvents` takes them one after another, each a due
event with its own effect, as many as were due, in an open order (log entry 30). From the state they leave, it frees every
claim (R104), ends every chain that runs or is halted with outcome RESET while the cursors and an idle executor's record stay
(R102, R59), unbinds every slot with its writer and record kept (R46), and keeps every profile row (R55), whatever the input
filters hold. -/
def Obligations.PanelResetOfDispatch : Prop :=
  (∀ before : State,
     let s := takeDueEvents before
     ∃ t, exec .panelReset before = .next t ∧
       (∀ g : GroupId, t.groupHolders[g] = none) ∧ t.govHolder = none ∧
       (∀ g : GroupId, t.executors[g] =
         if s.executors[g].state = .idle then s.executors[g] else Ended .reset s.executors[g]) ∧
       (∀ k : SlotId, t.slots[k] = Unbound (fun _ => true) s.slots[k]) ∧
       t.profile = s.profile) ∧
  (∀ s : State,
     takeDueEvents s = takeDueUpTo (dueEvents s).length s ∧ takeDueUpTo 0 s = s ∧
     ∀ k : Nat,
       (dueEvents s = [] → takeDueUpTo (k + 1) s = s) ∧
       (∀ i, dueEvents s = [i] → ∃ t, exec i s = .next t ∧ takeDueUpTo (k + 1) s = takeDueUpTo k t) ∧
       (2 ≤ (dueEvents s).length →
         ∃ i t, i ∈ dueEvents s ∧ exec i { s with freeCount := s.freeCount + 1 } = .next t ∧
           takeDueUpTo (k + 1) s = takeDueUpTo k t))

/-- A panel reset at the actuators and output channels (R30, R32, R38, R41, R44, R45, R150, R151), from the state that the
events due before it leave (R1, PanelResetOfDispatch), where no input filter holds a difference; and where one alone does
(R168), that of the proof input of one pump of trip scope SELF that nothing else uses: the pump takes the difference as a change
after the reset, so that a RUNNING pump, or one that the reset brought back from RAMP_DOWN to RUNNING, whose proof had dropped
is faulted with PROOF_LOST, and the proof sequence of a STARTING or DROP_WAIT pump completes. Two clauses are the model's choice:
that ACT_FAULT is set by that fault, and so stands after a reset that clears every flag (log entry 13), and that every slew
timer is full after the reset (log entry 9). -/
def Obligations.PanelResetOfActuators : Prop :=
  (∀ before : State,
     let s := takeDueEvents before
     InputsAgree s → ∃ t, exec .panelReset before = .next t ∧
     ∀ n : ActId,
       let a := s.actuators[n]
       let b := t.actuators[n]
       let o := s.outputs[n]
       let go := a.state = .faulted ∧ a.cfg.kind = .valve ∧ a.cfg.safeAction = some .go ∧
         clampTarget a (a.cfg.safeValue.getD 0) ≠ a.command
       b.cfg = a.cfg ∧ b.command = a.command ∧ b.fault = a.fault ∧ b.furtherFault = a.furtherFault ∧
       b.commandAtFault = a.commandAtFault ∧ b.follow = none ∧ b.accumulator = 0 ∧ b.slewTimer = 100000 ∧
       b.state = (match a.state with
         | .moving => .holding
         | .stopping .rampDown => .running
         | x => x) ∧
       b.ramp = (if go then
           some
             { target := clampTarget a (a.cfg.safeValue.getD 0), rateStep := rateStep a a.cfg.maxRate, origin := .safe }
         else none) ∧
       b.proofTimer = (match a.state with
         | .starting => some (a.cfg.proofTimeout.getD 0 * 1000000)
         | .stopping .dropWait => some (a.cfg.proofTimeout.getD 0 * 1000000)
         | _ => none) ∧
       b.deviationTimer = none ∧
       b.lostTimer = (match a.cfg.feedback with
         | some f => if a.state = .outOfService ∨ a.state = .faulted then none else some (f.time * 1000000)
         | none => none) ∧
       t.outputs[n] =
         { o with
           activePeriod := o.pendingPeriod.getD o.activePeriod, pendingPeriod := none
           activeDuty := (a.command * o.pendingPeriod.getD o.activePeriod + 5000) / 10000
           pendingDuty := (a.command * o.pendingPeriod.getD o.activePeriod + 5000) / 10000
           position := 0, held := false }) ∧
  (∀ (d : InputId) (n : ActId) (before : State),
     let s := takeDueEvents before
     s.inputs[d].raw ≠ s.inputs[d].filtered → (∀ e : InputId, e ≠ d → s.inputs[e].raw = s.inputs[e].filtered) →
     s.actuators[n].cfg.kind = .pump → s.actuators[n].cfg.tripScope = .self → s.actuators[n].cfg.proofInput = some d →
     (∀ k : ActId, k ≠ n → s.actuators[k].cfg.proofInput ≠ some d) →
     (∀ k : ActId, s.actuators[k].cfg.permissive.map Permissive.input ≠ some d) →
     let a := s.actuators[n]
     ∃ t, exec .panelReset before = .next t ∧ t.inputs[d].filtered = s.inputs[d].raw ∧
       let b := t.actuators[n]
       b.cfg = a.cfg ∧ b.ramp = none ∧ b.follow = none ∧
       (s.inputs[d].raw = false → a.state = .running ∨ a.state = .stopping .rampDown →
         b.state = .faulted ∧ b.fault = .proofLost ∧ b.commandAtFault = a.command ∧ b.command = 0 ∧
           t.outputs[n].runOutput = false ∧ t.outputs[n].pendingDuty = 0 ∧ ∀ m, flagSet m .actFault t = true) ∧
       (s.inputs[d].raw = true → a.state = .starting →
         b.state = .running ∧ b.proofTimer = none ∧ b.command = a.command ∧ t.outputs[n].runOutput = true) ∧
       (s.inputs[d].raw = false → a.state = .stopping .dropWait →
         b.state = .stopped ∧ b.proofTimer = none ∧ b.command = 0 ∧ t.outputs[n].pendingDuty = 0) ∧
       (a.state = .stopped ∨ a.state = .faulted ∨ a.state = .outOfService →
         b.state = a.state ∧ b.command = a.command ∧ b.fault = a.fault))

/-- A panel reset at the governor (R133), the station table and receiver (R134, R139, R140), the capture channels (R154,
R164), the input filters (R168, R27) and the ports (R110, R169, R180, R182), whose transmit-enable and ALERT line are
released, from the state that the events due before it leave (R1, PanelResetOfDispatch), where no input filter holds a
difference. That the evaluation timer is full after the reset is the model's choice (log entry 9). -/
def Obligations.PanelResetOfPressureAndPorts : Prop :=
  ∀ before : State,
    let s := takeDueEvents before
    InputsAgree s → ∃ t, exec .panelReset before = .next t ∧
    t.governor =
      { s.governor with
        mode := if s.governor.mode = .off then .off else .hold
        holdTimer := if s.governor.mode = .off then none else some (s.governor.holdTime * 1000000)
        eligible := none, lastError := none, evalTimer := 1000000 } ∧
    (∀ k : StationId, t.stations[k] =
      { s.stations[k] with state := .never, reading := none, staleTimer := none }) ∧
    t.receiver.baud = s.receiver.baud ∧ t.receiver.sampler = .markWait ∧ t.receiver.lowCount = 0 ∧
    t.receiver.assembler = .hunt ∧ t.receiver.lastRejection = .none ∧ t.receiver.clock.fraction = 0 ∧
    t.receiver.decided = none ∧
    (∀ c : CaptureId,
      let x := s.captures[c]
      let y := t.captures[c]
      y.mode = x.mode ∧ y.prescale = x.prescale ∧ y.timeout = x.timeout ∧ y.gain = x.gain ∧ y.offset = x.offset ∧
      y.lastRaw = x.lastRaw ∧ y.sample = x.input.level ∧ y.edge = none ∧ y.input = x.input ∧ y.phase = .waitEdge ∧
      y.status = .noSignal ∧
      y.value = (match x.mode with
        | .off => 0
        | .duty => x.value
        | .frequency => if x.offset.toInt < 0 then 0 else x.offset.toInt.toNat) ∧
      y.timer = (if x.mode = .off then none else some (x.timeout * 100000))) ∧
    (∀ d : InputId, t.inputs[d].debounce = s.inputs[d].debounce ∧ t.inputs[d].filtered = s.inputs[d].raw) ∧
    t.ptrip.asserted = false ∧
    (∀ m,
      let p := port m s
      let r := port m t
      r.line = p.line ∧ r.mask = p.mask ∧ r.pendingLine = none ∧ r.fifo = [] ∧ r.overrunPending = false ∧
      r.assembler = .hunt ∧ r.interByte = none ∧ r.phase = .listen ∧ r.response = none ∧ r.flags = 0 ∧
      r.lastError = .none ∧ r.active = true ∧ r.silenceTimer = some (p.line.silence * 1000000) ∧
      r.clock.fraction = 0 ∧ r.receiver = .waitHigh ∧ r.decided = none ∧ transmitEnable m t = false ∧
      alertLow m t = false)

/-! ### Claims -/

/-- CLAIM (R105): a set that names a resource of the other master is refused whole with the resources so held; otherwise
every named resource is the requester's afterwards, the answer carries all that it holds, and CLAIMS_CHANGED is set for the
other master exactly where a holder changed. Nothing else changes. A CLAIM that meets the expiry of its master's silence timer
is in SilenceExpiryFreesEverything (R113). -/
def Obligations.ClaimTakenWhole : Prop :=
  ∀ (q : Req) (set : Byte) (s : State), ListeningInTime q.master s →
    0 < set.toNat → set.toNat < 64 →
    let u := acceptFrame q.master s
    let barred : Resource → Bool := fun r => set.getLsbD r.val && decide (holderOf r s = some q.master.other)
    ((∃ r, barred r = true) →
      ∃ b : Byte, (∀ r : Resource, b.getLsbD r.val = barred r) ∧ b.toNat < 64 ∧
        exec (.claim q set) s = .next (respond q 0x10 (u, .refuse .heldByOther [b]))) ∧
    ((∀ r, barred r = false) →
      ∃ (t : State) (b : Byte), exec (.claim q set) s = .next (respond q 0x10 (t, .ok [b])) ∧
        (∀ r : Resource, holderOf r t = if set.getLsbD r.val then some q.master else holderOf r s) ∧
        (∀ r : Resource, b.getLsbD r.val = decide (holderOf r t = some q.master)) ∧ b.toNat < 64 ∧
        t =
          { (if ∃ r : Resource, set.getLsbD r.val = true ∧ holderOf r s = none then
              setFlag q.master.other .claimsChanged u
            else u) with
            groupHolders := t.groupHolders, govHolder := t.govHolder })

/-- RELEASE (R107, R108): each named resource that the requester holds is free afterwards and no other holder changes; the
chain of each group so freed ends CANCELLED where it runs or is halted, with its slots unbound and the MOVE and FOLLOW ramps of
its actuators removed where they stand (R38, R98), no other ramp or entry changing; the answer lists the named
resources that were not held; the governor is not told; CLAIMS_CHANGED is set for the other master exactly where a holder
changed. A RELEASE that meets the expiry of its master's silence timer is in SilenceExpiryFreesEverything (R113). -/
def Obligations.ReleaseEndsClaims : Prop :=
  ∀ (q : Req) (set : Byte) (s : State), ListeningInTime q.master s →
    0 < set.toNat → set.toNat < 64 →
    let freed : Resource → Bool := fun r => set.getLsbD r.val && decide (holderOf r s = some q.master)
    let ended : GroupId → Bool := fun g =>
      set.getLsbD g.val && decide (s.groupHolders[g] = some q.master) && decide (s.executors[g].state ≠ .idle)
    ∃ (t : State) (b : Byte), exec (.release q set) s = .next (respond q 0x11 (t, .ok [b])) ∧
      (∀ r : Resource, holderOf r t = if freed r then none else holderOf r s) ∧
      (∀ r : Resource, b.getLsbD r.val = (set.getLsbD r.val && decide (holderOf r s ≠ some q.master))) ∧
      b.toNat < 64 ∧
      (∀ g : GroupId, t.executors[g] = if ended g then Ended .cancelled s.executors[g] else s.executors[g]) ∧
      (∀ k : SlotId, t.slots[k] = Unbound ended s.slots[k]) ∧
      (∀ g : GroupId, ended g = true → ∀ m, s.executors[g].starter = some m → flagSet m (.chainEnd g) t = true) ∧
      ChainRampsRemoved ended s t ∧
      t.governor = s.governor ∧ t.profile = s.profile ∧ t.stations = s.stations ∧
      flagSet q.master.other .claimsChanged t =
        (flagSet q.master.other .claimsChanged s || decide (∃ r : Resource, freed r = true))

/-- A silence expiry (R110, R111, R112, R54): every holding of the silent master ends with the chains of its groups and their
MOVE and FOLLOW ramps (R38, R98), every slot that it wrote is FREE with the cleared record, the other master's claims
and slots stand, the link is SILENT with its
timer absent, CLAIM_LOST is set for the silent master, and CLAIMS_CHANGED for the other where a resource was released. It
takes the state to be one in which claims, chains and slots agree, which every step keeps. A request that claims bear on
(`claimsBearOn`: CLAIM, RELEASE and the requests that need a claim), from that master, whose frame passes its check when the
timer has run out and the expiry is not yet taken (R75, R101, R109, R113): either it has the effect it has with the timer
running, no expiry occurring, or it has that effect and the expiry acts on what it leaves at once, so that a chain that it has
started or resumed ends CANCELLED, the timer restarted and the link ACTIVE all the same. That the second can come of a frame
whose check is taken now is the model's choice (log entry 27). -/
def Obligations.SilenceExpiryFreesEverything : Prop :=
  let freedOf : Master → State → State → Prop := fun m s t =>
    let ended : GroupId → Bool := fun g =>
      decide (s.groupHolders[g] = some m) && decide (s.executors[g].state ≠ .idle)
    (∀ r : Resource, holderOf r t = if holderOf r s = some m then none else holderOf r s) ∧
    (∀ g : GroupId, t.executors[g] = if ended g then Ended .cancelled s.executors[g] else s.executors[g]) ∧
    (∀ g : GroupId, ended g = true → flagSet m (.chainEnd g) t = true) ∧
    ChainRampsRemoved ended s t ∧
    (∀ k : SlotId, t.slots[k] =
      if slotWriter s.slots[k].state = some m then { state := .free, record := Descriptor.cleared } else s.slots[k]) ∧
    (port m.other t).line = (port m.other s).line ∧ flagSet m .claimLost t = true ∧
    flagSet m.other .claimsChanged t =
      (flagSet m.other .claimsChanged s || decide (∃ r : Resource, holderOf r s = some m))
  ∀ (m : Master) (s : State), (port m s).silenceTimer = some 0 → DispatchOk s →
    (∃ t, exec (.silenceExpiry m) s = .next t ∧ freedOf m s t ∧ (port m t).active = false ∧
      (port m t).silenceTimer = none) ∧
    (∀ (c : Instr) (q : Req), claimsBearOn c = true → requestOf c = some q → q.master = m → Listening m s →
      let running : State := setPort m { port m s with silenceTimer := some 1 } { s with freeCount := s.freeCount + 1 }
      exec c s = exec c running ∨
      ∃ u t, exec c running = .next u ∧ exec c s = .next t ∧ freedOf m u t ∧
        (port m t).response = (port m u).response ∧ (port m t).phase = .turnaround ∧ (port m t).active = true ∧
        (port m t).silenceTimer = some ((port m s).line.silence * 1000000))

/-! ### Descriptors, profile rows and cursors -/

/-- WRITE DESCRIPTOR (R49) and FREE DESCRIPTOR (R50). A slot number above 127 is refused OUT_OF_RANGE, a BOUND slot BOUND, and
a slot that the other master wrote OWNED_BY_OTHER; on a slot that is FREE or the requester's own WRITTEN slot, the slot takes
the whole record with the requester as writer, or becomes FREE with the cleared record; a record out of range is refused; no
other slot and nothing else changes. That a record whose qualifier is not 0 on an op that has none (MOVE, START, STOP, FOLLOW,
DWELL) is in range, and is stored with 0 there, is the model's choice (log entry 22). -/
def Obligations.DescriptorWrittenAndFreed : Prop :=
  ∀ (q : Req) (slot : Byte) (r : RawDescriptor) (s : State), Listening q.master s →
    let u := acceptFrame q.master s
    let bothRefuse := fun (c : RefusalCode) =>
      exec (.writeDescriptor q slot r) s = .next (respond q 0x20 (u, .refuse c [])) ∧
      exec (.freeDescriptor q slot) s = .next (respond q 0x21 (u, .refuse c []))
    (128 ≤ slot.toNat → bothRefuse .outOfRange) ∧
    (∀ k, index? 128 slot = some k →
      (∀ w g, s.slots[k].state = .bound w g → bothRefuse .bound) ∧
      (s.slots[k].state = .written q.master.other → bothRefuse .ownedByOther) ∧
      (s.slots[k].state = .free ∨ s.slots[k].state = .written q.master →
        (∀ d : Descriptor, descriptor? r = some d →
          exec (.writeDescriptor q slot r) s =
            .next (respond q 0x20
              ({ u with slots := put u.slots k { state := .written q.master, record := d } }, .ok []))) ∧
        (descriptor? r = none →
          exec (.writeDescriptor q slot r) s = .next (respond q 0x20 (u, .refuse .outOfRange []))) ∧
        exec (.freeDescriptor q slot) s =
          .next (respond q 0x21
            ({ u with slots := put u.slots k { state := .free, record := Descriptor.cleared } }, .ok []))))

/-- WRITE PROFILE (R56) writes the k-th value to row (first row + k) mod 64 and no other row; READ PROFILE (R57) answers the
values of rows (first row + k) mod 64, two bytes each with the high byte first (R183), and changes nothing; a first row above
63 is refused by both, and a count that is not 1 to 16 by READ PROFILE. -/
def Obligations.ProfileRows : Prop :=
  ∀ (q : Req) (first : Byte) (s : State), Listening q.master s →
    let u := acceptFrame q.master s
    (∀ vs : List Half, 1 ≤ vs.length → vs.length ≤ 16 →
      (64 ≤ first.toNat → exec (.writeProfile q first vs) s = .next (respond q 0x24 (u, .refuse .outOfRange []))) ∧
      (∀ r, index? 64 first = some r →
        ∃ rows : Table Half 64,
          exec (.writeProfile q first vs) s = .next (respond q 0x24 ({ u with profile := rows }, .ok [])) ∧
          ∀ k : RowId, rows[k] = (vs[(k.val + 64 - r.val) % 64]?).getD s.profile[k])) ∧
    (∀ count : Byte,
      (64 ≤ first.toNat ∨ count.toNat = 0 ∨ 16 < count.toNat →
        exec (.readProfile q first count) s = .next (respond q 0x25 (u, .refuse .outOfRange []))) ∧
      (∀ r, index? 64 first = some r → 1 ≤ count.toNat → count.toNat ≤ 16 →
        ∃ bytes : List Byte,
          exec (.readProfile q first count) s = .next (respond q 0x25 (u, .ok (first :: bytes))) ∧
          bytes.length = 2 * count.toNat ∧
          ∀ (k : Nat) (h : k < count.toNat),
            join2 (bytes.getD (2 * k) 0) (bytes.getD (2 * k + 1) 0) =
              s.profile[(⟨(r.val + k) % 64, by omega⟩ : RowId)]))

/-- WRITE CURSOR (R60): the checks in their order, and on acceptance the named cursor of the group takes the value and
nothing else changes. -/
def Obligations.WriteCursorChecksAndEffect : Prop :=
  ∀ (q : Req) (group cursor value : Byte) (s : State), ListeningInTime q.master s →
    let u := acceptFrame q.master s
    exec (.writeCursor q group cursor value) s =
      .next (respond q 0x34
        (match index? 5 group with
          | none => (u, .refuse .outOfRange [])
          | some g =>
            if s.groupHolders[g] ≠ some q.master then (u, .refuse .notHolder [])
            else if cursor ≠ 1 ∧ cursor ≠ 2 then (u, .refuse .outOfRange [])
            else
              match index? 64 value with
              | none => (u, .refuse .outOfRange [])
              | some r =>
                ({ u with
                    executors := put u.executors g
                      (if cursor = 1 then { u.executors[g] with c1 := r } else { u.executors[g] with c2 := r }) },
                  .ok [])))

/-- The fetch of a step (R63, R64, R65) and the CURSOR step (R88): IMM takes the stored value and no row, ROW the stored row;
the effective row of IDX and IDXU is the sum mod 64, Euclidean; a pair's second value comes from the row after it, row 63
paired with row 0; IDXU sets its base cursor to the effective row and no other mode changes a cursor; LOAD and ADD reduce mod
64 and change the named cursor alone. -/
def Obligations.OperandFetchAndCursors : Prop :=
  (∀ (profile : Table Half 64) (x : Executor) (d : Descriptor),
    let fetched := fun (e : RowId) =>
      fetch profile x d =
        { first := profile[e]
          second := if d.pair then some profile[(⟨(e.val + 1) % 64, by omega⟩ : RowId)] else none
          row := some e }
    (∀ v, d.operand = .imm v →
      fetch profile x d = { first := v, second := none, row := none } ∧ updateCursor x d.operand = x) ∧
    (∀ r, d.operand = .row r → fetched r ∧ updateCursor x d.operand = x) ∧
    (∀ (b : BaseCursor) (disp : BitVec 6), d.operand = .idx b disp ∨ d.operand = .idxu b disp →
      ∃ e : RowId, (e.val : Int) = ((cursorValue x b).val + disp.toInt) % 64 ∧ fetched e ∧
        (d.operand = .idxu b disp → ∀ c, cursorValue (updateCursor x d.operand) c =
          if c = b ∧ b ≠ .c0 then e else cursorValue x c) ∧
        (d.operand = .idx b disp → updateCursor x d.operand = x))) ∧
  (∀ (x : Executor) (c : CursorName) (v : Half),
    let loaded := applyCursor x c .load v
    let added := applyCursor x c .add v
    ((cursorValue loaded c.base).val : Int) = v.toInt % 64 ∧
    ((cursorValue added c.base).val : Int) = ((cursorValue x c.base).val + v.toInt) % 64 ∧
    (∀ b, b ≠ c.base → cursorValue loaded b = cursorValue x b ∧ cursorValue added b = cursorValue x b) ∧
    loaded = { x with c1 := loaded.c1, c2 := loaded.c2 } ∧ added = { x with c1 := added.c1, c2 := added.c2 })

/-! ### Chains -/

/-- CANCEL CHAIN (R97, R98, R38): the chain ends CANCELLED whole: the record is IDLE with its starter, start slot, step count
and last failure kept, the MOVE and FOLLOW ramps of the group's actuators are removed where they stand and no other entry
changes, the group's slots are unbound, and CHAIN_END is set for the starter. -/
def Obligations.CancelChainEndsChain : Prop :=
  ∀ (q : Req) (group : Byte) (g : GroupId) (s : State), ListeningInTime q.master s → index? 5 group = some g →
    s.groupHolders[g] = some q.master → s.executors[g].state ≠ .idle →
    ∃ t, exec (.cancelChain q group) s = .next (respond q 0x31 (t, .ok [])) ∧
      t.executors = put s.executors g (Ended .cancelled s.executors[g]) ∧
      (∀ k : SlotId, t.slots[k] = Unbound (fun h => h == g) s.slots[k]) ∧
      ChainRampsRemoved (fun h => h == g) s t ∧
      (∀ m, s.executors[g].starter = some m → flagSet m (.chainEnd g) t = true) ∧
      t.groupHolders = s.groupHolders ∧ t.govHolder = s.govHolder ∧ t.profile = s.profile ∧
      t.captures = s.captures ∧ t.governor = s.governor ∧ t.stations = s.stations

/-- RUN CHAIN of a chain that begins with a DWELL (R53, R71, R74, R76, R78, R85). Whatever slots the walk finds fit
(ValidationWalkSound), every one of them is bound to the group, with its writer and record kept, and no other; the answer carries
their number; and the first step waits. On a single DWELL: the slot is bound, the chain record starts with the requester as
starter, and the step waits for TIMER with its duration clamped to 1..3600 s; the answer carries the one slot bound, and
nothing else changes. -/
def Obligations.RunChainStartsDwell : Prop :=
  ∀ (q : Req) (group slot : Byte) (g : GroupId) (k : SlotId) (v : Half) (s : State), ListeningInTime q.master s →
    index? 5 group = some g → index? 128 slot = some k → s.groupHolders[g] = some q.master →
    s.executors[g].state = .idle → s.ptrip.asserted = false →
    (s.slots[k] =
      { state := .written q.master
        record := { op := .dwell, operand := .imm v, pair := false, onFail := .halt, next := none } } →
      let u := acceptFrame q.master s
      exec (.runChain q group slot) s =
      .next (respond q 0x30
        ({ u with
            slots := put u.slots k
              { state := .bound q.master g
                record := { op := .dwell, operand := .imm v, pair := false, onFail := .halt, next := none } }
            executors := put u.executors g
              { state := .active, starter := some q.master, startSlot := some k, current := some k
                waiting := some .timer
                timer := some
                  ((if v.toInt < 1 then 1 else if 3600 < v.toInt then 3600 else v.toInt.toNat) * 1000000)
                stepCount := 1, currentAccepted := none
                retained := some { first := v, second := none, row := none }
                lastFailure := none, outcome := .none
                c1 := u.executors[g].c1, c2 := u.executors[g].c2 } },
          .ok [1]))) ∧
    (∀ ks : List SlotId, reachable q.master g k s = .ok ks → DwellAt k v s →
      let u := acceptFrame q.master s
      let started : Executor :=
        { state := .active, starter := some q.master, startSlot := some k, current := some k, waiting := none
          timer := none, stepCount := 0, currentAccepted := none, retained := none, lastFailure := none
          outcome := .none, c1 := s.executors[g].c1, c2 := s.executors[g].c2 }
      ∃ slots : Table Slot 128,
        exec (.runChain q group slot) s =
          .next (respond q 0x30
            ({ u with slots := slots, executors := put u.executors g (EnteredDwell k v started) },
              .ok [BitVec.ofNat 8 ks.length])) ∧
        ∀ j : SlotId, slots[j] =
          if j ∈ ks then { state := .bound q.master g, record := s.slots[j].record } else s.slots[j])

/-- RUN CHAIN on a single step that moves an actuator of the group, by an immediate operand and with on-fail HALT (R74, R76 to
R80, R82 to R84, R13, R15, R33, R34, R39, R93, R98): a START begins STARTING and waits for RUN_PROOF; a STOP begins RAMP_DOWN
and waits for STOP_PROOF; a FOLLOW sets flag and step, and a MOVE without wait sets its ramp, and each completes, so that the
chain ends COMPLETE; a MOVE on a HOLDING valve makes it MOVING, or, where its permissive does not permit, faults it with
PERMISSIVE_LOST and fails FAULTED_DURING, here at trip scope SELF (R17, R80); a START whose permissive does not permit fails
PERMISSIVE at acceptance (R16, R77), and a step on a FAULTED actuator NOT_AVAILABLE; each failure halts the chain. No other
entry changes. -/
def Obligations.RunChainMovesActuator : Prop :=
  ∀ (q : Req) (group slot : Byte) (g : GroupId) (k : SlotId) (n : ActId) (op : Op) (v : Half) (s : State),
    ListeningInTime q.master s → index? 5 group = some g → index? 128 slot = some k →
    s.groupHolders[g] = some q.master → s.executors[g].state = .idle → s.ptrip.asserted = false →
    memberOf g s.actuators[n] = true →
    let record : Descriptor := { op := op, operand := .imm v, pair := false, onFail := .halt, next := none }
    s.slots[k] = { state := .written q.master, record := record } →
    let a := s.actuators[n]
    let accepted : Executor :=
      { state := .active, starter := some q.master, startSlot := some k, current := some k, waiting := none,
        timer := none, stepCount := 1, currentAccepted := none,
        retained := some { first := v, second := none, row := none }, lastFailure := none, outcome := .none,
        c1 := s.executors[g].c1, c2 := s.executors[g].c2 }
    let taken : Int → Nat := fun r =>
      if r = 0 then a.cfg.defaultRate else if r < 0 then 1 else if (a.cfg.maxRate : Int) < r then a.cfg.maxRate
      else r.toNat
    let runs := fun (t : State) =>
      exec (.runChain q group slot) s = .next (respond q 0x30 (t, .ok [1])) ∧ t.actuators[n].cfg = a.cfg ∧
      (∀ j, j ≠ n → t.actuators[j] = s.actuators[j] ∧ t.outputs[j] = s.outputs[j]) ∧
      t.profile = s.profile ∧ t.groupHolders = s.groupHolders ∧ t.govHolder = s.govHolder ∧
      t.captures = s.captures ∧ t.governor = s.governor ∧ t.stations = s.stations ∧ t.ptrip = s.ptrip
    let waits := fun (t : State) (x : Executor) =>
      t.executors = put s.executors g x ∧
      t.slots = put s.slots k { state := .bound q.master g, record := record }
    let completes := fun (t : State) =>
      t.executors = put s.executors g (Ended .complete accepted) ∧
      (∀ j : SlotId, t.slots[j] = Unbound (fun h => h == g) s.slots[j]) ∧ flagSet q.master (.chainEnd g) t = true
    (op = .start n → v = 0 → a.cfg.kind = .pump → a.state = .stopped → permits a s = true →
      (∀ d, a.cfg.proofInput = some d → s.inputs[d].filtered = false) →
      ∃ t, runs t ∧ waits t { accepted with waiting := some .runProof } ∧
        t.actuators[n].state = .starting ∧ t.actuators[n].command = a.cfg.min ∧
        t.actuators[n].proofTimer = some (a.cfg.proofTimeout.getD 0 * 1000000) ∧ t.outputs[n].runOutput = true) ∧
    (op = .stop n → a.cfg.kind = .pump → a.state = .running → a.cfg.min < a.command → a.cfg.min ≤ a.cfg.max →
      ∃ t, runs t ∧ waits t { accepted with waiting := some .stopProof } ∧
        t.actuators[n].state = .stopping .rampDown ∧ t.actuators[n].command = a.command ∧
        t.actuators[n].follow = none ∧ t.actuators[n].accumulator = 0 ∧
        t.actuators[n].ramp =
          some { target := a.cfg.min, rateStep := (taken v.toInt * 64 + 5) / 10, origin := .stop } ∧
        t.outputs[n].runOutput = true) ∧
    (op = .follow n → a.cfg.kind = .pump → a.state = .running → s.governor.mode ≠ .off →
      ∃ t, runs t ∧ completes t ∧ t.actuators[n].follow = some ((taken v.toInt * 64 + 5) / 10) ∧
        t.actuators[n].ramp = a.ramp ∧ t.actuators[n].command = a.command ∧ t.actuators[n].state = .running) ∧
    (∀ rate : Nat, op = .move n rate false → a.state = .running →
      let target := if v.toInt < a.cfg.min then a.cfg.min else if (a.cfg.max : Int) < v.toInt then a.cfg.max
        else v.toInt.toNat
      target ≠ a.command →
      ∃ t, runs t ∧ completes t ∧ t.actuators[n].follow = none ∧ t.actuators[n].accumulator = 0 ∧
        t.actuators[n].ramp =
          some { target := target, rateStep := (taken rate * 64 + 5) / 10, origin := .move } ∧
        t.actuators[n].command = a.command ∧ t.actuators[n].state = .running) ∧
    (∀ rate : Nat, op = .move n rate false → a.cfg.kind = .valve → a.state = .holding →
      let target := if v.toInt < a.cfg.min then a.cfg.min else if (a.cfg.max : Int) < v.toInt then a.cfg.max
        else v.toInt.toNat
      target ≠ a.command →
      (permits a s = true →
        ∃ t, runs t ∧ completes t ∧ t.actuators[n].accumulator = 0 ∧
          t.actuators[n].ramp =
            some { target := target, rateStep := (taken rate * 64 + 5) / 10, origin := .move } ∧
          t.actuators[n].command = a.command ∧ t.actuators[n].state = .moving) ∧
      (permits a s = false → a.cfg.tripScope = .self →
        ∃ t, runs t ∧ FaultTaken .permissiveLost n s t ∧
          waits t
            { accepted with
              state := .halted, currentAccepted := some true
              lastFailure := some { slot := k, reason := .faultedDuring, stage := .execution } } ∧
          flagSet q.master (.chainHalted g) t = true)) ∧
    (let refused := fun (reason : FailReason) =>
       ∃ t, runs t ∧ t.actuators[n] = a ∧
         waits t
           { accepted with
             state := .halted, stepCount := 0, retained := none, currentAccepted := some false
             lastFailure := some { slot := k, reason := reason, stage := .acceptance } } ∧
         flagSet q.master (.chainHalted g) t = true
     (op = .start n → v = 0 → a.cfg.kind = .pump → a.state = .stopped → permits a s = false → refused .permissive) ∧
     (∀ (rate : Nat) (wait : Bool), op = .move n rate wait → a.state = .faulted → refused .notAvailable))

/-- The validation walk (R72, R73). A reachable set that it finds fit holds the start slot, at most 32 slots and each once, only
slots that the chain can come to, that the requester wrote and that have no invalid form, every slot that a link of one of them
names, and no loop: along every link some number gets smaller. A refusal names a slot that the chain can come to, and says of it
what is so: its state, its invalid form, a link of it that leads back to it, or 33 distinct slots of which it is one. Along a path
of fit slots, each at the first link of the one before it, from the start slot on: where the last has no link and no slot of the
path a second one, the chain is fit and its slots are the path's; where its first link names a slot of the path, CHAIN_LOOP names
the last slot; and where it names another slot, that slot is refused by the first check it fails, CHAIN_TOO_LONG as the 33rd. -/
def Obligations.ValidationWalkSound : Prop :=
  ∀ (m : Master) (g : GroupId) (k : SlotId) (s : State),
    (∀ ks : List SlotId, reachable m g k s = .ok ks →
      k ∈ ks ∧ ks.length ≤ 32 ∧ ks.Nodup ∧
      (∀ j ∈ ks, Leads s k j ∧ s.slots[j].state = .written m ∧ invalidForm g s.slots[j].record s = false ∧
        ∀ l ∈ linksOf s.slots[j].record, l ∈ ks) ∧
      ∃ rank : SlotId → Nat, ∀ j ∈ ks, ∀ l ∈ linksOf s.slots[j].record, rank l < rank j) ∧
    (∀ (c : RefusalCode) (j : SlotId), reachable m g k s = .error (c, j) →
      Leads s k j ∧
      ((c = .chainTooLong ∧ ∃ js : List SlotId, js.Nodup ∧ js.length = 33 ∧ j ∈ js ∧ ∀ i ∈ js, Leads s k i) ∨
        (c = .unwrittenSlot ∧ s.slots[j].state = .free) ∨
        (c = .foreignSlot ∧ slotWriter s.slots[j].state = some m.other) ∨
        (c = .bound ∧ ∃ h, s.slots[j].state = .bound m h) ∨
        (c = .invalidForm ∧ s.slots[j].state = .written m ∧ invalidForm g s.slots[j].record s = true) ∨
        (c = .chainLoop ∧ ∃ l ∈ linksOf s.slots[j].record, Leads s l j))) ∧
    (∀ (path : List SlotId) (last : SlotId), FitPath m g path s → path.head? = some k → path.getLast? = some last →
      (linksOf s.slots[last].record = [] → (∀ j ∈ path, (linksOf s.slots[j].record).length ≤ 1) →
        ∃ ks, reachable m g k s = .ok ks ∧ ∀ j, j ∈ ks ↔ j ∈ path) ∧
      (∀ j : SlotId, (linksOf s.slots[last].record).head? = some j →
        (j ∈ path → reachable m g k s = .error (.chainLoop, last)) ∧
        (j ∉ path →
          (path.length = 32 → reachable m g k s = .error (.chainTooLong, j)) ∧
          (path.length < 32 →
            (s.slots[j].state = .free → reachable m g k s = .error (.unwrittenSlot, j)) ∧
            (slotWriter s.slots[j].state = some m.other → reachable m g k s = .error (.foreignSlot, j)) ∧
            (∀ h, s.slots[j].state = .bound m h → reachable m g k s = .error (.bound, j)) ∧
            (s.slots[j].state = .written m → invalidForm g s.slots[j].record s = true →
              reachable m g k s = .error (.invalidForm, j))))))

/-- The checks of the requests that need a group (R71, R94, R97) in their order, before any effect: the group's range, the
start slot's range, the action of a RESUME, the holding, the executor's state, the plant trip, the refusal of the validation walk
with the slot that it names (ValidationWalkSound), and for the start slot itself the checks of R73 that name it, its
invalid forms (R67) among them: a step on an actuator that is no member of the group, and
a START, STOP or FOLLOW on a valve. A refused request changes nothing but its port's record of the frame. -/
def Obligations.GroupRequestsRefused : Prop :=
  ∀ (q : Req) (group slot : Byte) (s : State), ListeningInTime q.master s →
    let u := acceptFrame q.master s
    (index? 5 group = none →
      exec (.runChain q group slot) s = .next (respond q 0x30 (u, .refuse .outOfRange [])) ∧
      exec (.cancelChain q group) s = .next (respond q 0x31 (u, .refuse .outOfRange [])) ∧
      exec (.resumeRetry q group) s = .next (respond q 0x32 (u, .refuse .outOfRange [])) ∧
      exec (.resumeSkip q group) s = .next (respond q 0x32 (u, .refuse .outOfRange []))) ∧
    (index? 128 slot = none →
      exec (.runChain q group slot) s = .next (respond q 0x30 (u, .refuse .outOfRange []))) ∧
    (∀ high low action : Byte, q.tag = join2 high low → 2 ≤ action.toNat →
      handleFrame q.master [0x32, high, low, group, action] s = respond q 0x32 (u, .refuse .outOfRange [])) ∧
    (∀ g, index? 5 group = some g → s.groupHolders[g] ≠ some q.master →
      (index? 128 slot ≠ none →
        exec (.runChain q group slot) s = .next (respond q 0x30 (u, .refuse .notHolder []))) ∧
      exec (.cancelChain q group) s = .next (respond q 0x31 (u, .refuse .notHolder [])) ∧
      exec (.resumeRetry q group) s = .next (respond q 0x32 (u, .refuse .notHolder [])) ∧
      exec (.resumeSkip q group) s = .next (respond q 0x32 (u, .refuse .notHolder []))) ∧
    (∀ g, index? 5 group = some g → s.groupHolders[g] = some q.master →
      (s.executors[g].state = .idle →
        exec (.cancelChain q group) s = .next (respond q 0x31 (u, .refuse .wrongState []))) ∧
      (s.executors[g].state ≠ .halted →
        exec (.resumeRetry q group) s = .next (respond q 0x32 (u, .refuse .wrongState [])) ∧
        exec (.resumeSkip q group) s = .next (respond q 0x32 (u, .refuse .wrongState []))) ∧
      (∀ k, index? 128 slot = some k →
        (s.executors[g].state ≠ .idle →
          exec (.runChain q group slot) s = .next (respond q 0x30 (u, .refuse .busy []))) ∧
        (s.executors[g].state = .idle → s.ptrip.asserted = true →
          exec (.runChain q group slot) s = .next (respond q 0x30 (u, .refuse .tripActive []))) ∧
        (s.executors[g].state = .idle → s.ptrip.asserted = false →
          (∀ (c : RefusalCode) (j : SlotId), reachable q.master g k s = .error (c, j) →
            exec (.runChain q group slot) s = .next (respond q 0x30 (u, .refuse c [BitVec.ofNat 8 j.val]))) ∧
          (s.slots[k].state = .free →
            exec (.runChain q group slot) s = .next (respond q 0x30 (u, .refuse .unwrittenSlot [slot]))) ∧
          (slotWriter s.slots[k].state = some q.master.other →
            exec (.runChain q group slot) s = .next (respond q 0x30 (u, .refuse .foreignSlot [slot]))) ∧
          (∀ h, s.slots[k].state = .bound q.master h →
            exec (.runChain q group slot) s = .next (respond q 0x30 (u, .refuse .bound [slot]))) ∧
          (s.slots[k].state = .written q.master → invalidForm g s.slots[k].record s = true →
            exec (.runChain q group slot) s = .next (respond q 0x30 (u, .refuse .invalidForm [slot]))) ∧
          (∀ n, s.slots[k].state = .written q.master → s.slots[k].record.op.actuator = some n →
            (s.actuators[n].cfg.kind = .none ∨ s.actuators[n].cfg.group ≠ some g ∨
              (s.actuators[n].cfg.kind = .valve ∧
                (s.slots[k].record.op = .start n ∨ s.slots[k].record.op = .stop n ∨ s.slots[k].record.op = .follow n))) →
            exec (.runChain q group slot) s = .next (respond q 0x30 (u, .refuse .invalidForm [slot]))) ∧
          (s.slots[k].state = .written q.master → invalidForm g s.slots[k].record s = false →
            s.slots[k].record.next = some k →
            exec (.runChain q group slot) s = .next (respond q 0x30 (u, .refuse .chainLoop [slot]))))))

/-- Refusals of the requests that need no group: an empty set or one with bit 6 or 7 is refused OUT_OF_RANGE by CLAIM and
RELEASE (R104, R184); a requester that does not hold GOV is refused NOT_HOLDER by GOVERNOR MODE with any argument, CONFIGURE
STATION and STATION LINE SETTINGS (R128, R129, R145, R147), and its holder OUT_OF_RANGE for a mode that is neither ON nor OFF,
a station entry or configuration out of range and a station baud out of range; SET DEBOUNCE is refused for an input above 23
(R166) and CONFIGURE CAPTURE for a channel or a configuration out of range (R161). A refused request changes nothing.
For the requests that claims bear on the silence timer of their master has not run out (R113). -/
def Obligations.RequestsRefusedByRange : Prop :=
  ∀ (q : Req) (s : State), Listening q.master s →
    let u := acceptFrame q.master s
    let inTime : Prop := (port q.master s).silenceTimer ≠ some 0
    let refused := fun (i : Instr) (code : Byte) (c : RefusalCode) =>
      exec i s = .next (respond q code (u, .refuse c []))
    (∀ set : Byte, set.toNat = 0 ∨ 64 ≤ set.toNat → inTime →
      refused (.claim q set) 0x10 .outOfRange ∧ refused (.release q set) 0x11 .outOfRange) ∧
    (inTime → s.govHolder ≠ some q.master →
      refused (.governorModeOn q) 0x61 .notHolder ∧ refused (.governorModeOff q) 0x61 .notHolder ∧
      (∀ high low mode : Byte, q.tag = join2 high low → 2 ≤ mode.toNat →
        handleFrame q.master [0x61, high, low, mode] s = respond q 0x61 (u, .refuse .notHolder [])) ∧
      (∀ r, refused (.configureStation q r) 0x64 .notHolder) ∧
      (∀ baud, refused (.stationLineSettings q baud) 0x66 .notHolder)) ∧
    (inTime → s.govHolder = some q.master →
      (∀ high low mode : Byte, q.tag = join2 high low → 2 ≤ mode.toNat →
        handleFrame q.master [0x61, high, low, mode] s = respond q 0x61 (u, .refuse .outOfRange [])) ∧
      (∀ r : RawStation,
        8 ≤ r.entry.toNat ∨ 2 ≤ r.enabled.toNat ∨ r.address.toNat = 0 ∨ 247 < r.address.toNat ∨
          10000 < r.setpoint.toNat ∨ r.staleTime.toNat = 0 ∨ 60 < r.staleTime.toNat →
        refused (.configureStation q r) 0x64 .outOfRange) ∧
      (∀ baud : Half, baud.toNat < 1200 ∨ 38400 < baud.toNat →
        refused (.stationLineSettings q baud) 0x66 .outOfRange)) ∧
    (∀ input time : Byte, 24 ≤ input.toNat → refused (.setDebounce q input time) 0x53 .outOfRange) ∧
    (∀ r : RawCapture,
      16 ≤ r.channel.toNat ∨ 3 ≤ r.mode.toNat ∨ (r.prescale ≠ 1 ∧ r.prescale ≠ 4 ∧ r.prescale ≠ 16) ∨
        r.timeout.toNat = 0 ∨ 160 < r.timeout.toNat →
      refused (.configureCapture q r) 0x51 .outOfRange)

/-- The timers of steps: the expiry of a DWELL's timer completes it, and at END the chain ends COMPLETE with no ramp removed
(R85, R90, R98), while with a next the chain goes on to that slot in the same event, here to a DWELL, which is accepted, counted
and waits in its turn (R76, R78, R90); the expiry of an AWAIT's timer fails the step with TIMEOUT at stage EXECUTION (R86, R87,
R91), and its on-fail is HALT, which halts the executor on the slot as accepted and tells the holder (R93), or ABORT, or
CONTINUE at END, which end the chain FAILED, or CONTINUE with a next or BRANCH, which go on to the next or the alt slot with the
failure recorded (R92). -/
def Obligations.StepTimerExpiries : Prop :=
  ∀ (g : GroupId) (k : SlotId) (s : State),
    s.executors[g].state = .active → s.executors[g].timer = some 0 → s.executors[g].current = some k →
    let x := s.executors[g]
    let d := s.slots[k].record
    let failed : Executor :=
      { x with lastFailure := some { slot := k, reason := .timeout, stage := .execution }, waiting := none, timer := none }
    (x.waiting = some .timer → d.next = none →
      ∃ t, exec (.dwellExpiry g) s = .next t ∧ t.executors = put s.executors g (Ended .complete x) ∧
        t.actuators = s.actuators ∧ t.outputs = s.outputs ∧
        (∀ j : SlotId, t.slots[j] = Unbound (fun h => h == g) s.slots[j]) ∧
        (∀ m, x.starter = some m → flagSet m (.chainEnd g) t = true)) ∧
    (x.waiting = some .timer → ∀ j v, d.next = some j → DwellAt j v s →
      exec (.dwellExpiry g) s = .next { s with executors := put s.executors g (EnteredDwell j v x) }) ∧
    (x.waiting = some .input ∨ x.waiting = some .measurement →
      (d.onFail = .halt → ∀ m, s.groupHolders[g] = some m →
        exec (.awaitTimeout g) s =
          .next (setFlag m (.chainHalted g)
            { s with
              executors := put s.executors g { failed with state := .halted, currentAccepted := some true } })) ∧
      (d.onFail = .abort ∨ (d.onFail = .continue ∧ d.next = none) →
        ∃ t, exec (.awaitTimeout g) s = .next t ∧ t.executors = put s.executors g (Ended .failed failed) ∧
          (∀ j : SlotId, t.slots[j] = Unbound (fun h => h == g) s.slots[j]) ∧
          (∀ m, x.starter = some m → flagSet m (.chainEnd g) t = true)) ∧
      (∀ j v, d.onFail = .branch (some j) ∨ (d.onFail = .continue ∧ d.next = some j) → DwellAt j v s →
        exec (.awaitTimeout g) s = .next { s with executors := put s.executors g (EnteredDwell j v failed) }))

/-- RESUME (R94, R95, R96) on a halted chain: SKIP at END ends the chain COMPLETE with its last failure kept, and with a next
goes on to that slot, here to a DWELL, which is accepted and counted; RETRY of an
AWAIT_MEAS that had been accepted starts its timer again with the full timeout, fetches nothing and does not count the step
again; RETRY of a START or a MOVE that failed at acceptance takes it anew, with its checks, its fetch and its count, so that a
pump now STOPPED is STARTING and the step waits for RUN_PROOF, and a RUNNING pump gets its ramp and the step waits for
LANDING. -/
def Obligations.ResumeOfHaltedChain : Prop :=
  ∀ (q : Req) (group : Byte) (g : GroupId) (k : SlotId) (s : State), ListeningInTime q.master s →
    index? 5 group = some g → s.groupHolders[g] = some q.master → s.executors[g].state = .halted →
    s.executors[g].current = some k →
    let u := acceptFrame q.master s
    let x := s.executors[g]
    (s.slots[k].record.next = none →
      ∃ t, exec (.resumeSkip q group) s = .next (respond q 0x32 (t, .ok [])) ∧
        t.executors = put s.executors g (Ended .complete x) ∧ t.actuators = s.actuators ∧
        (∀ j : SlotId, t.slots[j] = Unbound (fun h => h == g) s.slots[j])) ∧
    (∀ j v, s.slots[k].record.next = some j → DwellAt j v s →
      exec (.resumeSkip q group) s =
        .next (respond q 0x32 ({ u with executors := put u.executors g (EnteredDwell j v x) }, .ok []))) ∧
    (∀ (c : CaptureId) (rel : Relation) (time : Nat) (r : Retained),
      s.slots[k].record.op = .awaitMeas c rel time → x.currentAccepted = some true → x.retained = some r →
      exec (.resumeRetry q group) s =
        .next (respond q 0x32
          ({ u with
              executors := put u.executors g
                { x with
                  state := .active, currentAccepted := none, waiting := some .measurement,
                  timer := some (time * 1000000) } },
            .ok []))) ∧
    (∀ (n : ActId) (v : Half), x.currentAccepted = some false → memberOf g s.actuators[n] = true →
      s.slots[k].record.operand = .imm v → s.slots[k].record.pair = false → s.actuators[n].cfg.kind = .pump →
      let a := s.actuators[n]
      let anew := fun (w : Waiting) (t : State) =>
        exec (.resumeRetry q group) s = .next (respond q 0x32 (t, .ok [])) ∧ t.slots = s.slots ∧
        t.executors = put s.executors g
          { x with
            state := .active, currentAccepted := none, waiting := some w, timer := none
            stepCount := x.stepCount + 1, retained := some { first := v, second := none, row := none } } ∧
        ∀ j, j ≠ n → t.actuators[j] = s.actuators[j] ∧ t.outputs[j] = s.outputs[j]
      (s.slots[k].record.op = .start n → a.state = .stopped → permits a s = true →
        (∀ d, a.cfg.proofInput = some d → s.inputs[d].filtered = false) →
        ∃ t, anew .runProof t ∧ t.actuators[n].state = .starting ∧ t.actuators[n].command = a.cfg.min ∧
          t.actuators[n].proofTimer = some (a.cfg.proofTimeout.getD 0 * 1000000)) ∧
      (∀ rate : Nat, s.slots[k].record.op = .move n rate true → a.state = .running →
        let target := if v.toInt < a.cfg.min then a.cfg.min else if (a.cfg.max : Int) < v.toInt then a.cfg.max
          else v.toInt.toNat
        target ≠ a.command →
        ∃ t, anew .landing t ∧ t.actuators[n].state = .running ∧ t.actuators[n].command = a.command ∧
          (t.actuators[n].ramp.map Ramp.target) = some target ∧
          (t.actuators[n].ramp.map Ramp.origin) = some .move))

/-- A waiting step and the report it waits for (R25, R81 to R83, R86, R87, R90, R91). A MOVE completes at its landing, or where
its feedback is not within the tolerance goes on to wait for it, and completes at a feedback that is; a START completes when
it is proven and a STOP when its proof drops; an AWAIT_INPUT completes at the change it names and an AWAIT_MEAS at a completed
measurement on the side it names. A step that completes at END ends its chain COMPLETE, and one with a next goes on to it,
here to a DWELL. A fault of the actuator fails the step at stage EXECUTION, with PROOF_FAIL or STOP_FAIL at the expiry of its
proof timer, and with FAULTED_DURING at a deviation; its on-fail halts the chain, goes on to the alt slot of BRANCH or the next
of CONTINUE, or ends the chain FAILED (R92, R93). That this is so also at a valve whose safe action GO lands at once,
the fault's report handed before the landing's, is the model's choice (log entry 15). -/
def Obligations.WaitingStepsTakeReports : Prop :=
  ∀ (g : GroupId) (k : SlotId) (n : ActId) (s : State),
    s.executors[g].state = .active → s.executors[g].current = some k →
    let x := s.executors[g]
    let record := s.slots[k].record
    let a := s.actuators[n]
    let completed := fun (t : State) =>
      (record.next = none →
        t.executors = put s.executors g (Ended .complete x) ∧
        (∀ j : SlotId, t.slots[j] = Unbound (fun h => h == g) s.slots[j]) ∧
        (∀ m, x.starter = some m → flagSet m (.chainEnd g) t = true)) ∧
      (∀ j v, record.next = some j → DwellAt j v s →
        t.slots = s.slots ∧ t.executors = put s.executors g (EnteredDwell j v x))
    (record.next = none ∨ (∃ j v, record.next = some j ∧ DwellAt j v s) →
      (∀ (rate : Nat) (r : Ramp) (v : Retained), record.op = .move n rate true → x.waiting = some .landing →
        a.cfg.group = some g → x.retained = some v → a.ramp = some r →
        distance r.target a.command ≤ (a.accumulator + r.rateStep) / 64 →
        (a.cfg.feedback = none →
          ∃ t, exec (.slewExpiry n) s = .next t ∧ completed t ∧ t.actuators[n].command = r.target) ∧
        (∀ f w, a.cfg.feedback = some f → a.feedback = some w →
          (w.status = .noSignal ∨ f.tolerance < distance w.value (clampTarget a v.first.toInt) →
            ∃ t, exec (.slewExpiry n) s = .next t ∧
              t.executors = put s.executors g { x with waiting := some .feedback, timer := none } ∧
              t.slots = s.slots ∧ t.actuators[n].command = r.target) ∧
          (w.status ≠ .noSignal → distance w.value (clampTarget a v.first.toInt) ≤ f.tolerance →
            ∃ t, exec (.slewExpiry n) s = .next t ∧ completed t))) ∧
      (∀ (rate seen : Nat) (start stamp : Stamp) (v : Retained) (f : FeedbackConfig),
        record.op = .move n rate true → x.waiting = some .feedback → a.cfg.group = some g → x.retained = some v →
        a.cfg.feedback = some f →
        reportTakers f.channel true s = [.actuator n] →
        let y := s.captures[f.channel]
        y.mode = .frequency → y.sample = false → y.edge ≠ some stamp → y.phase = .counting seen start →
        y.prescale = seen + 1 → 2 * y.prescale ≤ (stamp.toNat + 16777216 - start.toNat) % 16777216 →
        ∃ t, exec (.frequencyMeasurement f.channel stamp) s = .next t ∧
          let w : Feedback :=
            { value := if 10000 < t.captures[f.channel].value then 10000 else t.captures[f.channel].value
              status := t.captures[f.channel].status }
          t.actuators[n].feedback = some w ∧
          (a.feedback ≠ some w → distance w.value (clampTarget a v.first.toInt) ≤ f.tolerance → completed t) ∧
          (f.tolerance < distance w.value (clampTarget a v.first.toInt) → t.executors = s.executors)) ∧
      (∀ d : InputId, record.op = .start n → x.waiting = some .runProof → a.state = .starting →
        a.cfg.group = some g → s.inputs[d].filtered = false → inputUses d true s = [.proof n] →
        ∃ t, exec (.discreteInputChange d true) s = .next t ∧ completed t ∧ t.actuators[n].state = .running) ∧
      (∀ d : InputId, record.op = .stop n → x.waiting = some .stopProof → a.state = .stopping .dropWait →
        a.cfg.group = some g → s.inputs[d].filtered = true → inputUses d false s = [.proof n] →
        ∃ t, exec (.discreteInputChange d false) s = .next t ∧ completed t ∧ t.actuators[n].state = .stopped ∧
          t.actuators[n].command = 0) ∧
      (∀ (d : InputId) (level : Bool) (time : Nat), record.op = .awaitInput d level time → x.waiting = some .input →
        s.inputs[d].filtered = !level → inputUses d level s = [.wait g] →
        ∃ t, exec (.discreteInputChange d level) s = .next t ∧ completed t ∧ t.actuators = s.actuators) ∧
      (∀ (c : CaptureId) (rel : Relation) (time seen : Nat) (start stamp : Stamp) (v : Retained),
        record.op = .awaitMeas c rel time → x.waiting = some .measurement → x.retained = some v →
        reportTakers c true s = [.executor g] →
        let y := s.captures[c]
        y.mode = .frequency → y.sample = false → y.edge ≠ some stamp → y.phase = .counting seen start →
        y.prescale = seen + 1 → 2 * y.prescale ≤ (stamp.toNat + 16777216 - start.toNat) % 16777216 →
        ∃ t, exec (.frequencyMeasurement c stamp) s = .next t ∧
          let value : Int := t.captures[c].value
          ((rel = .above ∧ v.first.toInt < value) ∨ (rel = .below ∧ value < v.first.toInt) → completed t) ∧
          ((rel = .above ∧ value ≤ v.first.toInt) ∨ (rel = .below ∧ v.first.toInt ≤ value) →
            t.executors = s.executors))) ∧
    (a.cfg.tripScope = .self → a.cfg.group = some g →
      let fails := fun (leaves : Executor → State → Prop) (c : Instr) (code : FaultCode) (reason : FailReason) =>
        ∃ t, exec c s = .next t ∧ t.actuators[n].state = .faulted ∧ t.actuators[n].fault = code ∧
          leaves
            { x with
              waiting := none, timer := none
              lastFailure := some { slot := k, reason := reason, stage := .execution } } t
      let everyFault := fun (leaves : Executor → State → Prop) =>
        (record.op = .start n → x.waiting = some .runProof → a.state = .starting → a.proofTimer = some 0 →
          fails leaves (.proofTimerExpiry n) .proofFail .proofFail) ∧
        (record.op = .stop n → x.waiting = some .stopProof → a.state = .stopping .dropWait → a.proofTimer = some 0 →
          fails leaves (.proofTimerExpiry n) .stopFail .stopFail) ∧
        (∀ rate : Nat, record.op = .move n rate true → x.waiting = some .landing ∨ x.waiting = some .feedback →
          healthy a = true → a.deviationTimer = some 0 →
          fails leaves (.deviationTimerExpiry n) .deviation .faultedDuring)
      (∀ m, record.onFail = .halt → s.groupHolders[g] = some m →
        everyFault fun failed t =>
          t.slots = s.slots ∧ flagSet m (.chainHalted g) t = true ∧
          t.executors = put s.executors g { failed with state := .halted, currentAccepted := some true }) ∧
      (∀ j v, record.onFail = .branch (some j) ∨ (record.onFail = .continue ∧ record.next = some j) → DwellAt j v s →
        everyFault fun failed t =>
          t.slots = s.slots ∧ t.executors = put s.executors g (EnteredDwell j v failed)) ∧
      (record.onFail = .abort ∨ (record.onFail = .continue ∧ record.next = none) →
        everyFault fun failed t =>
          t.executors = put s.executors g (Ended .failed failed) ∧
          (∀ j : SlotId, t.slots[j] = Unbound (fun h => h == g) s.slots[j]) ∧
          (∀ m, x.starter = some m → flagSet m (.chainEnd g) t = true)))

/-! ### Actuators -/

/-- CONFIGURE ACTUATOR accepted (R4, R5, R44, R150): the whole configuration record is replaced, the actuator stays
OUT_OF_SERVICE at command 0, its feedback is taken at once from the channel the record names, the channel holds the period as
pending with the polarity at once and recomputes its pending duty, and no other entry or channel changes. A record of kind
NONE gives the power-on values of R3. -/
def Obligations.ConfigureActuatorAccepted : Prop :=
  ∀ (q : Req) (r : RawActuator) (n : ActId) (w : ActWrite) (s : State), ListeningInTime q.master s →
    index? 16 r.number = some n → (∀ g, s.actuators[n].cfg.group = some g → s.groupHolders[g] = some q.master) →
    (r.kind ≠ 0 → ∃ g, index? 5 r.group = some g ∧ s.groupHolders[g] = some q.master) →
    s.actuators[n].state = .outOfService →
    (s.actuators[n].cfg.group = newGroup r ∨
      ∀ g, s.actuators[n].cfg.group = some g ∨ newGroup r = some g → s.executors[g].state = .idle) →
    actWrite? r = some w →
    (∃ t, exec (.configureActuator q r) s = .next (respond q 0x40 (t, .ok [])) ∧
      t.actuators[n].cfg = w.cfg ∧ t.actuators[n].state = .outOfService ∧
      t.actuators[n].command = s.actuators[n].command ∧
      t.actuators[n].feedback =
        w.cfg.feedback.map (fun f =>
          { value := if 10000 < s.captures[f.channel].value then 10000 else s.captures[f.channel].value
            status := s.captures[f.channel].status }) ∧
      t.outputs[n].pendingPeriod = some w.period ∧ t.outputs[n].activePeriod = s.outputs[n].activePeriod ∧
      t.outputs[n].pendingDuty = (s.actuators[n].command * w.period + 5000) / 10000 ∧
      t.outputs[n].polarity = w.polarity ∧ t.outputs[n].condition = .released ∧ OnlyActuator n s t) ∧
    (r.kind = 0 → w = { cfg := ActConfig.powerOn, period := 1000, polarity := .activeHigh })

/-- What READ ACTUATOR CONFIGURATION and READ DESCRIPTOR answer of an accepted record is a record that would be accepted again
as the same one (R189, R190): reading back the bytes of the stored record gives the stored record. -/
def Obligations.RecordsReadBackAsStored : Prop :=
  (∀ (r r' : RawDescriptor) (d : Descriptor), descriptor? r = some d → rawDescriptorBytes r' = descriptorBytes d →
    descriptor? r' = some d) ∧
  (∀ (r r' : RawActuator) (w : ActWrite) (n : ActId) (o : OutputChannel), actWrite? r = some w →
    rawActuatorBytes r' = configBytes n w.cfg { o with pendingPeriod := some w.period, polarity := w.polarity } →
    actWrite? r' = some w)

/-- SET SERVICE IN accepted (R11): a pump whose proof input reads not-running becomes STOPPED with command 0; a valve becomes
HOLDING at its feedback clamped to its limits, or at min without feedback; its output channel is driven, inactive until the
next period end (R150), and nothing else of the plant changes. SET SERVICE OUT accepted (R12) and CLEAR FAULT accepted (R26):
service exit gives OUT_OF_SERVICE with command 0, no ramp, no fault, no timers and the channel released, and keeps the command
at fault; CLEAR FAULT gives a STOPPED pump at command 0, or a HOLDING valve at its feedback where that is OK and else at its
command, clamped; it keeps the command at fault and drives the channel. Service entry and CLEAR FAULT start the
deviation timer where
the feedback already differs by more than the tolerance, and CLEAR FAULT the feedback-lost timer at NO_SIGNAL (R19, R20). -/
def Obligations.ServiceEntryExitAndClearFault : Prop :=
  (∀ (q : Req) (actuator : Byte) (n : ActId) (g : GroupId) (s : State), ListeningInTime q.master s →
     index? 16 actuator = some n → s.actuators[n].cfg.group = some g → s.groupHolders[g] = some q.master →
     s.ptrip.asserted = false → s.actuators[n].state = .outOfService →
     let a := s.actuators[n]
     (a.cfg.feedback = none ∨ ∃ f, a.feedback = some f ∧ f.status = .ok) →
     let entered := fun (t : State) (state : Service) (command : Nat) =>
       exec (.setServiceIn q actuator) s = .next (respond q 0x41 (t, .ok [])) ∧
       t.actuators[n].state = state ∧ t.actuators[n].command = command ∧ t.actuators[n].fault = .none ∧
       t.actuators[n].furtherFault = false ∧ t.actuators[n].accumulator = 0 ∧ t.actuators[n].cfg = a.cfg ∧
       t.outputs[n].condition = .driven ∧ (s.outputs[n].condition = .released → t.outputs[n].held = true) ∧
       t.outputs[n].pendingDuty = dutyOf command (nextPeriod s.outputs[n]) ∧ t.outputs[n].runOutput = false ∧
       Supervised a t.actuators[n] ∧ OnlyActuator n s t
     (a.cfg.kind = .pump → (∀ d, a.cfg.proofInput = some d → s.inputs[d].filtered = false) → ∃ t, entered t .stopped 0) ∧
     (a.cfg.kind = .valve →
       (∀ c f, a.cfg.feedback = some c → a.feedback = some f →
         ∃ t, entered t .holding
           (if f.value < a.cfg.min then a.cfg.min else if a.cfg.max < f.value then a.cfg.max else f.value)) ∧
       (a.cfg.feedback = none → ∃ t, entered t .holding a.cfg.min))) ∧
  (∀ (q : Req) (actuator : Byte) (n : ActId) (g : GroupId) (s : State), ListeningInTime q.master s →
     index? 16 actuator = some n → s.actuators[n].cfg.group = some g →
     let a := s.actuators[n]
     (s.groupHolders[g] = some q.master → s.executors[g].state = .idle →
       (a.cfg.kind = .pump ∧ (a.state = .stopped ∨ a.state = .faulted)) ∨
         (a.cfg.kind = .valve ∧ (a.state = .holding ∨ a.state = .faulted)) →
       ∃ t, exec (.setServiceOut q actuator) s = .next (respond q 0x42 (t, .ok [])) ∧
         t.actuators[n] =
           { a with
             state := .outOfService, command := 0, ramp := none, accumulator := 0, follow := none, fault := .none,
             furtherFault := false, proofTimer := none, deviationTimer := none, lostTimer := none } ∧
         t.outputs[n].condition = .released ∧ t.outputs[n].runOutput = false ∧
         t.outputs[n].pendingDuty = dutyOf 0 (nextPeriod s.outputs[n]) ∧ OnlyActuator n s t) ∧
     (s.groupHolders[g] = some q.master ∨ s.groupHolders[g] = none → s.ptrip.asserted = false → a.state = .faulted →
       let cleared := fun (t : State) (state : Service) (command : Nat) =>
         exec (.clearFault q actuator) s = .next (respond q 0x43 (t, .ok [])) ∧
         t.actuators[n].state = state ∧ t.actuators[n].command = command ∧ t.actuators[n].ramp = none ∧
         t.actuators[n].fault = .none ∧ t.actuators[n].furtherFault = false ∧
         t.actuators[n].commandAtFault = a.commandAtFault ∧ t.actuators[n].cfg = a.cfg ∧
         t.outputs[n].condition = .driven ∧ (s.outputs[n].condition = .released → t.outputs[n].held = true) ∧
         t.outputs[n].runOutput = false ∧ Supervised a t.actuators[n] ∧ OnlyActuator n s t
       (a.cfg.kind = .pump → (∀ d, a.cfg.proofInput = some d → s.inputs[d].filtered = false) →
         ∃ t, cleared t .stopped 0) ∧
       (a.cfg.kind = .valve →
         let from_ := if a.cfg.feedback.isSome = true ∧ a.feedback.map Feedback.status = some .ok then
             (a.feedback.map Feedback.value).getD 0
           else a.command
         ∃ t, cleared t .holding
           (if from_ < a.cfg.min then a.cfg.min else if a.cfg.max < from_ then a.cfg.max else from_))))

/-- The checks of ACT's requests (R4, R11, R12, R26, R29, R109): a number above 15 is refused OUT_OF_RANGE; an actuator of kind
NONE WRONG_STATE; a requester that does not hold the actuator's group NOT_HOLDER, but for CLEAR FAULT where the group has no
holder; while PTRIP is asserted SET SERVICE IN and CLEAR FAULT are refused TRIP_ACTIVE; a wrong state is refused WRONG_STATE;
a service entry at a running proof or at feedback that is not OK NOT_PRESENT; a service exit under a chain BUSY, and a
configuration that moves the actuator between groups of which one runs a chain, from and to kind NONE included; a
configuration out of range OUT_OF_RANGE; a configuration needs the holding of the present group and of the new one, of which an
entry, or a record, of kind NONE has none; and a refused request changes nothing. The model's choice (log entry 14): a group code
that is no group is NOT_HOLDER, and a kind code above 2, or a valve without a safe action, is OUT_OF_RANGE after the other
checks. -/
def Obligations.ActuatorRequestsRefused : Prop :=
  (∀ (q : Req) (actuator : Byte) (s : State), ListeningInTime q.master s → 16 ≤ actuator.toNat →
     let u := acceptFrame q.master s
     exec (.setServiceIn q actuator) s = .next (respond q 0x41 (u, .refuse .outOfRange [])) ∧
     exec (.setServiceOut q actuator) s = .next (respond q 0x42 (u, .refuse .outOfRange [])) ∧
     exec (.clearFault q actuator) s = .next (respond q 0x43 (u, .refuse .outOfRange [])) ∧
     ∀ r : RawActuator, r.number = actuator →
       exec (.configureActuator q r) s = .next (respond q 0x40 (u, .refuse .outOfRange []))) ∧
  (∀ (q : Req) (actuator : Byte) (n : ActId) (s : State), ListeningInTime q.master s → index? 16 actuator = some n →
     s.actuators[n].cfg.kind = .none →
     let u := acceptFrame q.master s
     exec (.setServiceIn q actuator) s = .next (respond q 0x41 (u, .refuse .wrongState [])) ∧
     exec (.setServiceOut q actuator) s = .next (respond q 0x42 (u, .refuse .wrongState [])) ∧
     (s.actuators[n].cfg.group = none → s.actuators[n].state = .outOfService → s.ptrip.asserted = false →
       exec (.clearFault q actuator) s = .next (respond q 0x43 (u, .refuse .wrongState [])))) ∧
  (∀ (q : Req) (r : RawActuator) (n : ActId) (s : State), ListeningInTime q.master s → index? 16 r.number = some n →
     s.actuators[n].cfg.kind = .none → s.actuators[n].cfg.group = none →
     let refused := fun (c : RefusalCode) =>
       exec (.configureActuator q r) s = .next (respond q 0x40 (acceptFrame q.master s, .refuse c []))
     (r.kind ≠ 0 → (∀ h, index? 5 r.group = some h → s.groupHolders[h] ≠ some q.master) → refused .notHolder) ∧
     ((r.kind ≠ 0 → ∃ h, index? 5 r.group = some h ∧ s.groupHolders[h] = some q.master) →
       (s.actuators[n].state ≠ .outOfService → refused .wrongState) ∧
       (s.actuators[n].state = .outOfService →
         ((∃ h, newGroup r = some h ∧ s.executors[h].state ≠ .idle) → refused .busy) ∧
         ((∀ h, newGroup r = some h → s.executors[h].state = .idle) → actWrite? r = none → refused .outOfRange)))) ∧
  (∀ (q : Req) (actuator : Byte) (n : ActId) (g : GroupId) (s : State), ListeningInTime q.master s →
     index? 16 actuator = some n → s.actuators[n].cfg.group = some g → s.actuators[n].cfg.kind ≠ .none →
     let u := acceptFrame q.master s
     let a := s.actuators[n]
     (s.groupHolders[g] ≠ some q.master →
       exec (.setServiceIn q actuator) s = .next (respond q 0x41 (u, .refuse .notHolder [])) ∧
       exec (.setServiceOut q actuator) s = .next (respond q 0x42 (u, .refuse .notHolder [])) ∧
       (∀ r : RawActuator, r.number = actuator →
         exec (.configureActuator q r) s = .next (respond q 0x40 (u, .refuse .notHolder []))) ∧
       (s.groupHolders[g] = some q.master.other →
         exec (.clearFault q actuator) s = .next (respond q 0x43 (u, .refuse .notHolder [])))) ∧
     (s.groupHolders[g] = some q.master →
       (s.ptrip.asserted = true →
         exec (.setServiceIn q actuator) s = .next (respond q 0x41 (u, .refuse .tripActive [])) ∧
         exec (.clearFault q actuator) s = .next (respond q 0x43 (u, .refuse .tripActive []))) ∧
       (s.ptrip.asserted = false → a.state ≠ .outOfService →
         exec (.setServiceIn q actuator) s = .next (respond q 0x41 (u, .refuse .wrongState []))) ∧
       (s.ptrip.asserted = false → a.state ≠ .faulted →
         exec (.clearFault q actuator) s = .next (respond q 0x43 (u, .refuse .wrongState []))) ∧
       (s.executors[g].state ≠ .idle →
         exec (.setServiceOut q actuator) s = .next (respond q 0x42 (u, .refuse .busy []))) ∧
       (s.executors[g].state = .idle → a.state ≠ .faulted →
         (a.cfg.kind = .pump ∧ a.state ≠ .stopped) ∨ (a.cfg.kind = .valve ∧ a.state ≠ .holding) →
         exec (.setServiceOut q actuator) s = .next (respond q 0x42 (u, .refuse .wrongState []))) ∧
       (a.cfg.kind = .pump → (∃ d, a.cfg.proofInput = some d ∧ s.inputs[d].filtered = true) →
         s.ptrip.asserted = false →
         (a.state = .outOfService →
           exec (.setServiceIn q actuator) s = .next (respond q 0x41 (u, .refuse .notPresent []))) ∧
         (a.state = .faulted →
           exec (.clearFault q actuator) s = .next (respond q 0x43 (u, .refuse .wrongState [])))) ∧
       (s.ptrip.asserted = false → a.state = .outOfService → a.cfg.feedback ≠ none →
         (∀ f, a.feedback = some f → f.status ≠ .ok) →
         exec (.setServiceIn q actuator) s = .next (respond q 0x41 (u, .refuse .notPresent []))) ∧
       (∀ r : RawActuator, r.number = actuator → r.kind ≠ 0 →
         (∀ h, index? 5 r.group = some h → s.groupHolders[h] ≠ some q.master) →
         exec (.configureActuator q r) s = .next (respond q 0x40 (u, .refuse .notHolder []))) ∧
       (∀ r : RawActuator, r.number = actuator →
         (r.kind ≠ 0 → ∃ h, index? 5 r.group = some h ∧ s.groupHolders[h] = some q.master) →
         (a.state ≠ .outOfService →
           exec (.configureActuator q r) s = .next (respond q 0x40 (u, .refuse .wrongState []))) ∧
         (a.state = .outOfService → newGroup r ≠ some g →
           (s.executors[g].state ≠ .idle ∨ ∃ h, newGroup r = some h ∧ s.executors[h].state ≠ .idle) →
           exec (.configureActuator q r) s = .next (respond q 0x40 (u, .refuse .busy []))) ∧
         (a.state = .outOfService →
           newGroup r = some g ∨ (s.executors[g].state = .idle ∧ ∀ h, newGroup r = some h → s.executors[h].state = .idle) →
           actWrite? r = none →
           exec (.configureActuator q r) s = .next (respond q 0x40 (u, .refuse .outOfRange []))))))

/-- A slew expiry (R32, R35, R36, R43): without a ramp the timer restarts and nothing else changes. With a ramp, the
accumulator takes the rate
step, the command moves by its whole units toward the target and the remainder is kept; where the distance left is no more
than those units and no executor waits for the landing, the command is the target and the ramp is gone. A step of
the command starts the deviation timer, lets it go on or makes it absent by the distance of the feedback (R19); the rest of the
entry stays. The channel's
pending duty follows the command, and no other entry changes. A period end (R43, R44, R149): the pending period, where one
is held, and the pending duty become active together, a new period begins, and the line of a channel driven again is held no
longer (R150); nothing else changes. The line of a channel is at its active level, by its polarity, in the counts of a period
before the active duty of a DRIVEN channel that is not so held, and at the inactive level in all others. -/
def Obligations.SlewExpiryAndPeriodEnd : Prop :=
  (∀ (n : ActId) (s : State),
     let a := s.actuators[n]
     (a.ramp = none →
       exec (.slewExpiry n) s = .next { s with actuators := put s.actuators n { a with slewTimer := 100000 } }) ∧
     (∀ r, a.ramp = some r →
       let w := (a.accumulator + r.rateStep) / 64
       let left := if a.command < r.target then r.target - a.command else a.command - r.target
       (w < left →
         ∃ t, exec (.slewExpiry n) s = .next t ∧
           t.actuators[n] =
             { a with
               slewTimer := 100000, command := if a.command < r.target then a.command + w else a.command - w
               accumulator := (a.accumulator + r.rateStep) % 64, deviationTimer := t.actuators[n].deviationTimer
               lostTimer := t.actuators[n].lostTimer } ∧
           Supervised a t.actuators[n] ∧
           t.outputs[n].pendingDuty =
             (t.actuators[n].command * nextPeriod s.outputs[n] + 5000) / 10000 ∧ OnlyActuator n s t) ∧
       (left ≤ w → Unattended n s →
         ∃ t, exec (.slewExpiry n) s = .next t ∧
           t.actuators[n] =
             { a with
               slewTimer := 100000, command := r.target, accumulator := 0, ramp := none
               state := match a.state with
                 | .moving => .holding
                 | .stopping .rampDown => .stopping .dropWait
                 | x => x
               proofTimer := t.actuators[n].proofTimer, deviationTimer := t.actuators[n].deviationTimer
               lostTimer := t.actuators[n].lostTimer } ∧
           (a.state ≠ .stopping .rampDown → t.actuators[n].proofTimer = a.proofTimer) ∧
           Supervised a t.actuators[n] ∧
           (a.state = .stopping .rampDown →
             t.outputs[n].runOutput = false ∧
               t.actuators[n].proofTimer = some (a.cfg.proofTimeout.getD 0 * 1000000)) ∧
           t.outputs[n].pendingDuty = (r.target * nextPeriod s.outputs[n] + 5000) / 10000 ∧ OnlyActuator n s t))) ∧
  (∀ (n : ActId) (s : State),
     exec (.periodEnd n) s =
       .next
         { s with
           outputs := put s.outputs n
             { s.outputs[n] with
               activePeriod := s.outputs[n].pendingPeriod.getD s.outputs[n].activePeriod, pendingPeriod := none
               activeDuty := s.outputs[n].pendingDuty, position := 0, held := false } }) ∧
  (∀ o : OutputChannel,
     (o.condition = .driven → o.held = false → o.position < o.activeDuty →
       (lineHigh o = true ↔ o.polarity = .activeHigh)) ∧
     (o.condition = .released ∨ o.held = true ∨ o.activeDuty ≤ o.position →
       (lineHigh o = true ↔ o.polarity = .activeLow)))

/-- The arithmetic of an unbroken ramp (R35, R36, R42): after k expiries from accumulator 0 that have not reached the target
the command has moved (k × q) div 64 units, exactly; the ramp lands at the first k with k × q ≥ 64 × distance, on the target;
and no expiry moves the command by more than (max rate × 64 + 5) div 640 + 1 units. -/
def Obligations.RampArithmetic : Prop :=
  (∀ (r : Ramp) (a : Actuator), a.accumulator = 0 → a.command ≠ r.target →
    let d := distance r.target a.command
    let after : Nat → Actuator := fun k => (fun b => (stepRamp r b).1)^[k] a
    ∀ k : Nat,
      (k * r.rateStep < 64 * d →
        (after k).accumulator = k * r.rateStep % 64 ∧
        (after k).command =
          (if a.command < r.target then a.command + k * r.rateStep / 64 else a.command - k * r.rateStep / 64)) ∧
      (k * r.rateStep < 64 * d → 64 * d ≤ (k + 1) * r.rateStep →
        (stepRamp r (after k)).2 = true ∧ (stepRamp r (after k)).1.command = r.target) ∧
      ((k + 1) * r.rateStep < 64 * d → (stepRamp r (after k)).2 = false)) ∧
  (∀ (r : Ramp) (a : Actuator), ConfigOk a.cfg → a.ramp = some r → SlewOk a →
    distance a.command (stepRamp r a).1.command ≤ (a.cfg.maxRate * 64 + 5) / 640 + 1)

/-- The plant trip. Its assertion event (R28, R21, R24): every actuator in service and not FAULTED takes PLANT_TRIP, every
FAULTED one records a further fault and keeps its code, an OUT_OF_SERVICE one is passed by, every chain that runs or is
halted ends TRIPPED, and TRIP is set for both masters; it takes the entries to be as every step keeps them. The filter
(R27): a raw change starts its count from zero and changes nothing else, and the filtered level changes only when the count
has lasted 20 ms. The de-assertion event (R29) changes no actuator. -/
def Obligations.PlantTrip : Prop :=
  (∀ s : State, s.ptrip.asserted = false → ActuatorsOk s →
     ∃ t, exec .tripAssertion s = .next t ∧ t.ptrip.asserted = true ∧
       (∀ n : ActId,
         let a := s.actuators[n]
         let b := t.actuators[n]
         (healthy a = true → FaultTaken .plantTrip n s t) ∧
         (a.state = .faulted →
           b.furtherFault = true ∧ b.fault = a.fault ∧ b.commandAtFault = a.commandAtFault ∧ b.state = .faulted ∧
             b.command = a.command ∧ b.ramp = a.ramp) ∧
         (a.state = .outOfService → b = a)) ∧
       (∀ g : GroupId, t.executors[g] =
         if s.executors[g].state = .idle then s.executors[g] else Ended .tripped s.executors[g]) ∧
       (∀ m, flagSet m .trip t = true) ∧ t.governor = s.governor ∧ t.groupHolders = s.groupHolders) ∧
  (∀ (level : Bool) (s : State), s.ptrip.raw ≠ level →
    exec (.ptripRawChange level) s = .next { s with ptrip := { s.ptrip with raw := level, age := 0 } }) ∧
  (∀ s : State, s.ptrip.asserted = true →
    exec .tripDeassertion s = .next { s with ptrip := { asserted := false, raw := true, age := 0 } }) ∧
  (∀ s : State, (Instr.tripAssertion ∈ dueEvents s ↔
      s.ptrip.asserted = false ∧ s.ptrip.raw = false ∧ 20000 ≤ s.ptrip.age) ∧
    (Instr.tripDeassertion ∈ dueEvents s ↔
      s.ptrip.asserted = true ∧ s.ptrip.raw = true ∧ 20000 ≤ s.ptrip.age))

/-- The supervision timers' expiries (R13, R15, R19 to R24, R98). At an actuator of trip scope SELF that no chain attends a
STARTING pump faults with PROOF_FAIL, a pump in DROP_WAIT with STOP_FAIL, and an actuator in service with DEVIATION or
FEEDBACK_LOST, and nothing else of the plant changes; a timer that is absent or has time left does not expire (log entry 5).
Where a deviation faults an actuator of trip scope GROUP, every other actuator of its group in service takes GROUP_TRIP or,
where it is FAULTED, a further fault; no actuator of another group changes; and the group's chain ends TRIPPED. The group trip
takes the entries to be as every step keeps them. -/
def Obligations.SupervisionExpiriesFault : Prop :=
  (∀ (n : ActId) (s : State), s.actuators[n].cfg.tripScope = .self → Unattended n s →
     s.actuators[n].cfg.kind ≠ .none → StateFits s.actuators[n] →
     let faults := fun (c : Instr) (code : FaultCode) =>
       ∃ t, exec c s = .next t ∧ FaultTaken code n s t ∧ OnlyActuator n s t
     (s.actuators[n].proofTimer = some 0 →
       (s.actuators[n].state = .starting → faults (.proofTimerExpiry n) .proofFail) ∧
       (s.actuators[n].state = .stopping .dropWait → faults (.proofTimerExpiry n) .stopFail)) ∧
     (healthy s.actuators[n] = true →
       (s.actuators[n].deviationTimer = some 0 → faults (.deviationTimerExpiry n) .deviation) ∧
       (s.actuators[n].lostTimer = some 0 → faults (.feedbackLostTimerExpiry n) .feedbackLost)) ∧
     (s.actuators[n].proofTimer ≠ some 0 → exec (.proofTimerExpiry n) s = .next s) ∧
     (s.actuators[n].deviationTimer ≠ some 0 → exec (.deviationTimerExpiry n) s = .next s) ∧
     (s.actuators[n].lostTimer ≠ some 0 → exec (.feedbackLostTimerExpiry n) s = .next s)) ∧
  (∀ (n : ActId) (g : GroupId) (s : State), ActuatorsOk s → memberOf g s.actuators[n] = true →
     s.actuators[n].cfg.tripScope = .group → healthy s.actuators[n] = true →
     s.actuators[n].deviationTimer = some 0 →
     ∃ t, exec (.deviationTimerExpiry n) s = .next t ∧ FaultTaken .deviation n s t ∧
       (∀ k, k ≠ n →
         (memberOf g s.actuators[k] = true → healthy s.actuators[k] = true → FaultTaken .groupTrip k s t) ∧
         (memberOf g s.actuators[k] = true → s.actuators[k].state = .faulted →
           t.actuators[k].furtherFault = true ∧ t.actuators[k].fault = s.actuators[k].fault ∧
             t.actuators[k].commandAtFault = s.actuators[k].commandAtFault) ∧
         (memberOf g s.actuators[k] = false ∨ s.actuators[k].state = .outOfService →
           t.actuators[k] = s.actuators[k])) ∧
       (∀ h : GroupId, t.executors[h] =
         if h = g ∧ s.executors[h].state ≠ .idle then Ended .tripped s.executors[h] else s.executors[h]))

/-- A change of an input that serves one actuator alone (R13 to R17, R165), of trip scope SELF and with no chain attending it.
As the proof input of a pump: in STARTING a change to running gives RUNNING with the proof timer absent; in RUNNING or
RAMP_DOWN a change to not-running faults with PROOF_LOST; in DROP_WAIT it gives STOPPED at command 0; and in STOPPED, FAULTED
and OUT_OF_SERVICE, and for the change the other way in any state, the entry stays. As a permissive: a change away from the
permitting sense faults a STARTING or RUNNING pump and a MOVING valve with PERMISSIVE_LOST, and the entry stays in every
other state and at a change to that sense. An input that nothing uses changes its level alone. -/
def Obligations.ProofInputChanges : Prop :=
  (∀ (d : InputId) (n : ActId) (level : Bool) (s : State), s.inputs[d].filtered = !level →
    inputUses d level s = [.proof n] → Unattended n s → s.actuators[n].cfg.tripScope = .self →
    s.actuators[n].cfg.kind = .pump →
    let a := s.actuators[n]
    ∃ t, exec (.discreteInputChange d level) s = .next t ∧ t.inputs[d].filtered = level ∧ OnlyActuator n s t ∧
      (a.state = .starting → level = true →
        t.actuators[n].state = .running ∧ t.actuators[n].proofTimer = none ∧ t.actuators[n].command = a.command ∧
          t.outputs[n].runOutput = true) ∧
      (a.state = .running ∨ a.state = .stopping .rampDown → level = false → FaultTaken .proofLost n s t) ∧
      (a.state = .stopping .dropWait → level = false →
        t.actuators[n].state = .stopped ∧ t.actuators[n].command = 0 ∧ t.actuators[n].proofTimer = none ∧
          t.outputs[n].pendingDuty = dutyOf 0 (nextPeriod s.outputs[n])) ∧
      (a.state = .stopped ∨ a.state = .faulted ∨ a.state = .outOfService ∨ (a.state = .starting ∧ level = false) ∨
          (level = true ∧ a.state ≠ .starting) →
        t.actuators[n] = a ∧ t.outputs[n] = s.outputs[n])) ∧
  (∀ (d : InputId) (n : ActId) (p : Permissive) (level : Bool) (s : State), s.inputs[d].filtered = !level →
    inputUses d level s = [.permissive n] → Unattended n s → s.actuators[n].cfg.tripScope = .self →
    s.actuators[n].cfg.permissive = some p → StateFits s.actuators[n] →
    let a := s.actuators[n]
    ∃ t, exec (.discreteInputChange d level) s = .next t ∧ t.inputs[d].filtered = level ∧ OnlyActuator n s t ∧
      (level ≠ p.sense →
        (a.cfg.kind = .pump ∧ (a.state = .starting ∨ a.state = .running)) ∨ (a.cfg.kind = .valve ∧ a.state = .moving) →
        FaultTaken .permissiveLost n s t) ∧
      (level = p.sense ∨ (a.state ≠ .starting ∧ a.state ≠ .running ∧ a.state ≠ .moving) →
        t.actuators[n] = a ∧ t.outputs[n] = s.outputs[n])) ∧
  (∀ (d : InputId) (level : Bool) (s : State), s.inputs[d].filtered = !level → Unused d s →
    exec (.discreteInputChange d level) s =
      .next { s with inputs := put s.inputs d { s.inputs[d] with filtered := level, raw := level, age := 0 } })

/-- The input filter (R165, R166): a raw change away from the filtered level begins its count and one back to it abandons it,
neither changing anything else; with debounce 0 the filtered level follows at once; SET DEBOUNCE takes effect at once on a
difference in progress, whose age it keeps. The input is one that nothing uses. -/
def Obligations.InputFilterDebounces : Prop :=
  ∀ (d : InputId) (s : State), Unused d s →
    let x := s.inputs[d]
    (∀ level, x.raw ≠ level →
      (level = x.filtered ∨ 0 < x.debounce →
        exec (.rawLevelChange d level) s = .next { s with inputs := put s.inputs d { x with raw := level, age := 0 } }) ∧
      (level ≠ x.filtered → x.debounce = 0 →
        exec (.rawLevelChange d level) s =
          .next { s with inputs := put s.inputs d { x with raw := level, filtered := level, age := 0 } })) ∧
    (∀ (q : Req) (input time : Byte), Listening q.master s → index? 24 input = some d →
      let u := acceptFrame q.master s
      (x.raw = x.filtered ∨ x.age < time.toNat * 10000 →
        exec (.setDebounce q input time) s =
          .next (respond q 0x53 ({ u with inputs := put u.inputs d { x with debounce := time.toNat } }, .ok []))) ∧
      (x.raw ≠ x.filtered → time.toNat * 10000 ≤ x.age →
        exec (.setDebounce q input time) s =
          .next (respond q 0x53
            ({ u with inputs := put u.inputs d { x with debounce := time.toNat, filtered := x.raw, age := 0 } }, .ok [])))) ∧
    (∀ level, Instr.discreteInputChange d level ∈ dueEvents s ↔
      x.raw = level ∧ x.filtered ≠ level ∧ x.debounce * 10000 ≤ x.age)

/-! ### Capture channels -/

/-- CONFIGURE CAPTURE (R161, R163): refused IN_USE where an in-service actuator names the channel as feedback; accepted, it replaces
the whole configuration, abandons the measurement where the mode or the prescale changes, and sets status NO_SIGNAL and a new
value only where the mode changes; a channel that comes out of OFF takes the level of its input as its first (R154). Without
those changes a running timer keeps its time left; one that has run out, its expiry not yet taken, is started anew with the new
timeout, or absent under OFF, and after any accepted configuration the expiry does not occur (R163): where R161 restarts no
timer, that it starts anew is the model's choice (log entry 28). The channel is one that no actuator names, where the request is
accepted. -/
def Obligations.ConfigureCaptureAccepted : Prop :=
  ∀ (q : Req) (r : RawCapture) (c : CaptureId) (w : CaptureWrite) (s : State), Listening q.master s →
    index? 16 r.channel = some c → captureWrite? r = some w →
    let u := acceptFrame q.master s
    let x := s.captures[c]
    let written : Capture :=
      { x with mode := w.mode, prescale := w.prescale, timeout := w.timeout, gain := w.gain, offset := w.offset }
    let timer := if w.mode = .off then none else some (w.timeout * 100000)
    ((∃ n : ActId, s.actuators[n].state ≠ .outOfService ∧
        s.actuators[n].cfg.feedback.map FeedbackConfig.channel = some c) →
      exec (.configureCapture q r) s = .next (respond q 0x51 (u, .refuse .inUse []))) ∧
    ((∀ n : ActId, s.actuators[n].cfg.feedback.map FeedbackConfig.channel ≠ some c) →
      exec (.configureCapture q r) s =
        .next (respond q 0x51
          ({ u with
              captures := put u.captures c
                (if w.mode ≠ x.mode then
                  { written with
                    phase := .waitEdge, status := .noSignal, lastRaw := none, age := 0, timer := timer
                    sample := if x.mode = .off then x.input.level else x.sample
                    value := if w.mode = .frequency ∧ 0 ≤ w.offset.toInt then w.offset.toInt.toNat else 0 }
                else if w.prescale ≠ x.prescale then { written with phase := .waitEdge, age := 0, timer := timer }
                else { written with timer := if x.timer = some 0 then timer else x.timer }) },
            .ok [])) ∧
      ∀ t, exec (.configureCapture q r) s = .next t → exec (.captureTimeoutExpiry c) t = .next t)

/-- The edges of a capture channel (R154 to R156, R158, R159). A channel sees an edge where it is not OFF, the level that it
took last is the opposite one and it has taken no edge at this count; an edge that it does not see changes the pin and the
counter alone (log entry 9). In WAIT_EDGE a rising edge begins a measurement in COUNTING with 0 edges seen or in HIGH, in
COUNTING before the N-th it raises the edges seen, and in HIGH a falling edge gives the high time and LOW; each rising edge
restarts the timeout and a falling edge does not (log entry 12). The edge that completes a measurement: the span is taken
modulo 16,777,216 from the stamps, the raw value is (10,000,000 × N + span div 2) div span, or (high time × 10000 + period div
2) div period; the value is offset + (raw × gain) div 4096 clamped to 0..65535, with OVERRANGE where the clamp acts from
above; the ending edge begins the next measurement. There the channel is one that nothing hears. An ending edge taken at the
count at which the span overflows (R157, R159) completes the measurement too, in FREQUENCY and in DUTY, with a raw value within
its bounds that the manual does not give: the model's choice (log entry 29). -/
def Obligations.CompletedMeasurements : Prop :=
  ∀ (c : CaptureId) (stamp : Stamp) (s : State),
    let x := s.captures[c]
    let pin : Bool → Capture → Capture := fun level y => { y with input := { x.input with level := level } }
    let took : Bool → Capture → Capture := fun level y => { pin level y with sample := level, edge := some stamp }
    let after : Capture → State := fun y => { s with counter := stamp, captures := put s.captures c y }
    (∀ rising, x.mode = .off ∨ x.sample = rising ∨ x.edge = some stamp →
      exec (.captureEdge c rising stamp) s = .next (after (pin rising x)) ∧
      (rising = true →
        exec (.frequencyMeasurement c stamp) s = .next (after (pin true x)) ∧
        exec (.dutyMeasurement c stamp) s = .next (after (pin true x)))) ∧
    (x.edge ≠ some stamp → x.sample = true → x.mode = .duty → ∀ start, x.phase = .high start → start ≠ stamp →
      exec (.captureEdge c false stamp) s =
        .next (after
          (took false { x with phase := .low start ((stamp.toNat + 16777216 - start.toNat) % 16777216) }))) ∧
    (x.edge ≠ some stamp → x.sample = true → x.mode = .frequency →
      exec (.captureEdge c false stamp) s = .next (after (took false x))) ∧
    (x.edge ≠ some stamp → x.sample = false →
      let begun : CapturePhase → Capture := fun phase =>
        took true { x with phase := phase, timer := some (x.timeout * 100000), age := 0 }
      (x.mode = .frequency → x.phase = .waitEdge →
        exec (.captureEdge c true stamp) s = .next (after (begun (.counting 0 stamp)))) ∧
      (x.mode = .duty → x.phase = .waitEdge →
        exec (.captureEdge c true stamp) s = .next (after (begun (.high stamp)))) ∧
      (∀ seen start, x.mode = .frequency → x.phase = .counting seen start → seen + 1 < x.prescale →
        exec (.captureEdge c true stamp) s =
          .next (after
            (took true { x with phase := .counting (seen + 1) start, timer := some (x.timeout * 100000) }))) ∧
      (Unheard c s → ∀ start,
        let span := (stamp.toNat + 16777216 - start.toNat) % 16777216
        let measured : Nat → CapturePhase → State := fun raw phase =>
          let sum : Int := x.offset.toInt + ((raw * x.gain / 4096 : Nat) : Int)
          after
            { begun phase with
              lastRaw := some raw
              value := if sum < 0 then 0 else if 65535 < sum then 65535 else sum.toNat
              status := if 65535 < sum then .overrange else .ok }
        (∀ seen, x.mode = .frequency → x.phase = .counting seen start → x.prescale = seen + 1 → 2 * x.prescale ≤ span →
          exec (.frequencyMeasurement c stamp) s =
            .next (measured ((10000000 * x.prescale + span / 2) / span) (.counting 0 stamp))) ∧
        (∀ seen, x.mode = .frequency → x.phase = .counting seen start → x.prescale = seen + 1 → span < 2 * x.prescale →
          16777216 ≤ x.age →
          ∃ raw, raw ≤ 10000000 ∧
            exec (.frequencyMeasurement c stamp) s =
              .next { measured raw (.counting 0 stamp) with freeCount := s.freeCount + 1 }) ∧
        (∀ highTime, x.mode = .duty → x.phase = .low start highTime → span ≤ highTime → 16777216 ≤ x.age →
          ∃ raw, raw ≤ 10000 ∧
            exec (.dutyMeasurement c stamp) s =
              .next { measured raw (.high stamp) with freeCount := s.freeCount + 1 }) ∧
        (∀ highTime, x.mode = .duty → x.phase = .low start highTime → 0 < highTime → highTime < span →
          (highTime * 10000 + span / 2) / span ≤ 10000 ∧
          exec (.dutyMeasurement c stamp) s =
            .next (measured ((highTime * 10000 + span / 2) / span) (.high stamp)))))

/-- A capture timeout, and the passing of 16,777,216 counts inside a measurement (R157, R159): the measurement is abandoned,
the status becomes NO_SIGNAL, in FREQUENCY the value becomes that of zero flow and in DUTY it is held, the timer becomes
absent, and last raw stays; a timer that is absent or has time left does not expire, and fewer counts abandon nothing (log
entry 5); here the channel is one that no actuator names. Where one actuator alone names it (R18, R19, R20, R160), the
actuator takes the value clamped to 0..10000 and the status; the feedback-lost timer of an actuator in service and not
FAULTED starts with the deviation time, and its deviation timer becomes absent. A measurement that completes
there gives the actuator the new value: the deviation timer starts, goes on or becomes absent by the distance from the command,
and the feedback-lost timer becomes absent. That a value which brings the feedback out of NO_SIGNAL is judged at once is
the model's
choice (log entry 15). -/
def Obligations.CaptureTimeouts : Prop :=
  (∀ (c : CaptureId) (s : State), (∀ n : ActId, s.actuators[n].cfg.feedback.map FeedbackConfig.channel ≠ some c) →
     let x := s.captures[c]
     let abandoned : State :=
       { s with
         captures := put s.captures c
           { x with
             phase := .waitEdge, status := .noSignal, timer := none, age := 0
             value :=
               if x.mode = .frequency then (if x.offset.toInt < 0 then 0 else x.offset.toInt.toNat) else x.value } }
     (x.timer = some 0 → exec (.captureTimeoutExpiry c) s = .next abandoned) ∧
     (x.phase ≠ .waitEdge → 16777216 ≤ x.age → exec (.captureSpanOverflow c) s = .next abandoned) ∧
     (x.timer ≠ some 0 → exec (.captureTimeoutExpiry c) s = .next s) ∧
     (x.phase = .waitEdge ∨ x.age < 16777216 → exec (.captureSpanOverflow c) s = .next s)) ∧
  (∀ (c : CaptureId) (n : ActId) (f : FeedbackConfig) (s : State), s.captures[c].timer = some 0 →
     s.captures[c].status ≠ .noSignal → reportTakers c false s = [.actuator n] → Unattended n s →
     s.actuators[n].cfg.feedback = some f → s.actuators[n].lostTimer = none →
     (∃ v, s.actuators[n].feedback = some v ∧ v.status ≠ .noSignal) →
     ∃ t, exec (.captureTimeoutExpiry c) s = .next t ∧ t.captures[c].status = .noSignal ∧
       t.actuators[n].feedback =
         some
           { value := if 10000 < t.captures[c].value then 10000 else t.captures[c].value, status := .noSignal } ∧
       t.actuators[n].deviationTimer = none ∧
       t.actuators[n].lostTimer = (if healthy s.actuators[n] = true then some (f.time * 1000000) else none) ∧
       t.actuators[n].command = s.actuators[n].command ∧ t.actuators[n].state = s.actuators[n].state ∧
       (∀ k, k ≠ n → t.actuators[k] = s.actuators[k])) ∧
  (∀ (c : CaptureId) (n : ActId) (seen : Nat) (start stamp : Stamp) (s : State),
     reportTakers c true s = [.actuator n] → Unattended n s →
     let x := s.captures[c]
     let a := s.actuators[n]
     x.mode = .frequency → x.sample = false → x.edge ≠ some stamp → x.phase = .counting seen start →
     x.prescale = seen + 1 → 2 * x.prescale ≤ (stamp.toNat + 16777216 - start.toNat) % 16777216 →
     ∃ t, exec (.frequencyMeasurement c stamp) s = .next t ∧ t.captures[c].status ≠ .noSignal ∧
       let w : Feedback :=
         { value := if 10000 < t.captures[c].value then 10000 else t.captures[c].value, status := t.captures[c].status }
       (a.feedback = some w → t.actuators = s.actuators ∧ t.outputs = s.outputs) ∧
       (a.feedback ≠ some w →
         t.actuators[n] =
           { a with
             feedback := some w, deviationTimer := t.actuators[n].deviationTimer, lostTimer := t.actuators[n].lostTimer } ∧
         Supervised a t.actuators[n] ∧
         (∀ k, k ≠ n → t.actuators[k] = s.actuators[k] ∧ t.outputs[k] = s.outputs[k])) ∧
       t.executors = s.executors ∧ t.slots = s.slots)

/-! ### The governor -/

/-- GOVERNOR SETTINGS (R130, R131): a requester that does not hold GOV is refused; settings out of range are refused whole;
accepted settings replace all seven in every mode, with the fallback demand stored clamped and answered, and with D and I
clamped at once to the new limits; a running hold timer and the mode stay. -/
def Obligations.GovernorSettingsReplaced : Prop :=
  ∀ (q : Req) (r : RawGovernor) (s : State), ListeningInTime q.master s →
    let u := acceptFrame q.master s
    let clamp : Nat → Nat → Nat → Nat := fun lo hi x => if x < lo then lo else if hi < x then hi else x
    let fits := r.dmin.toNat ≤ r.dmax.toNat ∧ r.dmax.toNat ≤ 10000 ∧ 1 ≤ r.dstep.toNat ∧ r.dstep.toNat ≤ 2000 ∧
      1 ≤ r.holdTime.toNat ∧ r.holdTime.toNat ≤ 600 ∧ r.fallback.toNat ≤ 10000
    (s.govHolder ≠ some q.master →
      exec (.governorSettings q r) s = .next (respond q 0x60 (u, .refuse .notHolder []))) ∧
    (s.govHolder = some q.master →
      (¬ fits → exec (.governorSettings q r) s = .next (respond q 0x60 (u, .refuse .outOfRange []))) ∧
      (fits →
        exec (.governorSettings q r) s =
          .next (respond q 0x60
            ({ u with
                governor :=
                  { s.governor with
                    kp := r.kp.toNat, ki := r.ki.toNat, dmin := r.dmin.toNat, dmax := r.dmax.toNat
                    dstep := r.dstep.toNat, holdTime := r.holdTime.toNat
                    fallback := clamp r.dmin.toNat r.dmax.toNat r.fallback.toNat
                    demand := clamp r.dmin.toNat r.dmax.toNat s.governor.demand
                    integral := clamp (r.dmin.toNat * 64) (r.dmax.toNat * 64) s.governor.integral } },
              .ok (byte2 (clamp r.dmin.toNat r.dmax.toNat r.fallback.toNat))))))

/-- GOVERNOR MODE and the hold timer (R125, R127, R128, R129, R41): ON in OFF enters HOLD at the fallback demand with I = D ×
64, the hold timer full and GOV_MODE set for both masters, and in any other mode changes nothing; OFF discards the hold timer,
the eligible count and the last error, keeps D and I, clears every follow flag and removes exactly the FOLLOW ramps, each
command staying; the hold timer's expiry gives FALLBACK with D and I as they stand. -/
def Obligations.GovernorModeChanges : Prop :=
  ∀ s : State,
    (∀ q : Req, ListeningInTime q.master s → s.govHolder = some q.master →
      let u := acceptFrame q.master s
      (s.governor.mode = .off →
        exec (.governorModeOn q) s =
          .next (respond q 0x61
            (setFlagBoth .govMode
              { u with
                governor :=
                  { s.governor with
                    mode := .hold, demand := s.governor.fallback, integral := s.governor.fallback * 64
                    holdTimer := some (s.governor.holdTime * 1000000) } },
              .ok [1])) ∧
        exec (.governorModeOff q) s = .next (respond q 0x61 (u, .ok [0]))) ∧
      (s.governor.mode ≠ .off →
        exec (.governorModeOn q) s = .next (respond q 0x61 (u, .ok [modeByte s.governor.mode])) ∧
        ∃ t, exec (.governorModeOff q) s = .next (respond q 0x61 (t, .ok [0])) ∧
          t.governor = { s.governor with mode := .off, holdTimer := none, eligible := none, lastError := none } ∧
          (∀ m, flagSet m .govMode t = true) ∧
          (∀ n : ActId,
            let a := s.actuators[n]
            let b := t.actuators[n]
            b.follow = none ∧ b.command = a.command ∧ b.fault = a.fault ∧ b.cfg = a.cfg ∧
            b.ramp = (if a.ramp.map Ramp.origin = some .follow then none else a.ramp)) ∧
          t.executors = s.executors ∧ t.slots = s.slots ∧ t.groupHolders = s.groupHolders)) ∧
    (s.governor.holdTimer = some 0 → s.governor.mode = .hold →
      exec .holdTimerExpiry s =
        .next (setFlagBoth .govMode { s with governor := { s.governor with mode := .fallback, holdTimer := none } }))

/-- A regulating evaluation (R117 to R121) in REGULATE with an eligible station: the controlling entry is the eligible entry
of the smallest station error and, among equals, of the lowest number; its error is clamped to ±2000; P is −(Kp × e) ÷ 8
truncated toward zero, raw is P + I div 64, D moves toward raw clamped to the limits by at most Dstep, and I takes −Ki × e
except where raw stands at a limit that it would push past. The eligible count is that of the eligible entries, the evaluation
timer is full, and the settings, the mode and the hold timer stay. No pump follows. -/
def Obligations.RegulatingEvaluation : Prop :=
  ∀ (s : State), s.governor.mode = .regulate → (∀ n : ActId, s.actuators[n].follow = none) →
    (∃ k : StationId, s.stations[k].enabled = true ∧ s.stations[k].state = .fresh) →
    let g := s.governor
    let eligible : StationId → Prop := fun k => s.stations[k].enabled = true ∧ s.stations[k].state = .fresh
    let error : StationId → Int := fun k =>
      ((s.stations[k].reading.map Reading.dp).getD 0 : Int) - (s.stations[k].setpoint : Int)
    ∃ (k : StationId) (t : State), eligible k ∧ (∀ j, eligible j → error k ≤ error j) ∧
      (∀ j, eligible j → error j = error k → k ≤ j) ∧
      let e : Int := if error k < -2000 then -2000 else if 2000 < error k then 2000 else error k
      let p : Int := (-((g.kp : Int) * e)).tdiv 8
      let change : Int := -(g.ki : Int) * e
      let raw : Int := p + ((g.integral / 64 : Nat) : Int)
      let u : Int := if raw < g.dmin then g.dmin else if (g.dmax : Int) < raw then g.dmax else raw
      exec .governorEvaluation s = .next t ∧ t = { s with governor := t.governor } ∧
      (t.governor.demand : Int) =
        (g.demand : Int) + (if u - g.demand < -(g.dstep : Int) then -(g.dstep : Int)
          else if (g.dstep : Int) < u - g.demand then (g.dstep : Int) else u - g.demand) ∧
      (((g.dmax : Int) ≤ raw ∧ 0 < change) ∨ (raw ≤ g.dmin ∧ change < 0) → t.governor.integral = g.integral) ∧
      (¬ (((g.dmax : Int) ≤ raw ∧ 0 < change) ∨ (raw ≤ g.dmin ∧ change < 0)) →
        (t.governor.integral : Int) =
          (if (g.integral : Int) + change < (g.dmin * 64 : Nat) then ((g.dmin * 64 : Nat) : Int)
            else if ((g.dmax * 64 : Nat) : Int) < g.integral + change then ((g.dmax * 64 : Nat) : Int)
            else g.integral + change)) ∧
      t.governor =
        { g with
          demand := t.governor.demand, integral := t.governor.integral
          eligible := some
            ((List.finRange 8).countP fun j : StationId => s.stations[j].enabled && s.stations[j].state == .fresh)
          lastError := some { entry := k, error := e, p := p, raw := raw }, evalTimer := 1000000 }

/-- Evaluations outside a steady REGULATE, with no pump that follows. Without an eligible station (R117, R123, R124, R126,
R127) REGULATE becomes HOLD with the hold timer full and D and I as they stand; HOLD holds; FALLBACK moves D toward the
fallback demand by at most Dstep. OFF changes nothing but the evaluation timer, whatever the stations. With an eligible
station HOLD and FALLBACK become REGULATE (R117 to R122, R127) with the hold timer absent and the controlling entry of
R119: the integral
is rebased to (D − P) × 64, clamped to its limits; raw, D and the integral then follow from it by R120 and R121. Where that clamp
does not act, raw equals D, and D is unchanged by this evaluation; where it acts, D moves by at most Dstep and stays within the
limits, the governor being as every step keeps it. -/
def Obligations.EvaluationWithoutStation : Prop :=
  ∀ s : State, (∀ n : ActId, s.actuators[n].follow = none) →
    let g := s.governor
    let eligible : StationId → Prop := fun k => s.stations[k].enabled = true ∧ s.stations[k].state = .fresh
    (g.mode = .off → exec .governorEvaluation s = .next { s with governor := { g with evalTimer := 1000000 } }) ∧
    ((∀ k : StationId, ¬ eligible k) →
      let h : Governor := { g with eligible := some 0, lastError := none, evalTimer := 1000000 }
      (g.mode = .hold → exec .governorEvaluation s = .next { s with governor := h }) ∧
      (g.mode = .regulate →
        exec .governorEvaluation s =
          .next (setFlagBoth .govMode
            { s with governor := { h with mode := .hold, holdTimer := some (g.holdTime * 1000000) } })) ∧
      (g.mode = .fallback →
        exec .governorEvaluation s =
          .next
            { s with
              governor :=
                { h with
                  demand :=
                    if g.demand + g.dstep < g.fallback then g.demand + g.dstep
                    else if g.fallback + g.dstep < g.demand then g.demand - g.dstep
                    else g.fallback } })) ∧
    ((∃ k : StationId, eligible k) → g.mode = .hold ∨ g.mode = .fallback →
      let error : StationId → Int := fun k =>
        ((s.stations[k].reading.map Reading.dp).getD 0 : Int) - (s.stations[k].setpoint : Int)
      let clamp : Int → Int → Int → Int := fun lo hi x => if x < lo then lo else if hi < x then hi else x
      ∃ (k : StationId) (h : Governor), eligible k ∧ (∀ j, eligible j → error k ≤ error j) ∧
        (∀ j, eligible j → error j = error k → k ≤ j) ∧
        let e : Int := clamp (-2000) 2000 (error k)
        let p : Int := (-((g.kp : Int) * e)).tdiv 8
        let rebased : Int := clamp ((g.dmin : Int) * 64) ((g.dmax : Int) * 64) (((g.demand : Int) - p) * 64)
        let raw : Int := p + rebased / 64
        let change : Int := -(g.ki : Int) * e
        exec .governorEvaluation s = .next (setFlagBoth .govMode { s with governor := h }) ∧
        h =
          { g with
            mode := .regulate, holdTimer := none, demand := h.demand, integral := h.integral
            eligible := some
              ((List.finRange 8).countP fun j : StationId => s.stations[j].enabled && s.stations[j].state == .fresh)
            lastError := some { entry := k, error := e, p := p, raw := raw }, evalTimer := 1000000 } ∧
        (h.demand : Int) =
          (g.demand : Int) + clamp (-(g.dstep : Int)) g.dstep (clamp g.dmin g.dmax raw - (g.demand : Int)) ∧
        (h.integral : Int) =
          (if ((g.dmax : Int) ≤ raw ∧ 0 < change) ∨ (raw ≤ g.dmin ∧ change < 0) then rebased
            else clamp ((g.dmin : Int) * 64) ((g.dmax : Int) * 64) (rebased + change)) ∧
        (GovernorOk g →
          ((g.dmin : Int) ≤ g.demand - p → (g.demand : Int) - p ≤ g.dmax → raw = g.demand ∧ h.demand = g.demand) ∧
          g.dmin ≤ h.demand ∧ h.demand ≤ g.dmax ∧ distance h.demand g.demand ≤ g.dstep))

/-- The demand handed to ACT at an evaluation end (R40, R117, R127), in every mode but OFF, with and without an eligible station:
the governor does what it does where no pump follows (RegulatingEvaluation, EvaluationWithoutStation), and with the D it then
holds every pump whose follow flag is yes gets a FOLLOW ramp toward D clamped to its limits, at its follow step and with
accumulator 0, or is left without a ramp where D so clamped is its command; its supervision timers are as its feedback and its
command make them (R19, R20), the rest of its entry stays, and so does its output channel where that follows the entry (R43). A
pump that does not follow keeps its entry and its channel, and nothing else changes. No chain attends the pumps, and the entries
are as every step keeps them. -/
def Obligations.FollowersRetargeted : Prop :=
  ∀ s : State, s.governor.mode ≠ .off → ActuatorsOk s → (∀ n, Unattended n s) →
    ∃ t u,
      exec .governorEvaluation s = .next t ∧
      exec .governorEvaluation { s with actuators := each (fun _ a => { a with follow := none }) s.actuators } = .next u ∧
      t = { u with actuators := t.actuators, outputs := t.outputs } ∧
      ∀ n : ActId,
        let a := s.actuators[n]
        let b := t.actuators[n]
        let target := if t.governor.demand < a.cfg.min then a.cfg.min
          else if a.cfg.max < t.governor.demand then a.cfg.max else t.governor.demand
        (a.follow = none → b = a ∧ t.outputs[n] = s.outputs[n]) ∧
        (∀ step, a.follow = some step →
          b =
            { a with
              ramp := if target = a.command then none
                else some { target := target, rateStep := step, origin := .follow }
              accumulator := 0, deviationTimer := b.deviationTimer, lostTimer := b.lostTimer } ∧
          Supervised a b ∧
          (OutputFollows a s.outputs[n] → t.outputs[n] = s.outputs[n]))

/-! ### Stations -/

/-- CONFIGURE STATION (R145, R144): an enabled entry whose address another enabled entry holds is refused DUPLICATE;
otherwise the whole configuration is replaced, the dynamic state is kept only where the entry stays enabled at its address
and is NEVER in every other case, and STATION_STATE is set for both masters exactly where the state changes. -/
def Obligations.ConfigureStationAccepted : Prop :=
  ∀ (q : Req) (r : RawStation) (k : StationId) (on : Bool) (s : State), ListeningInTime q.master s →
    s.govHolder = some q.master → index? 8 r.entry = some k → flag? r.enabled = some on →
    1 ≤ r.address.toNat → r.address.toNat ≤ 247 → r.setpoint.toNat ≤ 10000 → 1 ≤ r.staleTime.toNat →
    r.staleTime.toNat ≤ 60 →
    let u := acceptFrame q.master s
    let x := s.stations[k]
    let written : Station :=
      { x with
        enabled := on, address := r.address.toNat, setpoint := r.setpoint.toNat, staleTime := r.staleTime.toNat }
    let taken := on = true ∧ ∃ j, j ≠ k ∧ s.stations[j].enabled = true ∧ s.stations[j].address = r.address.toNat
    let kept := x.enabled = true ∧ on = true ∧ x.address = r.address.toNat
    (taken → exec (.configureStation q r) s = .next (respond q 0x64 (u, .refuse .duplicate []))) ∧
    (¬ taken → kept →
      exec (.configureStation q r) s =
        .next (respond q 0x64 ({ u with stations := put u.stations k written }, .ok []))) ∧
    (¬ taken → ¬ kept →
      let v : State :=
        { u with
          stations := put u.stations k { written with state := .never, reading := none, staleTimer := none } }
      exec (.configureStation q r) s =
        .next (respond q 0x64 (if x.state = .never then v else setFlagBoth .stationState v, .ok [])))

/-- The sixth byte of a station frame (R137, R138, R141, R142, R144): a frame that fails its CRC-8 changes only the last
rejection, NOISE where a byte was noisy and CHECK where none was; a checked frame for an address that no enabled entry holds,
or with its entry's last sequence, changes only the last rejection; any other is taken into the enabled entry of its address
whole, with the stale timer full, and STATION_STATE is set exactly where the state changes. The model's choice: the byte comes
as a command alone, to a sampler that can complete one, and leaves it IDLE with the low-sample count 0 (log entries 6 and 10;
R136 would count 1 where sample 9 of its stop bit was low). -/
def Obligations.StationFrameTaken : Prop :=
  ∀ (address sequence high low quality check : Byte) (n0 n1 n2 n3 n4 noisy : Bool) (s : State),
    s.receiver.assembler = .body [(address, n0), (sequence, n1), (high, n2), (low, n3), (quality, n4)] →
    s.receiver.sampler = .idle ∨ (∃ c, s.receiver.sampler = .character c) → s.receiver.decided = none →
    let after := fun (r : Rejection) =>
      ({ s.receiver with assembler := .hunt, sampler := .idle, lowCount := 0, lastRejection := r } : StationReceiver)
    let result := exec (.stationCharacter check noisy) s
    let passes := crc8 [address, sequence, high, low, quality] = check
    let holder : StationId → Prop := fun k =>
      s.stations[k].enabled = true ∧ s.stations[k].address = address.toNat
    (¬ passes →
      result = .next { s with receiver := after (if n0 || n1 || n2 || n3 || n4 || noisy then .noise else .check) }) ∧
    (passes → (∀ k, ¬ holder k) → result = .next { s with receiver := after (.notEnabled address) }) ∧
    (passes → StationsOk s → ∀ k, holder k →
      (s.stations[k].reading.map Reading.sequence = some sequence →
        result = .next { s with receiver := after (.repeated address) }) ∧
      (s.stations[k].reading.map Reading.sequence ≠ some sequence →
        let dp := high.toNat * 256 + low.toNat
        let q : Quality := if quality.toNat % 4 = 0 then .good else if quality.toNat % 4 = 1 then .uncertain else .bad
        let state : StationState := if 2 ≤ quality.toNat % 4 then .bad else .fresh
        let v : State :=
          { s with
            receiver := after s.receiver.lastRejection
            stations := put s.stations k
              { s.stations[k] with
                reading := some
                  { dp := if 10000 < dp then 10000 else dp, sequence := sequence, quality := q }
                state := state, staleTimer := some (s.stations[k].staleTime * 1000000) } }
        result = .next (if s.stations[k].state = state then v else setFlagBoth .stationState v)))

/-- The other events of the station line (R135 to R137, R139, R143, R147, R148), each as a command alone: a break opens a frame
and in BODY records CUT_SHORT; a byte in ADDRESS begins the body, one in BODY with 1 to 4 bytes taken is kept, and one in HUNT
is discarded; a high sample in LOW_WATCH is a framing error, which outside HUNT returns to HUNT with FRAMING; a stop bit
decided low puts the sampler in LOW_WATCH and hands nothing on; the first high sample ends MARK_WAIT; and an event that the
sampler's state rules out changes nothing, a break in MARK_WAIT among them (log entries 10 and 23). An event that the sampler
has decided is handed on with the sampler as it stands. A stale timer's expiry makes its entry STALE with its reading kept,
and a timer with time left does not expire; and a new station baud resets the sampler and the assembler and answers its
divisor, while the present baud changes nothing. The model's choice: that a stop bit decided low with a high sample 9
hands nothing on at that
sample (log entry 24, count 0), and that the first sample at a new baud comes one sample interval later (log entry 9). -/
def Obligations.StationLineEvents : Prop :=
  ∀ s : State,
    let r := s.receiver
    let hands := fun (c : Instr) (x : StationReceiver) => exec c s = .next { s with receiver := x }
    let broken : StationReceiver → StationReceiver := fun x =>
      { x with
        assembler := .address
        lastRejection := match r.assembler with
          | .body _ => .cutShort
          | _ => r.lastRejection }
    let framed : StationReceiver → StationReceiver := fun x =>
      { x with assembler := .hunt, lastRejection := if r.assembler = .hunt then r.lastRejection else .framing }
    (r.decided = none →
      (r.sampler ≠ .markWait → hands .stationBreak (broken { r with sampler := .markWait, lowCount := 176 })) ∧
      (r.sampler = .markWait → exec .stationBreak s = .next s) ∧
      (r.sampler = .lowWatch → hands .stationFramingError (framed { r with sampler := .idle, lowCount := 0 })) ∧
      (r.sampler ≠ .lowWatch → exec .stationFramingError s = .next s) ∧
      (∀ (byte : Byte) (noisy : Bool),
        (r.sampler = .markWait ∨ r.sampler = .lowWatch → exec (.stationCharacter byte noisy) s = .next s) ∧
        (r.sampler = .idle ∨ (∃ c, r.sampler = .character c) →
          let idle : StationAssembler → StationReceiver := fun a =>
            { r with sampler := .idle, lowCount := 0, assembler := a }
          (r.assembler = .hunt → hands (.stationCharacter byte noisy) (idle .hunt)) ∧
          (r.assembler = .address → hands (.stationCharacter byte noisy) (idle (.body [(byte, noisy)]))) ∧
          (∀ taken, r.assembler = .body taken → 1 ≤ taken.length → taken.length ≤ 4 →
            hands (.stationCharacter byte noisy) (idle (.body (taken ++ [(byte, noisy)]))))))) ∧
    (r.decided = some .brk → hands .stationBreak (broken { r with decided := none })) ∧
    (r.decided = some .framingError → hands .stationFramingError (framed { r with decided := none })) ∧
    (∀ (byte : Byte) (noisy : Bool), r.decided = some (.character byte noisy) → r.assembler = .address →
      hands (.stationCharacter byte noisy) { r with decided := none, assembler := .body [(byte, noisy)] }) ∧
    (∀ count, count < 176 →
      (r.sampler = .idle ∨ (∃ c, r.sampler = .character c) →
        hands (.stationStopBitLow count) { r with sampler := .lowWatch, lowCount := count }) ∧
      (r.sampler = .markWait ∨ r.sampler = .lowWatch → exec (.stationStopBitLow count) s = .next s)) ∧
    (r.sampler = .markWait →
      exec .stationFirstHighSample s = .next { s with receiver := { r with sampler := .idle, lowCount := 0 } }) ∧
    (∀ k : StationId,
      (s.stations[k].staleTimer = some 0 → s.stations[k].state ≠ .stale →
        exec (.staleTimerExpiry k) s =
          .next (setFlagBoth .stationState
            { s with stations := put s.stations k { s.stations[k] with state := .stale, staleTimer := none } })) ∧
      (s.stations[k].staleTimer ≠ some 0 → exec (.staleTimerExpiry k) s = .next s)) ∧
    (∀ (q : Req) (baud : Half), ListeningInTime q.master s → s.govHolder = some q.master → 1200 ≤ baud.toNat →
      baud.toNat ≤ 38400 →
      let u := acceptFrame q.master s
      let n := (64000000 + baud.toNat / 2) / baud.toNat
      let answer : Reply := .ok (byte2 (n / 64) ++ byte1 (n % 64))
      (baud.toNat = r.baud → exec (.stationLineSettings q baud) s = .next (respond q 0x66 (u, answer))) ∧
      (baud.toNat ≠ r.baud →
        exec (.stationLineSettings q baud) s =
          .next (respond q 0x66
            ({ u with
                receiver :=
                  { r with
                    baud := baud.toNat, clock := { fraction := 0, left := n / 64 }, sampler := .markWait, lowCount := 0,
                    decided := none, assembler := .hunt } },
              answer))))

/-- The serial lines sample by sample (R135, R136, R170, R172, R177), of which time gives each receiver the next at its sample
interval (R134). The station sampler: the samples of a character's start bit, eight data bits and a high stop bit hand on its
byte at sample 9 of the stop bit; a line that is high at sample 8 of the start bit was a false start; 176 low samples are a
break, and 153 to 175 of them and a high one a framing error; in MARK_WAIT a low sample is counted and no more, also the 176th,
which is the model's choice (log entry 23), and a high one ends it. A bit is decided by the majority of its samples 7, 8
and 9, and a triple that disagrees makes the character noisy. A
link port: the samples of a character of its format, with parity bit `parity` and stop bit `stop`, decide its byte with PARITY,
FRAMING and BREAK, and leave the receiver waiting for a high sample where the stop bit was low; in RESPONDING, where alone
transmit-enable is asserted, a sample does nothing but move the line; in TURNAROUND a start edge or a line that stays low stops
the idle count, which runs on, or begins anew, where the line is idle. -/
def Obligations.ReceiversSampleTheirLines : Prop :=
  let bits : Byte → List Bool := fun b => (List.range 8).map fun i => b.getLsbD i
  let held : List Bool → List Bool := fun xs => xs.flatMap fun x => List.replicate 16 x
  (∀ (rest : List Bool) (r : StationReceiver), r.sampler = .idle → r.lowCount = 0 → r.decided = none →
    (∀ b : Byte, r.input.ahead = held (false :: bits b) ++ List.replicate 9 true ++ rest →
      sampleStation^[153] r =
        { r with input := { level := true, ahead := rest }, decided := some (.character b false) }) ∧
    (∀ k : Nat, 1 ≤ k → k ≤ 7 → r.input.ahead = List.replicate k false ++ List.replicate (8 - k) true ++ rest →
      sampleStation^[8] r = { r with input := { level := true, ahead := rest } }) ∧
    (r.input.ahead = List.replicate 176 false ++ rest →
      sampleStation^[176] r =
        { r with
          input := { level := false, ahead := rest }, sampler := .markWait, lowCount := 176, decided := some .brk }) ∧
    (∀ k : Nat, 153 ≤ k → k < 176 → r.input.ahead = List.replicate k false ++ true :: rest →
      sampleStation^[k + 1] r =
        { r with input := { level := true, ahead := rest }, decided := some .framingError })) ∧
  (∀ r : StationReceiver, r.sampler = .markWait →
    sampleStation r =
      { r with
        input := r.input.next, sampler := if r.input.next.level then .idle else .markWait
        lowCount := if r.input.next.level then 0 else r.lowCount + 1 }) ∧
  (∀ (last bit : Nat) (l7 l8 l9 : Bool) (c : Reception), 1 ≤ bit → bit < last → c.samples = 16 * bit + 6 → c.highs = 0 →
    ∃ c7 c8, c.take last l7 = .goesOn c7 ∧ c7.take last l8 = .goesOn c8 ∧
      c8.take last l9 = .goesOn
        { samples := 16 * bit + 9, highs := 0, bits := c.bits ++ [(l7 && l8) || (l7 && l9) || (l8 && l9)]
          noisy := c.noisy || !(l7 == l8 && l8 == l9) }) ∧
  (∀ (b : Byte) (parity stop : Bool) (rest : List Bool) (p : Port), p.receiver = .idle → p.input.level = true →
    p.phase = .listen →
    let sent := false :: bits b ++ if p.line.even then [parity] else []
    p.input.ahead = held sent ++ List.replicate 9 stop ++ rest →
    samplePort^[16 * sent.length + 9] p =
      { p with
        input := { level := stop, ahead := rest }, receiver := if stop then .idle else .waitHigh
        decided := some
          (b,
            { noise := false, parity := p.line.even && ((bits b ++ [parity]).count true % 2 == 1)
              framing := !stop && sent.contains true, brk := !stop && !sent.contains true }) }) ∧
  (∀ (p : Port),
    (p.phase = .responding → samplePort p = { p with input := p.input.next }) ∧
    (p.phase = .turnaround → p.receiver = .idle → p.input.level = true →
      (p.input.next.level = false →
        samplePort p = { p with input := p.input.next, receiver := .character .start, lineTimer := none }) ∧
      (p.input.next.level = true →
        samplePort p =
          { p with
            input := p.input.next
            lineTimer := some
              (p.lineTimer.getD
                (2 * ((if p.line.even then 11 else 10) * ((64000000 + p.line.baud / 2) / p.line.baud)))) })) ∧
    (p.phase = .turnaround → p.receiver = .waitHigh → p.input.next.level = false →
      samplePort p = { p with input := p.input.next, lineTimer := none })) ∧
  (∀ (m : Master) (s : State), transmitEnable m s = true ↔ (port m s).phase = .responding)

/-! ### Reads of the plant -/

/-- Every read answers what its owner holds and changes nothing: those of CLM, DST and the executors (R104, R51, R70, R61) and
those of ACT, the field channels, the governor, the stations and the ports (R2, R152, R162, R167, R116, R146, R139, R179), in
the layouts of R186 and R189 to R193; a number out of range is refused OUT_OF_RANGE; and a master that reads its own link
finds it in HANDLING. -/
def Obligations.ReadsAnswerWhatIsHeld : Prop :=
  (∀ (q : Req) (s : State), Listening q.master s →
     let u := acceptFrame q.master s
     exec (.readClaims q) s =
       .next (respond q 0x12
         (u, .ok
           [holderByte s.groupHolders[(0 : GroupId)], holderByte s.groupHolders[(1 : GroupId)],
             holderByte s.groupHolders[(2 : GroupId)], holderByte s.groupHolders[(3 : GroupId)],
             holderByte s.groupHolders[(4 : GroupId)], holderByte s.govHolder])) ∧
     (∀ (slot : Byte) (k : SlotId), index? 128 slot = some k →
       exec (.readDescriptor q slot) s =
         .next (respond q 0x22
           (u, .ok
             ((match s.slots[k].state with
               | .free => [slot, 0, 0, 255]
               | .written w => [slot, 1, masterByte w, 255]
               | .bound w g => [slot, 2, masterByte w, BitVec.ofNat 8 g.val]) ++
               descriptorBytes s.slots[k].record)))) ∧
     (∀ (group : Byte) (g : GroupId), index? 5 group = some g →
       exec (.readChain q group) s = .next (respond q 0x33 (u, .ok (chainBytes g s.executors[g]))) ∧
       exec (.readCursors q group) s =
         .next (respond q 0x35
           (u, .ok [group, BitVec.ofNat 8 s.executors[g].c1.val, BitVec.ofNat 8 s.executors[g].c2.val]))) ∧
     (∀ slot : Byte, 128 ≤ slot.toNat →
       exec (.readDescriptor q slot) s = .next (respond q 0x22 (u, .refuse .outOfRange []))) ∧
     (∀ group : Byte, 5 ≤ group.toNat →
       exec (.readChain q group) s = .next (respond q 0x33 (u, .refuse .outOfRange [])) ∧
       exec (.readCursors q group) s = .next (respond q 0x35 (u, .refuse .outOfRange [])))) ∧
  (∀ (q : Req) (s : State), Listening q.master s →
     let u := acceptFrame q.master s
     (∀ (b : Byte) (n : ActId), index? 16 b = some n →
       exec (.readActuatorConfiguration q b) s =
         .next (respond q 0x44 (u, .ok (configBytes n s.actuators[n].cfg s.outputs[n]))) ∧
       exec (.readActuatorStatus q b) s = .next (respond q 0x45 (u, .ok (statusBytes n s.actuators[n] s))) ∧
       exec (.readMeasurement q b) s = .next (respond q 0x52 (u, .ok (captureBytes n s.captures[n])))) ∧
     (∀ b : Byte, 16 ≤ b.toNat →
       exec (.readActuatorConfiguration q b) s = .next (respond q 0x44 (u, .refuse .outOfRange [])) ∧
       exec (.readActuatorStatus q b) s = .next (respond q 0x45 (u, .refuse .outOfRange [])) ∧
       exec (.readMeasurement q b) s = .next (respond q 0x52 (u, .refuse .outOfRange []))) ∧
     exec (.readOutputs q) s =
       .next (respond q 0x50 (u, .ok ((List.finRange 16).flatMap fun n => outputBytes s.outputs[n]))) ∧
     exec (.readInputs q) s =
       .next (respond q 0x54
         (u, .ok ((List.finRange 24).flatMap (fun d => inputBytes s.inputs[d]) ++ tripBytes s.ptrip))) ∧
     exec (.readGovernorSettings q) s = .next (respond q 0x62 (u, .ok (settingsBytes s.governor))) ∧
     exec (.readGovernorStatus q) s = .next (respond q 0x63 (u, .ok (governorBytes s.governor))) ∧
     (∀ (b : Byte) (k : StationId), index? 8 b = some k →
       exec (.readStation q b) s = .next (respond q 0x65 (u, .ok (stationBytes k s.stations[k])))) ∧
     (∀ b : Byte, 8 ≤ b.toNat → exec (.readStation q b) s = .next (respond q 0x65 (u, .refuse .outOfRange []))) ∧
     exec (.readStationLineStatus q) s = .next (respond q 0x67 (u, .ok (lineStatusBytes s.receiver))) ∧
     exec (.readLinkStatus q 1) s = .next (respond q 0x71 (u, .ok (linkStatusBytes .m1 (port .m1 u)))) ∧
     exec (.readLinkStatus q 2) s = .next (respond q 0x71 (u, .ok (linkStatusBytes .m2 (port .m2 u)))) ∧
     (port q.master u).phase = .handling ∧
     (∀ b : Byte, b ≠ 1 → b ≠ 2 →
       exec (.readLinkStatus q b) s = .next (respond q 0x71 (u, .refuse .outOfRange []))))

/-! ### The link ports -/

/-- LINK SETTINGS and the end of a response (R178, R177, R110, R172): settings out of range are refused whole; accepted ones are
held as pending, the line settings staying, and the answer carries the new divisor; at the end of the response the pending
settings become the line settings and the silence timer restarts with the new timeout, or nothing was pending and both stay;
the port is in LISTEN with its receiver waiting for a high sample. Entries that wait are then taken in their order: a request's
frame among them is answered, and what came after it waits on; entries that end inside a frame start the inter-byte timer
(R174). The model's choice: the silence timer restarts also on a link that has fallen SILENT and the sample clock goes on where
the settings are the same (log entry 18), and a sample clock that begins anew gives its first sample one interval later (log
entry 9). -/
def Obligations.LinkSettingsTakeEffect : Prop :=
  ∀ s : State,
    (∀ (q : Req) (r : RawLink), Listening q.master s →
      let u := acceptFrame q.master s
      let fits := 1200 ≤ r.baud.toNat ∧ r.baud.toNat ≤ 115200 ∧ r.parity.toNat ≤ 1 ∧ 1 ≤ r.silence.toNat ∧
        r.silence.toNat ≤ 120
      let n := (64000000 + r.baud.toNat / 2) / r.baud.toNat
      (¬ fits → exec (.linkSettings q r) s = .next (respond q 0x70 (u, .refuse .outOfRange []))) ∧
      (fits →
        exec (.linkSettings q r) s =
          .next (respond q 0x70
            (setPort q.master
              { port q.master u with
                pendingLine := some
                  { baud := r.baud.toNat, even := decide (r.parity = 1), silence := r.silence.toNat } } u,
              .ok (byte2 (n / 64) ++ byte1 (n % 64)))))) ∧
    (∀ m, (port m s).phase = .responding → (port m s).lineTimer = some 0 →
      let p := port m s
      let line := p.pendingLine.getD p.line
      let released : Port :=
        { p with
          line := line, pendingLine := none
          clock := if line = p.line then p.clock
            else { fraction := 0, left := (64000000 + line.baud / 2) / line.baud / 64 }
          silenceTimer := (p.pendingLine.map fun l => l.silence * 1000000).or p.silenceTimer
          phase := .listen, receiver := .waitHigh, response := none, lineTimer := none }
      let clean : Byte → FifoEntry := fun b => { byte := b, marks := .clean, overrun := false }
      (p.fifo = [] → exec (.responseSent m) s = .next (setPort m released s)) ∧
      (∀ e rest, p.fifo = e :: rest →
        exec (.responseSent m) s = .next (listenNow m (takeEntry m (setPort m released s)))) ∧
      (p.assembler = .hunt →
        (∀ (i : Instr) (q : Req) (code : Byte) (payload : List Byte) (rest : List FifoEntry), q.master = m →
          i.wellFormed = true → requestOf i = some q → requestBytes i = some (code, payload) →
          p.fifo = (requestFrame q.tag code payload).map clean ++ rest →
          exec (.responseSent m) s = exec i (setPort m { released with fifo := rest } s)) ∧
        (∀ b : Byte, 3 ≤ b.toNat → b.toNat ≤ 60 → p.fifo = [clean 0xD2, clean b] →
          exec (.responseSent m) s =
            .next (setPort m
              { released with fifo := [], assembler := .body b.toNat [b] false, interByte := some 25000 } s))))

/-- The attention requests and the ALERT line (R180, R181, R184): CLEAR ATTENTION clears exactly the named flags and answers
the flags after it, SET MASK makes the named set the whole mask, READ ATTENTION answers flags and mask and changes nothing;
each acts on the requester's own port alone; and the ALERT line is low exactly while some flag is set whose enable is set. -/
def Obligations.AttentionRequests : Prop :=
  (∀ (q : Req) (set : Half) (s : State), Listening q.master s →
    let u := acceptFrame q.master s
    let flags := (port q.master s).flags
    (∃ t, exec (.clearAttention q set) s = .next (respond q 0x73 (t, .ok (byte2 (flags &&& ~~~set).toNat))) ∧
      t = setPort q.master { port q.master u with flags := flags &&& ~~~set } u ∧
      (∀ f, flagSet q.master f t = (flagSet q.master f s && !(set.getLsbD (flagBit f)))) ∧
      ∀ f, flagSet q.master.other f t = flagSet q.master.other f s) ∧
    exec (.setMask q set) s =
      .next (respond q 0x74 (setPort q.master { port q.master u with mask := set } u, .ok [])) ∧
    exec (.readAttention q) s =
      .next (respond q 0x72 (u, .ok (byte2 flags.toNat ++ byte2 (port q.master s).mask.toNat)))) ∧
  (∀ (m : Master) (s : State),
    alertLow m s = true ↔ ∃ f, flagSet m f s = true ∧ (port m s).mask.getLsbD (flagBit f) = true)

/-- Frames that are no request, and the timers of a port (R174, R176, R177): an unknown code is answered UNKNOWN_REQUEST and a
length its code does not allow BAD_LENGTH, with no payload and no effect at any owner; as commands the two are answered so
whatever code and length they name, which is the model's choice (log entry 17). The inter-byte timer's expiry abandons the
frame in progress and records TIMEOUT; the end of TURNAROUND, where the idle count has run out, begins the sending of the
response, whose characters are lead, length, the counted bytes and two check bytes; a timer that is absent or has time left
does not expire (log entry 5). While it sends (R169, R177) the port drives onto its line, for each N ÷ 64 µs of the time gone,
the bit due of the response's characters, back to back, each a low start bit, the data from the least significant bit on, the
even parity bit under EVEN and a high stop bit; in every other phase it drives nothing. -/
def Obligations.NoRequestAndPortTimers : Prop :=
  ∀ s : State,
    (∀ (q : Req) (code : Byte) (length : Nat), Listening q.master s →
      exec (.unknownRequest q code) s =
        .next (respond q code (acceptFrame q.master s, .refuse .unknownRequest [])) ∧
      exec (.badLength q code length) s = .next (respond q code (acceptFrame q.master s, .refuse .badLength []))) ∧
    (∀ (m : Master) (code high low : Byte) (payload : List Byte),
      let q : Req := { master := m, tag := join2 high low }
      (parseRequest q code payload = .unknown →
        handleFrame m (code :: high :: low :: payload) s =
          respond q code (acceptFrame m s, .refuse .unknownRequest [])) ∧
      (parseRequest q code payload = .badLength →
        handleFrame m (code :: high :: low :: payload) s =
          respond q code (acceptFrame m s, .refuse .badLength []))) ∧
    (∀ m : Master, (port m s).interByte = some 0 →
      exec (.interByteTimeout m) s =
        .next (setPort m { port m s with assembler := .hunt, interByte := none, lastError := .timeout } s)) ∧
    (∀ m : Master,
      ((port m s).interByte ≠ some 0 → exec (.interByteTimeout m) s = .next s) ∧
      ((port m s).lineTimer ≠ some 0 →
        exec (.turnaroundEnd m) s = .next s ∧ exec (.responseSent m) s = .next s) ∧
      ((port m s).silenceTimer ≠ some 0 → exec (.silenceExpiry m) s = .next s)) ∧
    (∀ (m : Master) (r : Response), (port m s).phase = .turnaround → (port m s).lineTimer = some 0 →
      (port m s).response = some r →
      let line := (port m s).line
      exec (.turnaroundEnd m) s =
        .next (setPort m
          { port m s with
            phase := .responding, receiver := .waitHigh
            lineTimer := some
              ((responseFrame r).length * ((if line.even then 11 else 10) * ((64000000 + line.baud / 2) / line.baud))) }
          s)) ∧
    (∀ m : Master,
      let line := (port m s).line
      let bitTime := (64000000 + line.baud / 2) / line.baud
      let charBits : Nat := if line.even then 11 else 10
      ((port m s).phase ≠ .responding → transmitLevel m s = none) ∧
      (∀ (r : Response) (left gone : Nat), (port m s).phase = .responding → (port m s).response = some r →
        (port m s).lineTimer = some left → 0 < left → gone + left = (responseFrame r).length * (charBits * bitTime) →
        let byte := (responseFrame r).getD (gone / (charBits * bitTime)) 0
        let bit := gone % (charBits * bitTime) / bitTime
        transmitLevel m s = some
          (if bit = 0 then false
          else if bit ≤ 8 then byte.getLsbD (bit - 1)
          else if bit = 9 ∧ line.even = true then
            decide (((List.range 8).countP fun i => byte.getLsbD i) % 2 = 1)
          else true)))

/-- A character that completes outside LISTEN, and an errored one in LISTEN, as a command alone (R170 to R173, R177): RESPONDING
takes no notice; TURNAROUND stores it as the newest entry, with OVERRUN where that was pending, or loses it with the
overrun-pending mark set where 16 wait, and its idle count begins anew at the character's end, or, where its stop bit was low,
is absent until the line goes high (log entry 8); in LISTEN an errored entry returns the assembler to HUNT with the first
present of OVERRUN, BREAK, FRAMING and PARITY recorded, and a clean one is taken (R173 to R175): a lead begins a frame; a length
of 3 to 60 its body, and any other value records LENGTH and is examined as a lead again; the body's last byte leads to CHECK;
and a second check byte with which the CRC-16 does not agree discards the frame with no response and records NOISE where a byte
of it was noisy, and else CHECK. The receiver looks for the next start edge, or after a low stop bit
waits for a high sample. A character that the receiver has decided is stored in the same way, with the receiver and the idle
count as its sample left them. -/
def Obligations.CharactersStoredAndErrored : Prop :=
  ∀ (m : Master) (byte : Byte) (marks : Marks) (s : State),
    let p := port m s
    let entry := entryOf p.line.even p.overrunPending byte marks
    let low := marks.framing || marks.brk
    let full := 2 * ((if p.line.even then 11 else 10) * ((64000000 + p.line.baud / 2) / p.line.baud))
    let receiver : Receiver := if low then .waitHigh else .idle
    (p.phase = .responding → exec (.linkCharacterReceived m byte marks) s = .next s) ∧
    (p.phase = .turnaround →
      (p.decided ≠ some (byte, marks) →
        let idle := if low then none else some full
        (p.fifo.length < 16 →
          exec (.linkCharacterReceived m byte marks) s =
            .next (setPort m
              { p with
                fifo := p.fifo ++ [entry], overrunPending := false, receiver := receiver, lineTimer := idle } s)) ∧
        (16 ≤ p.fifo.length →
          exec (.linkCharacterReceived m byte marks) s =
            .next (setPort m { p with overrunPending := true, receiver := receiver, lineTimer := idle } s))) ∧
      (p.decided = some (byte, marks) → p.fifo.length < 16 →
        exec (.linkCharacterReceived m byte marks) s =
          .next (setPort m { p with fifo := p.fifo ++ [entry], overrunPending := false, decided := none } s))) ∧
    (p.phase = .listen → p.fifo = [] → p.decided ≠ some (byte, marks) →
      entry.overrun || entry.marks.brk || entry.marks.framing || entry.marks.parity →
      exec (.linkCharacterReceived m byte marks) s =
        .next (setPort m
          { p with
            overrunPending := false, receiver := receiver, assembler := .hunt, interByte := none
            lastError :=
              if entry.overrun then .overrun else if entry.marks.brk then .brk
              else if entry.marks.framing then .framing else .parity } s)) ∧
    (p.phase = .listen → p.fifo = [] → p.decided ≠ some (byte, marks) →
      (entry.overrun || entry.marks.brk || entry.marks.framing || entry.marks.parity) = false →
      let takes := fun (a : LinkAssembler) (error : LinkError) =>
        exec (.linkCharacterReceived m byte marks) s =
          .next (setPort m
            { p with
              receiver := receiver, assembler := a, interByte := if a = .hunt then none else some 25000
              lastError := error } s)
      let hunted : LinkAssembler := if byte = 0xD2 then .length marks.noise else .hunt
      (p.assembler = .hunt → takes hunted p.lastError) ∧
      (∀ noisy, p.assembler = .length noisy →
        (3 ≤ byte.toNat → byte.toNat ≤ 60 → takes (.body byte.toNat [byte] (noisy || marks.noise)) p.lastError) ∧
        (byte.toNat < 3 ∨ 60 < byte.toNat → takes hunted .length)) ∧
      (∀ length taken noisy, p.assembler = .body length taken noisy →
        takes
          (if taken.length < length then .body length (taken ++ [byte]) (noisy || marks.noise)
          else .check length (taken ++ [byte]) none (noisy || marks.noise)) p.lastError) ∧
      (∀ length taken noisy,
        (p.assembler = .check length taken none noisy →
          takes (.check length taken (some byte) (noisy || marks.noise)) p.lastError) ∧
        (∀ high, p.assembler = .check length taken (some high) noisy → crc16 taken ≠ join2 high byte →
          takes .hunt (if noisy || marks.noise then .noise else .check))))

/-- Every request command is answered by exactly one response on its own link (R110, R172, R176, R177): its status, the
request's code and the echoed tag are held for sending after two idle character times, which begin to be counted where the
line is idle; the status is 0 or a refusal code of R187, at most 18; the silence timer restarts and the link is ACTIVE, and the
other port keeps its line, its entries, its phase and its response. -/
def Obligations.EveryRequestAnsweredOnce : Prop :=
  ∀ (c : Instr) (q : Req) (s : State), requestOf c = some q → Listening q.master s →
    ∃ (t : State) (r : Response), exec c s = .next t ∧
      (port q.master t).phase = .turnaround ∧ (port q.master t).response = some r ∧ r.tag = q.tag ∧
      r.status.toNat ≤ 18 ∧
      ((port q.master s).input.level = true → (∀ c, (port q.master s).receiver ≠ .character c) →
        (port q.master t).lineTimer =
          some
            (2 * ((if (port q.master s).line.even then 11 else 10) *
              ((64000000 + (port q.master s).line.baud / 2) / (port q.master s).line.baud)))) ∧
      ((port q.master s).input.level = false ∨ (∃ c, (port q.master s).receiver = .character c) →
        (port q.master t).lineTimer = none) ∧
      (∀ code payload, requestBytes c = some (code, payload) → r.code = code) ∧
      (port q.master t).silenceTimer = some ((port q.master s).line.silence * 1000000) ∧
      (port q.master t).active = true ∧ (port q.master t).line = (port q.master s).line ∧
      (port q.master t).fifo = (port q.master s).fifo ∧ (port q.master t).assembler = .hunt ∧
      (port q.master.other t).phase = (port q.master.other s).phase ∧
      (port q.master.other t).response = (port q.master.other s).response ∧
      (port q.master.other t).fifo = (port q.master.other s).fifo ∧
      (port q.master.other t).line = (port q.master.other s).line ∧
      (port q.master.other t).silenceTimer = (port q.master.other s).silenceTimer

/-- Reading and writing requests agree (R176, R183, R186, R189, R190, R192, R193): the code and payload that carry a
well-formed request command, with every field at every value, are read as that command. -/
def Obligations.RequestsReadAsWritten : Prop :=
  ∀ (i : Instr) (q : Req) (code : Byte) (payload : List Byte), i.wellFormed = true → requestOf i = some q →
    requestBytes i = some (code, payload) → parseRequest q code payload = .command i

/-- The layouts of the records that reads answer (R183, R189 to R193), byte for byte, the descriptor record and its cleared form
among them: two-byte fields with the high byte first, signed fields in two's complement, each enumerated field by the codes of
its table, and a field that is absent by its absence code. The model's choice: a value whose absence has no code of its own is
0 there (log entry 26), and the time left of a timer that has run out and whose expiry is not yet taken is 0, the code of an
absent one (log entry 25). -/
def Obligations.RecordLayouts : Prop :=
  let two : Nat → List Byte := fun x => [BitVec.ofNat 8 (x / 256), BitVec.ofNat 8 x]
  let four : Nat → List Byte := fun x => two (x / 65536) ++ two x
  let one : Nat → Byte := fun x => BitVec.ofNat 8 x
  let yes : Bool → Byte := fun b => if b then 1 else 0
  let whole : Option Nat → Nat := fun t => (t.getD 0 + 999999) / 1000000
  let number : Option Nat → Byte := fun x => one (x.getD 255)
  let status : CaptureStatus → Byte := fun x => match x with
    | .ok => 1
    | .overrange => 2
    | .noSignal => 3
  let divisor : Nat → List Byte := fun baud =>
    two ((64000000 + baud / 2) / baud / 64) ++ [one ((64000000 + baud / 2) / baud % 64)]
  (∀ d : Descriptor,
    descriptorBytes d =
      ((match d.op with
        | .move n _ _ => [0, one n.val, 0]
        | .start n => [1, one n.val, 0]
        | .stop n => [2, one n.val, 0]
        | .follow n => [3, one n.val, 0]
        | .dwell => [4, 0, 0]
        | .awaitInput i level _ => [5, one i.val, yes level]
        | .awaitMeas c rel _ => [6, one c.val, match rel with | .above => 0 | .below => 1]
        | .cursor c action => [7, match c with | .c1 => 1 | .c2 => 2, match action with | .load => 0 | .add => 1]) :
          List Byte) ++
        (match d.operand with
          | .imm v => 0 :: two v.toNat
          | .row r => [1, 0, one r.val]
          | .idx b x => [2, match b with | .c0 => 0 | .c1 => 1 | .c2 => 2, one ((x.toInt + 256) % 256).toNat]
          | .idxu b x => [3, match b with | .c0 => 0 | .c1 => 1 | .c2 => 2, one ((x.toInt + 256) % 256).toNat]) ++
        [yes d.pair] ++
        two (match d.op with | .move _ rate _ => rate | .awaitInput _ _ t => t | .awaitMeas _ _ t => t | _ => 0) ++
        ([match d.op with | .move _ _ wait => yes wait | _ => 0,
          match d.onFail with | .halt => 0 | .continue => 1 | .abort => 2 | .branch _ => 3, number (d.next.map Fin.val),
          match d.onFail with | .branch alt => number (alt.map Fin.val) | _ => 255] : List Byte)) ∧
  descriptorBytes Descriptor.cleared = [0, 0, 0, 0, 0, 0, 0, 0, 0, 0, 0, 255, 255] ∧
  (∀ (n : ActId) (c : ActConfig) (o : OutputChannel),
    configBytes n c o =
      ([one n.val, (match c.kind with | .none => 0 | .pump => 1 | .valve => 2), number (c.group.map Fin.val)] : List Byte) ++
        two c.min ++ two c.max ++ two c.maxRate ++ two c.defaultRate ++ two (o.pendingPeriod.getD o.activePeriod) ++
        ([yes (o.polarity == .activeLow), number (c.proofInput.map Fin.val), one (c.proofTimeout.getD 0),
          (match c.safeAction with | none => 0 | some .hold => 1 | some .go => 2 | some .release => 3)] : List Byte) ++
        two (c.safeValue.getD 65535) ++
        ([yes (c.tripScope == .group), number (c.permissive.map fun p => p.input.val),
          (match c.permissive with | none => 255 | some p => yes p.sense),
          number (c.feedback.map fun f => f.channel.val)] : List Byte) ++
        two ((c.feedback.map FeedbackConfig.tolerance).getD 65535) ++
        [one ((c.feedback.map FeedbackConfig.time).getD 0)]) ∧
  (∀ (n : ActId) (a : Actuator) (s : State),
    let level : Option InputId → Byte := fun d => match d with
      | none => 255
      | some d => yes s.inputs[d].filtered
    statusBytes n a s =
      ([one n.val,
        (match a.state with
          | .outOfService => 0 | .stopped => 1 | .starting => 2 | .running => 3 | .stopping _ => 4 | .faulted => 5
          | .holding => 6 | .moving => 7),
        (match a.state with | .stopping .rampDown => 1 | .stopping .dropWait => 2 | _ => 0)] : List Byte) ++
        two a.command ++
        ([(match a.ramp.map Ramp.origin with
          | none => 0 | some .move => 1 | some .stop => 2 | some .follow => 3 | some .safe => 4)] : List Byte) ++
        two ((a.ramp.map Ramp.target).getD 0) ++ two ((a.ramp.map Ramp.rateStep).getD 0) ++
        [one a.accumulator, yes a.follow.isSome] ++ two (a.follow.getD 0) ++
        two ((a.feedback.map Feedback.value).getD 0) ++
        ([(match a.feedback with | none => 0 | some v => status v.status),
          (match a.fault with
            | .none => 0 | .proofFail => 1 | .proofLost => 2 | .stopFail => 3 | .permissiveLost => 4 | .deviation => 5
            | .feedbackLost => 6 | .plantTrip => 7 | .groupTrip => 8),
          yes a.furtherFault] : List Byte) ++
        two a.commandAtFault ++
        [level a.cfg.proofInput, level (a.cfg.permissive.map Permissive.input), one (whole a.proofTimer),
          one (whole a.deviationTimer), one (whole a.lostTimer)]) ∧
  (∀ (g : GroupId) (x : Executor),
    chainBytes g x =
      ([one g.val, (match x.state with | .idle => 0 | .active => 1 | .halted => 2),
        (match x.starter with | none => 0 | some .m1 => 1 | some .m2 => 2),
        number (x.startSlot.map Fin.val), number (x.current.map Fin.val),
        (match x.waiting with
          | none => 0 | some .runProof => 1 | some .stopProof => 2 | some .landing => 3 | some .feedback => 4
          | some .timer => 5 | some .input => 6 | some .measurement => 7)] : List Byte) ++
        two (whole x.timer) ++
        ([one x.stepCount, (match x.currentAccepted with | none => 0 | some false => 1 | some true => 2),
          (match x.retained with | none => 0 | some r => if r.second.isSome then 2 else 1)] : List Byte) ++
        two ((x.retained.map Retained.first).getD 0).toNat ++ two ((x.retained.bind Retained.second).getD 0).toNat ++
        ([number ((x.retained.bind Retained.row).map Fin.val), number (x.lastFailure.map fun f => f.slot.val),
          (match x.lastFailure.map Failure.reason with
            | none => 0 | some .notAvailable => 1 | some .wrongState => 2 | some .permissive => 3
            | some .governorOff => 4 | some .proofFail => 5 | some .stopFail => 6 | some .faultedDuring => 7
            | some .timeout => 8),
          (match x.lastFailure.map Failure.stage with | none => 0 | some .acceptance => 1 | some .execution => 2),
          (match x.outcome with
            | .none => 0 | .complete => 1 | .failed => 2 | .cancelled => 3 | .tripped => 4 | .reset => 5)] : List Byte)) ∧
  (∀ (o : OutputChannel) (x : InputFilter) (p : TripFilter),
    outputBytes o =
      [yes (o.condition == .driven), yes (o.polarity == .activeLow)] ++ two o.activePeriod ++
        two (o.pendingPeriod.getD 0) ++ two o.activeDuty ++ two o.pendingDuty ++ [yes o.runOutput] ∧
    inputBytes x = [yes x.filtered, yes x.raw, one x.debounce] ∧ tripBytes p = [yes p.raw, yes p.asserted]) ∧
  (∀ (c : CaptureId) (x : Capture),
    captureBytes c x =
      ([one c.val, (match x.mode with | .off => 0 | .frequency => 1 | .duty => 2), one x.prescale, one x.timeout] : List Byte) ++
        two x.gain ++ two x.offset.toNat ++
        ([(match x.phase with | .waitEdge => 0 | .counting _ _ => 1 | .high _ => 2 | .low _ _ => 3),
          (match x.phase with | .counting seen _ => one seen | _ => 0)] : List Byte) ++
        four (x.lastRaw.getD 0xFFFFFFFF) ++ two x.value ++ [status x.status, one ((x.timer.getD 0 + 99999) / 100000)]) ∧
  (∀ g : Governor,
    settingsBytes g =
      [one g.kp, one g.ki] ++ two g.dmin ++ two g.dmax ++ two g.dstep ++ two g.holdTime ++ two g.fallback ∧
    governorBytes g =
      ([(match g.mode with | .off => 0 | .hold => 1 | .fallback => 2 | .regulate => 3)] : List Byte) ++ two g.demand ++
        four g.integral ++ two (whole g.holdTimer) ++ [number g.eligible, yes g.lastError.isSome] ++
        [one ((g.lastError.map fun e => e.entry.val).getD 0)] ++
        two (BitVec.ofInt 16 ((g.lastError.map GovError.error).getD 0)).toNat ++
        four (BitVec.ofInt 32 ((g.lastError.map GovError.p).getD 0)).toNat ++
        four (BitVec.ofInt 32 ((g.lastError.map GovError.raw).getD 0)).toNat) ∧
  (∀ (k : StationId) (x : Station),
    stationBytes k x =
      [one k.val, yes x.enabled, one x.address] ++ two x.setpoint ++
        ([one x.staleTime, (match x.state with | .never => 0 | .fresh => 1 | .stale => 2 | .bad => 3)] : List Byte) ++
        two ((x.reading.map Reading.dp).getD 0) ++
        ([(x.reading.map Reading.sequence).getD 0,
          (match x.reading.map Reading.quality with
            | none => 0 | some .good => 0 | some .uncertain => 1 | some .bad => 2),
          one (whole x.staleTimer)] : List Byte)) ∧
  (∀ r : StationReceiver,
    lineStatusBytes r =
      two r.baud ++ divisor r.baud ++
        ([(match r.assembler with | .hunt => 0 | .address => 1 | .body _ => 2),
          (match r.lastRejection with
            | .none => 0 | .framing => 1 | .cutShort => 2 | .check => 3 | .noise => 4 | .notEnabled _ => 5
            | .repeated _ => 6),
          (match r.lastRejection with | .notEnabled a => a | .repeated a => a | _ => 0)] : List Byte)) ∧
  (∀ (m : Master) (p : Port),
    linkStatusBytes m p =
      ([(match m with | .m1 => 1 | .m2 => 2), one (p.line.baud / 65536)] : List Byte) ++ two p.line.baud ++
        [yes p.line.even, one p.line.silence] ++ divisor p.line.baud ++
        ([(match p.phase with | .listen => 0 | .handling => 1 | .turnaround => 2 | .responding => 3), yes p.active,
          one p.fifo.length,
          (match p.lastError with
            | .none => 0 | .overrun => 1 | .brk => 2 | .framing => 3 | .parity => 4 | .length => 5 | .timeout => 6
            | .check => 7 | .noise => 8),
          one (whole p.silenceTimer)] : List Byte))

/-- The frame of a request, received character by character (R170 to R173, R175, R185): a port in LISTEN with its assembler in
HUNT, nothing waiting and its receiver idle, which takes the lead, the length, the code, the tag, the payload and the CRC-16
check of a well-formed request as clean characters, comes to exactly the state that the request's command gives. -/
def Obligations.FrameReceivedAsItsCommand : Prop :=
  ∀ (i : Instr) (q : Req) (code : Byte) (payload : List Byte) (s : State), i.wellFormed = true →
    requestOf i = some q → requestBytes i = some (code, payload) → Listening q.master s →
    (port q.master s).assembler = .hunt → (port q.master s).fifo = [] → (port q.master s).interByte = none →
    (port q.master s).overrunPending = false → (port q.master s).receiver = .idle →
    (port q.master s).decided = none →
    (∀ (b : Byte) (t : State),
      exec (.linkCharacterReceived q.master b .clean) t = .next (receiveCharacter q.master b .clean t)) ∧
    exec i s =
      .next ((requestFrame q.tag code payload).foldl (fun t b => receiveCharacter q.master b .clean t) s)

/-! ### What every step keeps -/

/-- The state after power-on has every property that the statements below say each step keeps. -/
def Obligations.ResetHasInvariants : Prop :=
  ActuatorsOk State.reset ∧ OutputsFollow State.reset ∧ TripHeld State.reset ∧ DispatchOk State.reset ∧
    PressureOk State.reset ∧ StationsOk State.reset ∧ PortsOk State.reset

/-- Every step keeps the actuator entries within Chapters 1 and 2 (R6, R7, R9, R31, R33, R39): limits in order, a state of the
kind, the command 0 or within the limits as the state gives, a ramp only with its target, rate step and origin as they may
be, accumulator below 64 and 0 without a ramp, and a follow step only at a RUNNING pump. -/
def Obligations.StepKeepsActuators : Prop :=
  ∀ s t : State, ActuatorsOk s → step s = .next t → ActuatorsOk t

/-- Every step keeps the outputs to the actuators (R7, R8, R43, R150, R151): a channel is RELEASED exactly for an OUT_OF_SERVICE
actuator or a FAULTED valve of safe action RELEASE, a run output is on exactly in STARTING, RUNNING and RAMP_DOWN, and the
pending duty is that of the command. -/
def Obligations.StepKeepsOutputs : Prop :=
  ∀ s t : State, OutputsFollow s → step s = .next t → OutputsFollow t

/-- Every step keeps the plant trip (R28, R29): while the filtered PTRIP level is asserted no actuator is in service and not
FAULTED and no chain runs or is halted; so that, where the outputs follow the actuators, every run output is off. -/
def Obligations.StepKeepsTrip : Prop :=
  (∀ s t : State, TripHeld s → step s = .next t → TripHeld t) ∧
  (∀ s : State, TripHeld s → OutputsFollow s → s.ptrip.asserted = true →
    ∀ n : ActId, s.outputs[n].runOutput = false)

/-- Every step keeps claims, chains and slots in agreement (R46, R53, R93, R108, R111): a chain that runs or is halted has a
starter who holds its group, a BOUND slot was written by the starter of its group's chain, and a FREE slot holds the cleared
record. -/
def Obligations.StepKeepsDispatch : Prop :=
  ∀ s t : State, DispatchOk s → step s = .next t → DispatchOk t

/-- Every step keeps the governor and the stations (R39, R115, R124, R140, R143): D and I within the limits while the mode is
not OFF, the hold timer exactly in HOLD, no follower while OFF, no two enabled station entries at one address, and each
entry's reading and stale timer present as its state gives. -/
def Obligations.StepKeepsPressure : Prop :=
  ∀ s t : State, PressureOk s → StationsOk s → step s = .next t → PressureOk t ∧ StationsOk t

/-- Every step keeps the ports (R171 to R174, R176): at most 16 entries wait and none in LISTEN, no port rests in HANDLING, a
port in TURNAROUND or RESPONDING has its one response and its assembler in HUNT, and the inter-byte timer runs exactly
inside a frame in LISTEN. -/
def Obligations.StepKeepsPorts : Prop :=
  ∀ s t : State, PortsOk s → step s = .next t → PortsOk t

end
end

