-- ==== Sys2Proof/Laws/State.lean ====
section
/-! SUPPORT. What each named update of the state does to each field: one lemma for each field and update, so that no later
proof unfolds a record update. -/

namespace Sys2Proof.Machine

/-! ### Tables -/

/-- Simp reads an entry by the number of its index. -/
@[simp] theorem put_at_self {α : Type} {n : Nat} (t : Table α n) (i : Fin n) (x : α) : (put t i x)[i.val] = x := by
  simp [put]

theorem get_put {α : Type} {n : Nat} (t : Table α n) (i j : Fin n) (x : α) :
    (put t i x)[j] = if j = i then x else t[j] := by
  by_cases h : j = i
  · subst h; simp
  · have e : i.val ≠ j.val := fun e => h (Fin.ext e.symm)
    simp [put, e, h]

@[simp] theorem put_at {α : Type} {n : Nat} (t : Table α n) (i j : Fin n) (x : α) :
    (put t i x)[j.val] = if j = i then x else t[j.val] := get_put t i j x

theorem put_self {α : Type} {n : Nat} (t : Table α n) (i : Fin n) (x : α) : (put t i x)[i] = x := by simp

theorem put_other {α : Type} {n : Nat} (t : Table α n) {i j : Fin n} (h : j ≠ i) (x : α) :
    (put t i x)[j] = t[j] := by simp [h]

theorem get_each {α : Type} {n : Nat} (f : Fin n → α → α) (t : Table α n) (i : Fin n) :
    (each f t)[i] = f i t[i] := by simp [each]

@[simp] theorem each_at {α : Type} {n : Nat} (f : Fin n → α → α) (t : Table α n) (i : Fin n) :
    (each f t)[i.val] = f i t[i.val] := get_each f t i

/-- Two tables with the same entries are the same table. -/
theorem table_ext {α : Type} {n : Nat} {t u : Table α n} (h : ∀ i : Fin n, t[i] = u[i]) : t = u :=
  Vector.ext fun i hi => h ⟨i, hi⟩

/-! ### Ports -/

@[simp] theorem port_setPort_self (m : Master) (p : Port) (s : State) : port m (setPort m p s) = p := by cases m <;> rfl

@[simp] theorem port_setPort_other (m : Master) (p : Port) (s : State) :
    port m.other (setPort m p s) = port m.other s := by cases m <;> rfl

@[simp] theorem setPort_setPort (m : Master) (p q : Port) (s : State) : setPort m p (setPort m q s) = setPort m p s := by
  cases m <;> rfl

@[simp] theorem setPort_port (m : Master) (s : State) : setPort m (port m s) s = s := by cases m <;> rfl

@[simp] theorem Master.other_other (m : Master) : m.other.other = m := by cases m <;> rfl

@[simp] theorem Master.other_ne (m : Master) : m.other ≠ m := by cases m <;> decide

/-! ### Fields that an update keeps -/

@[simp] theorem setPort_groupHolders (m : Master) (p : Port) (s : State) : (setPort m p s).groupHolders = s.groupHolders := by cases m <;> rfl
@[simp] theorem setPort_govHolder (m : Master) (p : Port) (s : State) : (setPort m p s).govHolder = s.govHolder := by cases m <;> rfl
@[simp] theorem setPort_slots (m : Master) (p : Port) (s : State) : (setPort m p s).slots = s.slots := by cases m <;> rfl
@[simp] theorem setPort_profile (m : Master) (p : Port) (s : State) : (setPort m p s).profile = s.profile := by cases m <;> rfl
@[simp] theorem setPort_executors (m : Master) (p : Port) (s : State) : (setPort m p s).executors = s.executors := by cases m <;> rfl
@[simp] theorem setPort_actuators (m : Master) (p : Port) (s : State) : (setPort m p s).actuators = s.actuators := by cases m <;> rfl
@[simp] theorem setPort_outputs (m : Master) (p : Port) (s : State) : (setPort m p s).outputs = s.outputs := by cases m <;> rfl
@[simp] theorem setPort_captures (m : Master) (p : Port) (s : State) : (setPort m p s).captures = s.captures := by cases m <;> rfl
@[simp] theorem setPort_counter (m : Master) (p : Port) (s : State) : (setPort m p s).counter = s.counter := by cases m <;> rfl
@[simp] theorem setPort_inputs (m : Master) (p : Port) (s : State) : (setPort m p s).inputs = s.inputs := by cases m <;> rfl
@[simp] theorem setPort_ptrip (m : Master) (p : Port) (s : State) : (setPort m p s).ptrip = s.ptrip := by cases m <;> rfl
@[simp] theorem setPort_receiver (m : Master) (p : Port) (s : State) : (setPort m p s).receiver = s.receiver := by cases m <;> rfl
@[simp] theorem setPort_stations (m : Master) (p : Port) (s : State) : (setPort m p s).stations = s.stations := by cases m <;> rfl
@[simp] theorem setPort_governor (m : Master) (p : Port) (s : State) : (setPort m p s).governor = s.governor := by cases m <;> rfl
@[simp] theorem setPort_freeCount (m : Master) (p : Port) (s : State) : (setPort m p s).freeCount = s.freeCount := by cases m <;> rfl
@[simp] theorem setPort_pending (m : Master) (p : Port) (s : State) : (setPort m p s).pending = s.pending := by cases m <;> rfl

@[simp] theorem setFlag_groupHolders (m : Master) (f : Attention) (s : State) : (setFlag m f s).groupHolders = s.groupHolders := by cases m <;> rfl
@[simp] theorem setFlag_govHolder (m : Master) (f : Attention) (s : State) : (setFlag m f s).govHolder = s.govHolder := by cases m <;> rfl
@[simp] theorem setFlag_slots (m : Master) (f : Attention) (s : State) : (setFlag m f s).slots = s.slots := by cases m <;> rfl
@[simp] theorem setFlag_profile (m : Master) (f : Attention) (s : State) : (setFlag m f s).profile = s.profile := by cases m <;> rfl
@[simp] theorem setFlag_executors (m : Master) (f : Attention) (s : State) : (setFlag m f s).executors = s.executors := by cases m <;> rfl
@[simp] theorem setFlag_actuators (m : Master) (f : Attention) (s : State) : (setFlag m f s).actuators = s.actuators := by cases m <;> rfl
@[simp] theorem setFlag_outputs (m : Master) (f : Attention) (s : State) : (setFlag m f s).outputs = s.outputs := by cases m <;> rfl
@[simp] theorem setFlag_captures (m : Master) (f : Attention) (s : State) : (setFlag m f s).captures = s.captures := by cases m <;> rfl
@[simp] theorem setFlag_counter (m : Master) (f : Attention) (s : State) : (setFlag m f s).counter = s.counter := by cases m <;> rfl
@[simp] theorem setFlag_inputs (m : Master) (f : Attention) (s : State) : (setFlag m f s).inputs = s.inputs := by cases m <;> rfl
@[simp] theorem setFlag_ptrip (m : Master) (f : Attention) (s : State) : (setFlag m f s).ptrip = s.ptrip := by cases m <;> rfl
@[simp] theorem setFlag_receiver (m : Master) (f : Attention) (s : State) : (setFlag m f s).receiver = s.receiver := by cases m <;> rfl
@[simp] theorem setFlag_stations (m : Master) (f : Attention) (s : State) : (setFlag m f s).stations = s.stations := by cases m <;> rfl
@[simp] theorem setFlag_governor (m : Master) (f : Attention) (s : State) : (setFlag m f s).governor = s.governor := by cases m <;> rfl
@[simp] theorem setFlag_freeCount (m : Master) (f : Attention) (s : State) : (setFlag m f s).freeCount = s.freeCount := by cases m <;> rfl
@[simp] theorem setFlag_pending (m : Master) (f : Attention) (s : State) : (setFlag m f s).pending = s.pending := by cases m <;> rfl

@[simp] theorem setFlagBoth_groupHolders (f : Attention) (s : State) : (setFlagBoth f s).groupHolders = s.groupHolders := rfl
@[simp] theorem setFlagBoth_govHolder (f : Attention) (s : State) : (setFlagBoth f s).govHolder = s.govHolder := rfl
@[simp] theorem setFlagBoth_slots (f : Attention) (s : State) : (setFlagBoth f s).slots = s.slots := rfl
@[simp] theorem setFlagBoth_profile (f : Attention) (s : State) : (setFlagBoth f s).profile = s.profile := rfl
@[simp] theorem setFlagBoth_executors (f : Attention) (s : State) : (setFlagBoth f s).executors = s.executors := rfl
@[simp] theorem setFlagBoth_actuators (f : Attention) (s : State) : (setFlagBoth f s).actuators = s.actuators := rfl
@[simp] theorem setFlagBoth_outputs (f : Attention) (s : State) : (setFlagBoth f s).outputs = s.outputs := rfl
@[simp] theorem setFlagBoth_captures (f : Attention) (s : State) : (setFlagBoth f s).captures = s.captures := rfl
@[simp] theorem setFlagBoth_counter (f : Attention) (s : State) : (setFlagBoth f s).counter = s.counter := rfl
@[simp] theorem setFlagBoth_inputs (f : Attention) (s : State) : (setFlagBoth f s).inputs = s.inputs := rfl
@[simp] theorem setFlagBoth_ptrip (f : Attention) (s : State) : (setFlagBoth f s).ptrip = s.ptrip := rfl
@[simp] theorem setFlagBoth_receiver (f : Attention) (s : State) : (setFlagBoth f s).receiver = s.receiver := rfl
@[simp] theorem setFlagBoth_stations (f : Attention) (s : State) : (setFlagBoth f s).stations = s.stations := rfl
@[simp] theorem setFlagBoth_governor (f : Attention) (s : State) : (setFlagBoth f s).governor = s.governor := rfl
@[simp] theorem setFlagBoth_freeCount (f : Attention) (s : State) : (setFlagBoth f s).freeCount = s.freeCount := rfl
@[simp] theorem setFlagBoth_pending (f : Attention) (s : State) : (setFlagBoth f s).pending = s.pending := rfl

@[simp] theorem putActuator_groupHolders (n : ActId) (a : Actuator) (s : State) : (putActuator n a s).groupHolders = s.groupHolders := rfl
@[simp] theorem putActuator_govHolder (n : ActId) (a : Actuator) (s : State) : (putActuator n a s).govHolder = s.govHolder := rfl
@[simp] theorem putActuator_slots (n : ActId) (a : Actuator) (s : State) : (putActuator n a s).slots = s.slots := rfl
@[simp] theorem putActuator_profile (n : ActId) (a : Actuator) (s : State) : (putActuator n a s).profile = s.profile := rfl
@[simp] theorem putActuator_executors (n : ActId) (a : Actuator) (s : State) : (putActuator n a s).executors = s.executors := rfl
@[simp] theorem putActuator_captures (n : ActId) (a : Actuator) (s : State) : (putActuator n a s).captures = s.captures := rfl
@[simp] theorem putActuator_counter (n : ActId) (a : Actuator) (s : State) : (putActuator n a s).counter = s.counter := rfl
@[simp] theorem putActuator_inputs (n : ActId) (a : Actuator) (s : State) : (putActuator n a s).inputs = s.inputs := rfl
@[simp] theorem putActuator_ptrip (n : ActId) (a : Actuator) (s : State) : (putActuator n a s).ptrip = s.ptrip := rfl
@[simp] theorem putActuator_receiver (n : ActId) (a : Actuator) (s : State) : (putActuator n a s).receiver = s.receiver := rfl
@[simp] theorem putActuator_stations (n : ActId) (a : Actuator) (s : State) : (putActuator n a s).stations = s.stations := rfl
@[simp] theorem putActuator_governor (n : ActId) (a : Actuator) (s : State) : (putActuator n a s).governor = s.governor := rfl
@[simp] theorem putActuator_port1 (n : ActId) (a : Actuator) (s : State) : (putActuator n a s).port1 = s.port1 := rfl
@[simp] theorem putActuator_port2 (n : ActId) (a : Actuator) (s : State) : (putActuator n a s).port2 = s.port2 := rfl
@[simp] theorem putActuator_freeCount (n : ActId) (a : Actuator) (s : State) : (putActuator n a s).freeCount = s.freeCount := rfl
@[simp] theorem putActuator_pending (n : ActId) (a : Actuator) (s : State) : (putActuator n a s).pending = s.pending := rfl

@[simp] theorem putExecutor_groupHolders (g : GroupId) (x : Executor) (s : State) : (putExecutor g x s).groupHolders = s.groupHolders := rfl
@[simp] theorem putExecutor_govHolder (g : GroupId) (x : Executor) (s : State) : (putExecutor g x s).govHolder = s.govHolder := rfl
@[simp] theorem putExecutor_slots (g : GroupId) (x : Executor) (s : State) : (putExecutor g x s).slots = s.slots := rfl
@[simp] theorem putExecutor_profile (g : GroupId) (x : Executor) (s : State) : (putExecutor g x s).profile = s.profile := rfl
@[simp] theorem putExecutor_actuators (g : GroupId) (x : Executor) (s : State) : (putExecutor g x s).actuators = s.actuators := rfl
@[simp] theorem putExecutor_outputs (g : GroupId) (x : Executor) (s : State) : (putExecutor g x s).outputs = s.outputs := rfl
@[simp] theorem putExecutor_captures (g : GroupId) (x : Executor) (s : State) : (putExecutor g x s).captures = s.captures := rfl
@[simp] theorem putExecutor_counter (g : GroupId) (x : Executor) (s : State) : (putExecutor g x s).counter = s.counter := rfl
@[simp] theorem putExecutor_inputs (g : GroupId) (x : Executor) (s : State) : (putExecutor g x s).inputs = s.inputs := rfl
@[simp] theorem putExecutor_ptrip (g : GroupId) (x : Executor) (s : State) : (putExecutor g x s).ptrip = s.ptrip := rfl
@[simp] theorem putExecutor_receiver (g : GroupId) (x : Executor) (s : State) : (putExecutor g x s).receiver = s.receiver := rfl
@[simp] theorem putExecutor_stations (g : GroupId) (x : Executor) (s : State) : (putExecutor g x s).stations = s.stations := rfl
@[simp] theorem putExecutor_governor (g : GroupId) (x : Executor) (s : State) : (putExecutor g x s).governor = s.governor := rfl
@[simp] theorem putExecutor_port1 (g : GroupId) (x : Executor) (s : State) : (putExecutor g x s).port1 = s.port1 := rfl
@[simp] theorem putExecutor_port2 (g : GroupId) (x : Executor) (s : State) : (putExecutor g x s).port2 = s.port2 := rfl
@[simp] theorem putExecutor_freeCount (g : GroupId) (x : Executor) (s : State) : (putExecutor g x s).freeCount = s.freeCount := rfl
@[simp] theorem putExecutor_pending (g : GroupId) (x : Executor) (s : State) : (putExecutor g x s).pending = s.pending := rfl

@[simp] theorem putSlot_groupHolders (k : SlotId) (x : Slot) (s : State) : (putSlot k x s).groupHolders = s.groupHolders := rfl
@[simp] theorem putSlot_govHolder (k : SlotId) (x : Slot) (s : State) : (putSlot k x s).govHolder = s.govHolder := rfl
@[simp] theorem putSlot_profile (k : SlotId) (x : Slot) (s : State) : (putSlot k x s).profile = s.profile := rfl
@[simp] theorem putSlot_executors (k : SlotId) (x : Slot) (s : State) : (putSlot k x s).executors = s.executors := rfl
@[simp] theorem putSlot_actuators (k : SlotId) (x : Slot) (s : State) : (putSlot k x s).actuators = s.actuators := rfl
@[simp] theorem putSlot_outputs (k : SlotId) (x : Slot) (s : State) : (putSlot k x s).outputs = s.outputs := rfl
@[simp] theorem putSlot_captures (k : SlotId) (x : Slot) (s : State) : (putSlot k x s).captures = s.captures := rfl
@[simp] theorem putSlot_counter (k : SlotId) (x : Slot) (s : State) : (putSlot k x s).counter = s.counter := rfl
@[simp] theorem putSlot_inputs (k : SlotId) (x : Slot) (s : State) : (putSlot k x s).inputs = s.inputs := rfl
@[simp] theorem putSlot_ptrip (k : SlotId) (x : Slot) (s : State) : (putSlot k x s).ptrip = s.ptrip := rfl
@[simp] theorem putSlot_receiver (k : SlotId) (x : Slot) (s : State) : (putSlot k x s).receiver = s.receiver := rfl
@[simp] theorem putSlot_stations (k : SlotId) (x : Slot) (s : State) : (putSlot k x s).stations = s.stations := rfl
@[simp] theorem putSlot_governor (k : SlotId) (x : Slot) (s : State) : (putSlot k x s).governor = s.governor := rfl
@[simp] theorem putSlot_port1 (k : SlotId) (x : Slot) (s : State) : (putSlot k x s).port1 = s.port1 := rfl
@[simp] theorem putSlot_port2 (k : SlotId) (x : Slot) (s : State) : (putSlot k x s).port2 = s.port2 := rfl
@[simp] theorem putSlot_freeCount (k : SlotId) (x : Slot) (s : State) : (putSlot k x s).freeCount = s.freeCount := rfl
@[simp] theorem putSlot_pending (k : SlotId) (x : Slot) (s : State) : (putSlot k x s).pending = s.pending := rfl

@[simp] theorem putCapture_groupHolders (c : CaptureId) (x : Capture) (s : State) : (putCapture c x s).groupHolders = s.groupHolders := rfl
@[simp] theorem putCapture_govHolder (c : CaptureId) (x : Capture) (s : State) : (putCapture c x s).govHolder = s.govHolder := rfl
@[simp] theorem putCapture_slots (c : CaptureId) (x : Capture) (s : State) : (putCapture c x s).slots = s.slots := rfl
@[simp] theorem putCapture_profile (c : CaptureId) (x : Capture) (s : State) : (putCapture c x s).profile = s.profile := rfl
@[simp] theorem putCapture_executors (c : CaptureId) (x : Capture) (s : State) : (putCapture c x s).executors = s.executors := rfl
@[simp] theorem putCapture_actuators (c : CaptureId) (x : Capture) (s : State) : (putCapture c x s).actuators = s.actuators := rfl
@[simp] theorem putCapture_outputs (c : CaptureId) (x : Capture) (s : State) : (putCapture c x s).outputs = s.outputs := rfl
@[simp] theorem putCapture_counter (c : CaptureId) (x : Capture) (s : State) : (putCapture c x s).counter = s.counter := rfl
@[simp] theorem putCapture_inputs (c : CaptureId) (x : Capture) (s : State) : (putCapture c x s).inputs = s.inputs := rfl
@[simp] theorem putCapture_ptrip (c : CaptureId) (x : Capture) (s : State) : (putCapture c x s).ptrip = s.ptrip := rfl
@[simp] theorem putCapture_receiver (c : CaptureId) (x : Capture) (s : State) : (putCapture c x s).receiver = s.receiver := rfl
@[simp] theorem putCapture_stations (c : CaptureId) (x : Capture) (s : State) : (putCapture c x s).stations = s.stations := rfl
@[simp] theorem putCapture_governor (c : CaptureId) (x : Capture) (s : State) : (putCapture c x s).governor = s.governor := rfl
@[simp] theorem putCapture_port1 (c : CaptureId) (x : Capture) (s : State) : (putCapture c x s).port1 = s.port1 := rfl
@[simp] theorem putCapture_port2 (c : CaptureId) (x : Capture) (s : State) : (putCapture c x s).port2 = s.port2 := rfl
@[simp] theorem putCapture_freeCount (c : CaptureId) (x : Capture) (s : State) : (putCapture c x s).freeCount = s.freeCount := rfl
@[simp] theorem putCapture_pending (c : CaptureId) (x : Capture) (s : State) : (putCapture c x s).pending = s.pending := rfl

@[simp] theorem putStation_groupHolders (k : StationId) (x : Station) (s : State) : (putStation k x s).groupHolders = s.groupHolders := rfl
@[simp] theorem putStation_govHolder (k : StationId) (x : Station) (s : State) : (putStation k x s).govHolder = s.govHolder := rfl
@[simp] theorem putStation_slots (k : StationId) (x : Station) (s : State) : (putStation k x s).slots = s.slots := rfl
@[simp] theorem putStation_profile (k : StationId) (x : Station) (s : State) : (putStation k x s).profile = s.profile := rfl
@[simp] theorem putStation_executors (k : StationId) (x : Station) (s : State) : (putStation k x s).executors = s.executors := rfl
@[simp] theorem putStation_actuators (k : StationId) (x : Station) (s : State) : (putStation k x s).actuators = s.actuators := rfl
@[simp] theorem putStation_outputs (k : StationId) (x : Station) (s : State) : (putStation k x s).outputs = s.outputs := rfl
@[simp] theorem putStation_captures (k : StationId) (x : Station) (s : State) : (putStation k x s).captures = s.captures := rfl
@[simp] theorem putStation_counter (k : StationId) (x : Station) (s : State) : (putStation k x s).counter = s.counter := rfl
@[simp] theorem putStation_inputs (k : StationId) (x : Station) (s : State) : (putStation k x s).inputs = s.inputs := rfl
@[simp] theorem putStation_ptrip (k : StationId) (x : Station) (s : State) : (putStation k x s).ptrip = s.ptrip := rfl
@[simp] theorem putStation_receiver (k : StationId) (x : Station) (s : State) : (putStation k x s).receiver = s.receiver := rfl
@[simp] theorem putStation_governor (k : StationId) (x : Station) (s : State) : (putStation k x s).governor = s.governor := rfl
@[simp] theorem putStation_port1 (k : StationId) (x : Station) (s : State) : (putStation k x s).port1 = s.port1 := rfl
@[simp] theorem putStation_port2 (k : StationId) (x : Station) (s : State) : (putStation k x s).port2 = s.port2 := rfl
@[simp] theorem putStation_freeCount (k : StationId) (x : Station) (s : State) : (putStation k x s).freeCount = s.freeCount := rfl
@[simp] theorem putStation_pending (k : StationId) (x : Station) (s : State) : (putStation k x s).pending = s.pending := rfl

@[simp] theorem putInput_groupHolders (d : InputId) (x : InputFilter) (s : State) : (putInput d x s).groupHolders = s.groupHolders := rfl
@[simp] theorem putInput_govHolder (d : InputId) (x : InputFilter) (s : State) : (putInput d x s).govHolder = s.govHolder := rfl
@[simp] theorem putInput_slots (d : InputId) (x : InputFilter) (s : State) : (putInput d x s).slots = s.slots := rfl
@[simp] theorem putInput_profile (d : InputId) (x : InputFilter) (s : State) : (putInput d x s).profile = s.profile := rfl
@[simp] theorem putInput_executors (d : InputId) (x : InputFilter) (s : State) : (putInput d x s).executors = s.executors := rfl
@[simp] theorem putInput_actuators (d : InputId) (x : InputFilter) (s : State) : (putInput d x s).actuators = s.actuators := rfl
@[simp] theorem putInput_outputs (d : InputId) (x : InputFilter) (s : State) : (putInput d x s).outputs = s.outputs := rfl
@[simp] theorem putInput_captures (d : InputId) (x : InputFilter) (s : State) : (putInput d x s).captures = s.captures := rfl
@[simp] theorem putInput_counter (d : InputId) (x : InputFilter) (s : State) : (putInput d x s).counter = s.counter := rfl
@[simp] theorem putInput_ptrip (d : InputId) (x : InputFilter) (s : State) : (putInput d x s).ptrip = s.ptrip := rfl
@[simp] theorem putInput_receiver (d : InputId) (x : InputFilter) (s : State) : (putInput d x s).receiver = s.receiver := rfl
@[simp] theorem putInput_stations (d : InputId) (x : InputFilter) (s : State) : (putInput d x s).stations = s.stations := rfl
@[simp] theorem putInput_governor (d : InputId) (x : InputFilter) (s : State) : (putInput d x s).governor = s.governor := rfl
@[simp] theorem putInput_port1 (d : InputId) (x : InputFilter) (s : State) : (putInput d x s).port1 = s.port1 := rfl
@[simp] theorem putInput_port2 (d : InputId) (x : InputFilter) (s : State) : (putInput d x s).port2 = s.port2 := rfl
@[simp] theorem putInput_freeCount (d : InputId) (x : InputFilter) (s : State) : (putInput d x s).freeCount = s.freeCount := rfl
@[simp] theorem putInput_pending (d : InputId) (x : InputFilter) (s : State) : (putInput d x s).pending = s.pending := rfl

@[simp] theorem unbindSlots_groupHolders (which : GroupId → Bool) (s : State) : (unbindSlots which s).groupHolders = s.groupHolders := by simp only [unbindSlots]
@[simp] theorem unbindSlots_govHolder (which : GroupId → Bool) (s : State) : (unbindSlots which s).govHolder = s.govHolder := by simp only [unbindSlots]
@[simp] theorem unbindSlots_profile (which : GroupId → Bool) (s : State) : (unbindSlots which s).profile = s.profile := by simp only [unbindSlots]
@[simp] theorem unbindSlots_executors (which : GroupId → Bool) (s : State) : (unbindSlots which s).executors = s.executors := by simp only [unbindSlots]
@[simp] theorem unbindSlots_actuators (which : GroupId → Bool) (s : State) : (unbindSlots which s).actuators = s.actuators := by simp only [unbindSlots]
@[simp] theorem unbindSlots_outputs (which : GroupId → Bool) (s : State) : (unbindSlots which s).outputs = s.outputs := by simp only [unbindSlots]
@[simp] theorem unbindSlots_captures (which : GroupId → Bool) (s : State) : (unbindSlots which s).captures = s.captures := by simp only [unbindSlots]
@[simp] theorem unbindSlots_counter (which : GroupId → Bool) (s : State) : (unbindSlots which s).counter = s.counter := by simp only [unbindSlots]
@[simp] theorem unbindSlots_inputs (which : GroupId → Bool) (s : State) : (unbindSlots which s).inputs = s.inputs := by simp only [unbindSlots]
@[simp] theorem unbindSlots_ptrip (which : GroupId → Bool) (s : State) : (unbindSlots which s).ptrip = s.ptrip := by simp only [unbindSlots]
@[simp] theorem unbindSlots_receiver (which : GroupId → Bool) (s : State) : (unbindSlots which s).receiver = s.receiver := by simp only [unbindSlots]
@[simp] theorem unbindSlots_stations (which : GroupId → Bool) (s : State) : (unbindSlots which s).stations = s.stations := by simp only [unbindSlots]
@[simp] theorem unbindSlots_governor (which : GroupId → Bool) (s : State) : (unbindSlots which s).governor = s.governor := by simp only [unbindSlots]
@[simp] theorem unbindSlots_port1 (which : GroupId → Bool) (s : State) : (unbindSlots which s).port1 = s.port1 := by simp only [unbindSlots]
@[simp] theorem unbindSlots_port2 (which : GroupId → Bool) (s : State) : (unbindSlots which s).port2 = s.port2 := by simp only [unbindSlots]
@[simp] theorem unbindSlots_freeCount (which : GroupId → Bool) (s : State) : (unbindSlots which s).freeCount = s.freeCount := by simp only [unbindSlots]
@[simp] theorem unbindSlots_pending (which : GroupId → Bool) (s : State) : (unbindSlots which s).pending = s.pending := by simp only [unbindSlots]

@[simp] theorem bindSlots_groupHolders (g : GroupId) (ks : List SlotId) (s : State) : (bindSlots g ks s).groupHolders = s.groupHolders := by simp only [bindSlots]
@[simp] theorem bindSlots_govHolder (g : GroupId) (ks : List SlotId) (s : State) : (bindSlots g ks s).govHolder = s.govHolder := by simp only [bindSlots]
@[simp] theorem bindSlots_profile (g : GroupId) (ks : List SlotId) (s : State) : (bindSlots g ks s).profile = s.profile := by simp only [bindSlots]
@[simp] theorem bindSlots_executors (g : GroupId) (ks : List SlotId) (s : State) : (bindSlots g ks s).executors = s.executors := by simp only [bindSlots]
@[simp] theorem bindSlots_actuators (g : GroupId) (ks : List SlotId) (s : State) : (bindSlots g ks s).actuators = s.actuators := by simp only [bindSlots]
@[simp] theorem bindSlots_outputs (g : GroupId) (ks : List SlotId) (s : State) : (bindSlots g ks s).outputs = s.outputs := by simp only [bindSlots]
@[simp] theorem bindSlots_captures (g : GroupId) (ks : List SlotId) (s : State) : (bindSlots g ks s).captures = s.captures := by simp only [bindSlots]
@[simp] theorem bindSlots_counter (g : GroupId) (ks : List SlotId) (s : State) : (bindSlots g ks s).counter = s.counter := by simp only [bindSlots]
@[simp] theorem bindSlots_inputs (g : GroupId) (ks : List SlotId) (s : State) : (bindSlots g ks s).inputs = s.inputs := by simp only [bindSlots]
@[simp] theorem bindSlots_ptrip (g : GroupId) (ks : List SlotId) (s : State) : (bindSlots g ks s).ptrip = s.ptrip := by simp only [bindSlots]
@[simp] theorem bindSlots_receiver (g : GroupId) (ks : List SlotId) (s : State) : (bindSlots g ks s).receiver = s.receiver := by simp only [bindSlots]
@[simp] theorem bindSlots_stations (g : GroupId) (ks : List SlotId) (s : State) : (bindSlots g ks s).stations = s.stations := by simp only [bindSlots]
@[simp] theorem bindSlots_governor (g : GroupId) (ks : List SlotId) (s : State) : (bindSlots g ks s).governor = s.governor := by simp only [bindSlots]
@[simp] theorem bindSlots_port1 (g : GroupId) (ks : List SlotId) (s : State) : (bindSlots g ks s).port1 = s.port1 := by simp only [bindSlots]
@[simp] theorem bindSlots_port2 (g : GroupId) (ks : List SlotId) (s : State) : (bindSlots g ks s).port2 = s.port2 := by simp only [bindSlots]
@[simp] theorem bindSlots_freeCount (g : GroupId) (ks : List SlotId) (s : State) : (bindSlots g ks s).freeCount = s.freeCount := by simp only [bindSlots]
@[simp] theorem bindSlots_pending (g : GroupId) (ks : List SlotId) (s : State) : (bindSlots g ks s).pending = s.pending := by simp only [bindSlots]

@[simp] theorem mapHolders_slots (f : Resource → Option Master → Option Master) (s : State) : (mapHolders f s).slots = s.slots := rfl
@[simp] theorem mapHolders_profile (f : Resource → Option Master → Option Master) (s : State) : (mapHolders f s).profile = s.profile := rfl
@[simp] theorem mapHolders_executors (f : Resource → Option Master → Option Master) (s : State) : (mapHolders f s).executors = s.executors := rfl
@[simp] theorem mapHolders_actuators (f : Resource → Option Master → Option Master) (s : State) : (mapHolders f s).actuators = s.actuators := rfl
@[simp] theorem mapHolders_outputs (f : Resource → Option Master → Option Master) (s : State) : (mapHolders f s).outputs = s.outputs := rfl
@[simp] theorem mapHolders_captures (f : Resource → Option Master → Option Master) (s : State) : (mapHolders f s).captures = s.captures := rfl
@[simp] theorem mapHolders_counter (f : Resource → Option Master → Option Master) (s : State) : (mapHolders f s).counter = s.counter := rfl
@[simp] theorem mapHolders_inputs (f : Resource → Option Master → Option Master) (s : State) : (mapHolders f s).inputs = s.inputs := rfl
@[simp] theorem mapHolders_ptrip (f : Resource → Option Master → Option Master) (s : State) : (mapHolders f s).ptrip = s.ptrip := rfl
@[simp] theorem mapHolders_receiver (f : Resource → Option Master → Option Master) (s : State) : (mapHolders f s).receiver = s.receiver := rfl
@[simp] theorem mapHolders_stations (f : Resource → Option Master → Option Master) (s : State) : (mapHolders f s).stations = s.stations := rfl
@[simp] theorem mapHolders_governor (f : Resource → Option Master → Option Master) (s : State) : (mapHolders f s).governor = s.governor := rfl
@[simp] theorem mapHolders_port1 (f : Resource → Option Master → Option Master) (s : State) : (mapHolders f s).port1 = s.port1 := rfl
@[simp] theorem mapHolders_port2 (f : Resource → Option Master → Option Master) (s : State) : (mapHolders f s).port2 = s.port2 := rfl
@[simp] theorem mapHolders_freeCount (f : Resource → Option Master → Option Master) (s : State) : (mapHolders f s).freeCount = s.freeCount := rfl
@[simp] theorem mapHolders_pending (f : Resource → Option Master → Option Master) (s : State) : (mapHolders f s).pending = s.pending := rfl

@[simp] theorem putSampler_groupHolders (x : Sampler) (low : Nat) (s : State) : (putSampler x low s).groupHolders = s.groupHolders := rfl
@[simp] theorem putSampler_govHolder (x : Sampler) (low : Nat) (s : State) : (putSampler x low s).govHolder = s.govHolder := rfl
@[simp] theorem putSampler_slots (x : Sampler) (low : Nat) (s : State) : (putSampler x low s).slots = s.slots := rfl
@[simp] theorem putSampler_profile (x : Sampler) (low : Nat) (s : State) : (putSampler x low s).profile = s.profile := rfl
@[simp] theorem putSampler_executors (x : Sampler) (low : Nat) (s : State) : (putSampler x low s).executors = s.executors := rfl
@[simp] theorem putSampler_actuators (x : Sampler) (low : Nat) (s : State) : (putSampler x low s).actuators = s.actuators := rfl
@[simp] theorem putSampler_outputs (x : Sampler) (low : Nat) (s : State) : (putSampler x low s).outputs = s.outputs := rfl
@[simp] theorem putSampler_captures (x : Sampler) (low : Nat) (s : State) : (putSampler x low s).captures = s.captures := rfl
@[simp] theorem putSampler_counter (x : Sampler) (low : Nat) (s : State) : (putSampler x low s).counter = s.counter := rfl
@[simp] theorem putSampler_inputs (x : Sampler) (low : Nat) (s : State) : (putSampler x low s).inputs = s.inputs := rfl
@[simp] theorem putSampler_ptrip (x : Sampler) (low : Nat) (s : State) : (putSampler x low s).ptrip = s.ptrip := rfl
@[simp] theorem putSampler_stations (x : Sampler) (low : Nat) (s : State) : (putSampler x low s).stations = s.stations := rfl
@[simp] theorem putSampler_governor (x : Sampler) (low : Nat) (s : State) : (putSampler x low s).governor = s.governor := rfl
@[simp] theorem putSampler_port1 (x : Sampler) (low : Nat) (s : State) : (putSampler x low s).port1 = s.port1 := rfl
@[simp] theorem putSampler_port2 (x : Sampler) (low : Nat) (s : State) : (putSampler x low s).port2 = s.port2 := rfl
@[simp] theorem putSampler_freeCount (x : Sampler) (low : Nat) (s : State) : (putSampler x low s).freeCount = s.freeCount := rfl
@[simp] theorem putSampler_pending (x : Sampler) (low : Nat) (s : State) : (putSampler x low s).pending = s.pending := rfl

@[simp] theorem putAssembler_groupHolders (x : StationAssembler) (s : State) : (putAssembler x s).groupHolders = s.groupHolders := rfl
@[simp] theorem putAssembler_govHolder (x : StationAssembler) (s : State) : (putAssembler x s).govHolder = s.govHolder := rfl
@[simp] theorem putAssembler_slots (x : StationAssembler) (s : State) : (putAssembler x s).slots = s.slots := rfl
@[simp] theorem putAssembler_profile (x : StationAssembler) (s : State) : (putAssembler x s).profile = s.profile := rfl
@[simp] theorem putAssembler_executors (x : StationAssembler) (s : State) : (putAssembler x s).executors = s.executors := rfl
@[simp] theorem putAssembler_actuators (x : StationAssembler) (s : State) : (putAssembler x s).actuators = s.actuators := rfl
@[simp] theorem putAssembler_outputs (x : StationAssembler) (s : State) : (putAssembler x s).outputs = s.outputs := rfl
@[simp] theorem putAssembler_captures (x : StationAssembler) (s : State) : (putAssembler x s).captures = s.captures := rfl
@[simp] theorem putAssembler_counter (x : StationAssembler) (s : State) : (putAssembler x s).counter = s.counter := rfl
@[simp] theorem putAssembler_inputs (x : StationAssembler) (s : State) : (putAssembler x s).inputs = s.inputs := rfl
@[simp] theorem putAssembler_ptrip (x : StationAssembler) (s : State) : (putAssembler x s).ptrip = s.ptrip := rfl
@[simp] theorem putAssembler_stations (x : StationAssembler) (s : State) : (putAssembler x s).stations = s.stations := rfl
@[simp] theorem putAssembler_governor (x : StationAssembler) (s : State) : (putAssembler x s).governor = s.governor := rfl
@[simp] theorem putAssembler_port1 (x : StationAssembler) (s : State) : (putAssembler x s).port1 = s.port1 := rfl
@[simp] theorem putAssembler_port2 (x : StationAssembler) (s : State) : (putAssembler x s).port2 = s.port2 := rfl
@[simp] theorem putAssembler_freeCount (x : StationAssembler) (s : State) : (putAssembler x s).freeCount = s.freeCount := rfl
@[simp] theorem putAssembler_pending (x : StationAssembler) (s : State) : (putAssembler x s).pending = s.pending := rfl

@[simp] theorem reject_groupHolders (r : Rejection) (s : State) : (reject r s).groupHolders = s.groupHolders := rfl
@[simp] theorem reject_govHolder (r : Rejection) (s : State) : (reject r s).govHolder = s.govHolder := rfl
@[simp] theorem reject_slots (r : Rejection) (s : State) : (reject r s).slots = s.slots := rfl
@[simp] theorem reject_profile (r : Rejection) (s : State) : (reject r s).profile = s.profile := rfl
@[simp] theorem reject_executors (r : Rejection) (s : State) : (reject r s).executors = s.executors := rfl
@[simp] theorem reject_actuators (r : Rejection) (s : State) : (reject r s).actuators = s.actuators := rfl
@[simp] theorem reject_outputs (r : Rejection) (s : State) : (reject r s).outputs = s.outputs := rfl
@[simp] theorem reject_captures (r : Rejection) (s : State) : (reject r s).captures = s.captures := rfl
@[simp] theorem reject_counter (r : Rejection) (s : State) : (reject r s).counter = s.counter := rfl
@[simp] theorem reject_inputs (r : Rejection) (s : State) : (reject r s).inputs = s.inputs := rfl
@[simp] theorem reject_ptrip (r : Rejection) (s : State) : (reject r s).ptrip = s.ptrip := rfl
@[simp] theorem reject_stations (r : Rejection) (s : State) : (reject r s).stations = s.stations := rfl
@[simp] theorem reject_governor (r : Rejection) (s : State) : (reject r s).governor = s.governor := rfl
@[simp] theorem reject_port1 (r : Rejection) (s : State) : (reject r s).port1 = s.port1 := rfl
@[simp] theorem reject_port2 (r : Rejection) (s : State) : (reject r s).port2 = s.port2 := rfl
@[simp] theorem reject_freeCount (r : Rejection) (s : State) : (reject r s).freeCount = s.freeCount := rfl
@[simp] theorem reject_pending (r : Rejection) (s : State) : (reject r s).pending = s.pending := rfl

@[simp] theorem acceptFrame_groupHolders (m : Master) (s : State) : (acceptFrame m s).groupHolders = s.groupHolders := by cases m <;> rfl
@[simp] theorem acceptFrame_govHolder (m : Master) (s : State) : (acceptFrame m s).govHolder = s.govHolder := by cases m <;> rfl
@[simp] theorem acceptFrame_slots (m : Master) (s : State) : (acceptFrame m s).slots = s.slots := by cases m <;> rfl
@[simp] theorem acceptFrame_profile (m : Master) (s : State) : (acceptFrame m s).profile = s.profile := by cases m <;> rfl
@[simp] theorem acceptFrame_executors (m : Master) (s : State) : (acceptFrame m s).executors = s.executors := by cases m <;> rfl
@[simp] theorem acceptFrame_actuators (m : Master) (s : State) : (acceptFrame m s).actuators = s.actuators := by cases m <;> rfl
@[simp] theorem acceptFrame_outputs (m : Master) (s : State) : (acceptFrame m s).outputs = s.outputs := by cases m <;> rfl
@[simp] theorem acceptFrame_captures (m : Master) (s : State) : (acceptFrame m s).captures = s.captures := by cases m <;> rfl
@[simp] theorem acceptFrame_counter (m : Master) (s : State) : (acceptFrame m s).counter = s.counter := by cases m <;> rfl
@[simp] theorem acceptFrame_inputs (m : Master) (s : State) : (acceptFrame m s).inputs = s.inputs := by cases m <;> rfl
@[simp] theorem acceptFrame_ptrip (m : Master) (s : State) : (acceptFrame m s).ptrip = s.ptrip := by cases m <;> rfl
@[simp] theorem acceptFrame_receiver (m : Master) (s : State) : (acceptFrame m s).receiver = s.receiver := by cases m <;> rfl
@[simp] theorem acceptFrame_stations (m : Master) (s : State) : (acceptFrame m s).stations = s.stations := by cases m <;> rfl
@[simp] theorem acceptFrame_governor (m : Master) (s : State) : (acceptFrame m s).governor = s.governor := by cases m <;> rfl
@[simp] theorem acceptFrame_freeCount (m : Master) (s : State) : (acceptFrame m s).freeCount = s.freeCount := by cases m <;> rfl
@[simp] theorem acceptFrame_pending (m : Master) (s : State) : (acceptFrame m s).pending = s.pending := by cases m <;> rfl

@[simp] theorem respond_groupHolders (q : Req) (code : Byte) (r : State × Reply) : (respond q code r).groupHolders = r.1.groupHolders := by simp [respond]
@[simp] theorem respond_govHolder (q : Req) (code : Byte) (r : State × Reply) : (respond q code r).govHolder = r.1.govHolder := by simp [respond]
@[simp] theorem respond_slots (q : Req) (code : Byte) (r : State × Reply) : (respond q code r).slots = r.1.slots := by simp [respond]
@[simp] theorem respond_profile (q : Req) (code : Byte) (r : State × Reply) : (respond q code r).profile = r.1.profile := by simp [respond]
@[simp] theorem respond_executors (q : Req) (code : Byte) (r : State × Reply) : (respond q code r).executors = r.1.executors := by simp [respond]
@[simp] theorem respond_actuators (q : Req) (code : Byte) (r : State × Reply) : (respond q code r).actuators = r.1.actuators := by simp [respond]
@[simp] theorem respond_outputs (q : Req) (code : Byte) (r : State × Reply) : (respond q code r).outputs = r.1.outputs := by simp [respond]
@[simp] theorem respond_captures (q : Req) (code : Byte) (r : State × Reply) : (respond q code r).captures = r.1.captures := by simp [respond]
@[simp] theorem respond_counter (q : Req) (code : Byte) (r : State × Reply) : (respond q code r).counter = r.1.counter := by simp [respond]
@[simp] theorem respond_inputs (q : Req) (code : Byte) (r : State × Reply) : (respond q code r).inputs = r.1.inputs := by simp [respond]
@[simp] theorem respond_ptrip (q : Req) (code : Byte) (r : State × Reply) : (respond q code r).ptrip = r.1.ptrip := by simp [respond]
@[simp] theorem respond_receiver (q : Req) (code : Byte) (r : State × Reply) : (respond q code r).receiver = r.1.receiver := by simp [respond]
@[simp] theorem respond_stations (q : Req) (code : Byte) (r : State × Reply) : (respond q code r).stations = r.1.stations := by simp [respond]
@[simp] theorem respond_governor (q : Req) (code : Byte) (r : State × Reply) : (respond q code r).governor = r.1.governor := by simp [respond]
@[simp] theorem respond_freeCount (q : Req) (code : Byte) (r : State × Reply) : (respond q code r).freeCount = r.1.freeCount := by simp [respond]
@[simp] theorem respond_pending (q : Req) (code : Byte) (r : State × Reply) : (respond q code r).pending = r.1.pending := by simp [respond]

/-! ### Fields that an update writes -/

@[simp] theorem putActuator_actuators (n : ActId) (a : Actuator) (s : State) :
    (putActuator n a s).actuators = put s.actuators n (supervise a) := rfl
@[simp] theorem putActuator_outputs (n : ActId) (a : Actuator) (s : State) :
    (putActuator n a s).outputs = put s.outputs n (outputFor a s.outputs[n]) := rfl
@[simp] theorem putExecutor_executors (g : GroupId) (x : Executor) (s : State) :
    (putExecutor g x s).executors = put s.executors g x := rfl
@[simp] theorem putSlot_slots (k : SlotId) (x : Slot) (s : State) : (putSlot k x s).slots = put s.slots k x := rfl
@[simp] theorem putCapture_captures (c : CaptureId) (x : Capture) (s : State) :
    (putCapture c x s).captures = put s.captures c x := rfl
@[simp] theorem putStation_stations (k : StationId) (x : Station) (s : State) :
    (putStation k x s).stations = put s.stations k x := rfl
@[simp] theorem putInput_inputs (d : InputId) (x : InputFilter) (s : State) :
    (putInput d x s).inputs = put s.inputs d x := rfl
@[simp] theorem putSampler_receiver (x : Sampler) (low : Nat) (s : State) :
    (putSampler x low s).receiver = { s.receiver with sampler := x, lowCount := low } := rfl
@[simp] theorem putAssembler_receiver (x : StationAssembler) (s : State) :
    (putAssembler x s).receiver = { s.receiver with assembler := x } := rfl
@[simp] theorem reject_receiver (r : Rejection) (s : State) :
    (reject r s).receiver = { s.receiver with lastRejection := r } := rfl

/-! ### Ports under the updates of other fields -/

@[simp] theorem port_putActuator (m : Master) (n : ActId) (a : Actuator) (s : State) : port m (putActuator n a s) = port m s := by cases m <;> simp only [putActuator, port]
@[simp] theorem port_putExecutor (m : Master) (g : GroupId) (x : Executor) (s : State) : port m (putExecutor g x s) = port m s := by cases m <;> simp only [putExecutor, port]
@[simp] theorem port_putSlot (m : Master) (k : SlotId) (x : Slot) (s : State) : port m (putSlot k x s) = port m s := by cases m <;> simp only [putSlot, port]
@[simp] theorem port_putCapture (m : Master) (c : CaptureId) (x : Capture) (s : State) : port m (putCapture c x s) = port m s := by cases m <;> simp only [putCapture, port]
@[simp] theorem port_putStation (m : Master) (k : StationId) (x : Station) (s : State) : port m (putStation k x s) = port m s := by cases m <;> simp only [putStation, port]
@[simp] theorem port_putInput (m : Master) (d : InputId) (x : InputFilter) (s : State) : port m (putInput d x s) = port m s := by cases m <;> simp only [putInput, port]
@[simp] theorem port_putSampler (m : Master) (x : Sampler) (low : Nat) (s : State) : port m (putSampler x low s) = port m s := by cases m <;> simp only [putSampler, port]
@[simp] theorem port_putAssembler (m : Master) (x : StationAssembler) (s : State) : port m (putAssembler x s) = port m s := by cases m <;> simp only [putAssembler, port]
@[simp] theorem port_reject (m : Master) (r : Rejection) (s : State) : port m (reject r s) = port m s := by cases m <;> simp only [reject, port]
@[simp] theorem port_unbindSlots (m : Master) (which : GroupId → Bool) (s : State) : port m (unbindSlots which s) = port m s := by cases m <;> simp only [unbindSlots, port]
@[simp] theorem port_bindSlots (m : Master) (g : GroupId) (ks : List SlotId) (s : State) : port m (bindSlots g ks s) = port m s := by cases m <;> simp only [bindSlots, port]
@[simp] theorem port_mapHolders (m : Master) (f : Resource → Option Master → Option Master) (s : State) : port m (mapHolders f s) = port m s := by cases m <;> simp only [mapHolders, port]

/-! ### The fields of a port -/

@[simp] theorem port_acceptFrame_self (m : Master) (s : State) :
    port m (acceptFrame m s) =
      { port m s with
        silenceTimer := some (seconds (port m s).line.silence), active := true, assembler := .hunt, interByte := none,
        phase := .handling } := by cases m <;> rfl

@[simp] theorem port_acceptFrame_other (m : Master) (s : State) :
    port m.other (acceptFrame m s) = port m.other s := by cases m <;> rfl

/-! ### Actuator updates keep the configuration -/

@[simp] theorem supervise_cfg (a : Actuator) : (supervise a).cfg = a.cfg := by unfold supervise; (repeat' split) <;> rfl
@[simp] theorem removeRamp_cfg (a : Actuator) : (removeRamp a).cfg = a.cfg := rfl
@[simp] theorem landRamp_cfg (target : Nat) (a : Actuator) : (landRamp target a).cfg = a.cfg := by
  unfold landRamp; dsimp only; split <;> rfl
@[simp] theorem requestRamp_cfg (o : RampOrigin) (target : Int) (step : Nat) (p : Bool) (a : Actuator) :
    (requestRamp o target step p a).1.cfg = a.cfg := by
  unfold requestRamp; dsimp only; split
  · simp
  · split <;> rfl
@[simp] theorem stepRamp_cfg (r : Ramp) (a : Actuator) : (stepRamp r a).1.cfg = a.cfg := by
  unfold stepRamp; dsimp only; split
  · simp
  · rfl
@[simp] theorem safeAction_cfg (a : Actuator) : (safeAction a).cfg = a.cfg := by
  unfold safeAction; split <;> simp
@[simp] theorem faultEntry_cfg (code : FaultCode) (a : Actuator) : (faultEntry code a).cfg = a.cfg := by simp [faultEntry]
@[simp] theorem startEntry_cfg (running : Bool) (a : Actuator) : (startEntry running a).cfg = a.cfg := rfl
@[simp] theorem stopEntry_cfg (rate : Int) (a : Actuator) : (stopEntry rate a).cfg = a.cfg := by simp [stopEntry]
@[simp] theorem followEntry_cfg (rate : Int) (a : Actuator) : (followEntry rate a).cfg = a.cfg := rfl

@[simp] theorem supervise_state (a : Actuator) : (supervise a).state = a.state := by unfold supervise; (repeat' split) <;> rfl
@[simp] theorem supervise_command (a : Actuator) : (supervise a).command = a.command := by unfold supervise; (repeat' split) <;> rfl
@[simp] theorem supervise_ramp (a : Actuator) : (supervise a).ramp = a.ramp := by unfold supervise; (repeat' split) <;> rfl
@[simp] theorem supervise_accumulator (a : Actuator) : (supervise a).accumulator = a.accumulator := by unfold supervise; (repeat' split) <;> rfl
@[simp] theorem supervise_follow (a : Actuator) : (supervise a).follow = a.follow := by unfold supervise; (repeat' split) <;> rfl
@[simp] theorem supervise_feedback (a : Actuator) : (supervise a).feedback = a.feedback := by unfold supervise; (repeat' split) <;> rfl
@[simp] theorem supervise_fault (a : Actuator) : (supervise a).fault = a.fault := by unfold supervise; (repeat' split) <;> rfl
@[simp] theorem supervise_furtherFault (a : Actuator) : (supervise a).furtherFault = a.furtherFault := by unfold supervise; (repeat' split) <;> rfl
@[simp] theorem supervise_commandAtFault (a : Actuator) : (supervise a).commandAtFault = a.commandAtFault := by unfold supervise; (repeat' split) <;> rfl
@[simp] theorem supervise_proofTimer (a : Actuator) : (supervise a).proofTimer = a.proofTimer := by unfold supervise; (repeat' split) <;> rfl
@[simp] theorem supervise_slewTimer (a : Actuator) : (supervise a).slewTimer = a.slewTimer := by unfold supervise; (repeat' split) <;> rfl

end Sys2Proof.Machine
end

