-- ==== Sys2Proof/Laws/Arith.lean ====
section
/-! SUPPORT. What the plain arithmetic and the codes of Chapter 10 can give: clamps, rows, indices, resource sets. -/

namespace Sys2Proof.Machine

/-! ### Clamps (section 5.3) -/

theorem clampNat_mem {lo hi : Nat} (h : lo ≤ hi) (x : Nat) : lo ≤ clampNat lo hi x ∧ clampNat lo hi x ≤ hi := by
  unfold clampNat; split <;> (try split) <;> omega

theorem clampNat_of_mem {lo hi x : Nat} (h : lo ≤ x) (k : x ≤ hi) : clampNat lo hi x = x := by
  unfold clampNat; split <;> (try split) <;> omega

theorem clampInt_mem {lo hi : Nat} (h : lo ≤ hi) (x : Int) : lo ≤ clampInt lo hi x ∧ clampInt lo hi x ≤ hi := by
  unfold clampInt; split <;> (try split) <;> omega

theorem clampInt_of_mem {lo hi x : Nat} (h : lo ≤ x) (k : x ≤ hi) : clampInt lo hi (x : Int) = x := by
  unfold clampInt; split <;> (try split) <;> omega

theorem clampAbs_mem (b : Nat) (x : Int) : -(b : Int) ≤ clampAbs b x ∧ clampAbs b x ≤ b := by
  unfold clampAbs; split <;> (try split) <;> omega

theorem clampTarget_mem {a : Actuator} (h : a.cfg.min ≤ a.cfg.max) (x : Int) :
    a.cfg.min ≤ clampTarget a x ∧ clampTarget a x ≤ a.cfg.max := clampInt_mem h x

theorem clampRate_mem {a : Actuator} (h : 1 ≤ a.cfg.defaultRate) (k : a.cfg.defaultRate ≤ a.cfg.maxRate) (x : Int) :
    1 ≤ clampRate a x ∧ clampRate a x ≤ a.cfg.maxRate := by
  unfold clampRate; split <;> (try split) <;> (try split) <;> omega

theorem rateStepOf_mono {x y : Nat} (h : x ≤ y) : rateStepOf x ≤ rateStepOf y := by unfold rateStepOf; omega

theorem rateStep_mem {a : Actuator} (h : 1 ≤ a.cfg.defaultRate) (k : a.cfg.defaultRate ≤ a.cfg.maxRate) (x : Int) :
    6 ≤ rateStep a x ∧ rateStep a x ≤ rateStepOf a.cfg.maxRate := by
  have := clampRate_mem h k x
  unfold rateStep rateStepOf
  omega

theorem distance_self (x : Nat) : distance x x = 0 := by simp [distance]

theorem distance_comm (x y : Nat) : distance x y = distance y x := by
  unfold distance; split <;> split <;> omega

theorem distance_eq_zero {x y : Nat} : distance x y = 0 ↔ x = y := by
  unfold distance; split <;> omega

/-! ### Rows and indices -/

theorem mod64_val (x : Int) : ((mod64 x).val : Int) = x % 64 := by simp only [mod64]; omega

theorem mod64_of_row (r : RowId) : mod64 (r.val : Int) = r := Fin.ext (by simp only [mod64]; omega)

/-- The row after a row, with row 63 followed by row 0 (R56, R65). -/
theorem mod64_next (r : RowId) : mod64 ((r.val : Int) + 1) = ⟨(r.val + 1) % 64, by omega⟩ :=
  Fin.ext (by simp only [mod64]; omega)

theorem index?_eq_some {n : Nat} {b : Byte} {k : Fin n} : index? n b = some k ↔ b.toNat = k.val := by
  unfold index?
  split
  · simp [Fin.ext_iff]
  · have := k.isLt
    simp; omega

theorem index?_eq_none {n : Nat} {b : Byte} : index? n b = none ↔ n ≤ b.toNat := by
  unfold index?; split <;> simp <;> omega

/-- An index below 255 written as a byte reads back as itself (R183). -/
theorem index?_indexByte {n : Nat} (h : n ≤ 255) (k : Fin n) : index? n (indexByte (some k)) = some k := by
  have := k.isLt
  rw [index?_eq_some]
  simp only [indexByte, BitVec.toNat_ofNat]
  omega

/-- Two bytes joined are the high byte times 256 and the low byte (R183). -/
theorem join2_toNat (h l : Byte) : (join2 h l).toNat = h.toNat * 256 + l.toNat := by
  simp only [join2, BitVec.toNat_append]
  have := l.isLt
  rw [← Nat.shiftLeft_add_eq_or_of_lt (by omega), Nat.shiftLeft_eq]

/-- A two-byte field written high byte first reads back as itself (R183). -/
theorem join2_byte2 (v : Half) : join2 (BitVec.ofNat 8 (v.toNat / 256)) (BitVec.ofNat 8 v.toNat) = v := by
  apply BitVec.eq_of_toNat_eq
  have := v.isLt
  rw [join2_toNat]
  simp only [BitVec.toNat_ofNat]
  omega

/-- A WRITE PROFILE writes the k-th value to the k-th row after the first, mod 64 (R56). -/
theorem get_writeRows (t : Table Half 64) (r : RowId) (vs : List Half) (h : vs.length ≤ 64) (k : RowId) :
    (writeRows t r vs)[k] = (vs[(k.val + 64 - r.val) % 64]?).getD t[k] := by
  induction vs generalizing t r with
  | nil => simp [writeRows]
  | cons v vs ih =>
    simp only [List.length_cons] at h
    rw [writeRows, ih _ _ (by omega), mod64_next, get_put]
    by_cases e : k = r
    · subst e
      have h1 : (k.val + 64 - (k.val + 1) % 64) % 64 = 63 := by omega
      have h2 : (k.val + 64 - k.val) % 64 = 0 := by omega
      simp only [h1, h2]
      rw [List.getElem?_eq_none (by omega)]
      simp
    · have : k.val ≠ r.val := fun x => e (Fin.ext x)
      have h1 : (k.val + 64 - r.val) % 64 = (k.val + 64 - (r.val + 1) % 64) % 64 + 1 := by omega
      simp only [h1, e, if_false, List.getElem?_cons_succ]

/-! ### Slew expiries (R35) -/

/-- An expiry that does not reach the target moves the command by the whole units and keeps the remainder. -/
theorem stepRamp_moves {r : Ramp} {a : Actuator} (h : (a.accumulator + r.rateStep) / 64 < distance r.target a.command) :
    stepRamp r a =
      ({ a with
          accumulator := (a.accumulator + r.rateStep) % 64
          command := if a.command < r.target then a.command + (a.accumulator + r.rateStep) / 64
            else a.command - (a.accumulator + r.rateStep) / 64 }, false) :=
  if_neg (by omega)

/-- An expiry whose units reach the target lands on it. -/
theorem stepRamp_lands {r : Ramp} {a : Actuator} (h : distance r.target a.command ≤ (a.accumulator + r.rateStep) / 64) :
    stepRamp r a = (landRamp r.target a, true) :=
  if_pos h

theorem landRamp_spec (t : Nat) (a : Actuator) :
    (landRamp t a).command = t ∧ (landRamp t a).ramp = none ∧ (landRamp t a).accumulator = 0 ∧
      (landRamp t a).follow = a.follow ∧ (landRamp t a).feedback = a.feedback ∧ (landRamp t a).fault = a.fault ∧
      (landRamp t a).slewTimer = a.slewTimer ∧
      (landRamp t a).state = (match a.state with
        | .moving => .holding
        | .stopping .rampDown => .stopping .dropWait
        | x => x) := by
  unfold landRamp
  dsimp only
  split <;> simp_all

/-! ### Resource sets (R184) -/

theorem getLsbD_foldl_set (p : Resource → Bool) (rs : List Resource) (a : Byte) (i : Nat) (h : i < 8) :
    (rs.foldl (fun acc r => if p r then acc ||| ((1 : Byte) <<< r.val) else acc) a).getLsbD i =
      (a.getLsbD i || rs.any fun r => p r && decide (r.val = i)) := by
  induction rs generalizing a with
  | nil => simp
  | cons r rs ih =>
    rw [List.foldl_cons, ih]
    have e : ((1 : Byte) <<< r.val).getLsbD i = decide (r.val = i) := by
      have := r.isLt
      interval_cases r.val <;> interval_cases i <;> rfl
    by_cases q : p r = true
    · rw [if_pos q, BitVec.getLsbD_or, e]; simp [q, Bool.or_assoc]
    · rw [if_neg q]; simp [q]

theorem getLsbD_setOf (p : Resource → Bool) (r : Resource) : (setOf p).getLsbD r.val = p r := by
  unfold setOf
  rw [getLsbD_foldl_set _ _ _ _ (by omega)]
  rw [Bool.eq_iff_iff]
  simp [allResources, ← Fin.ext_iff]

theorem setOf_lt (p : Resource → Bool) : (setOf p).toNat < 64 := by
  have e : (64 : Nat) = 2 ^ 6 := rfl
  rw [e]
  refine Nat.lt_pow_two_of_testBit _ fun i hi => ?_
  change (setOf p).getLsbD i = false
  by_cases h : i < 8
  · unfold setOf
    rw [getLsbD_foldl_set _ _ _ _ h]
    have : ∀ r : Resource, r.val ≠ i := fun r => by omega
    simp [this]
  · exact BitVec.getLsbD_of_ge _ _ (by omega)

/-- The holder of a resource after a change of holders (R104). -/
theorem holderOf_mapHolders (f : Resource → Option Master → Option Master) (s : State) (r : Resource) :
    holderOf r (mapHolders f s) = f r (holderOf r s) := by
  unfold holderOf mapHolders
  split
  · exact get_each' f s r ‹_›
  · have : r = 5 := Fin.ext (by have := r.isLt; simp; omega)
    subst this; rfl
where
  get_each' (f : Resource → Option Master → Option Master) (s : State) (r : Resource) (h : r.val < 5) :
      (each (fun g h => f ⟨g.val, by omega⟩ h) s.groupHolders)[(⟨r.val, h⟩ : GroupId)] =
        f r s.groupHolders[(⟨r.val, h⟩ : GroupId)] := by simp [each]

end Sys2Proof.Machine
end

