-- ==== Sys2Proof/Laws/Ops.lean ====
section
/-! SUPPORT. What each shared operation over the state can do, said once: the attention flags, the open order, the chain end,
the faults and the capture configurations. -/

namespace Sys2Proof.Machine

/-! ### Attention flags (R180, R184) -/

theorem flagBit_lt (f : Attention) : flagBit f < 16 := by
  cases f <;> simp only [flagBit] <;> omega

theorem flagBit_inj {f g : Attention} (h : flagBit f = flagBit g) : f = g := by
  cases f <;> cases g <;> simp_all only [flagBit] <;> first | omega | rfl | (congr 1; ext; omega)

theorem getLsbD_flagMask (f g : Attention) : (flagMask f).getLsbD (flagBit g) = decide (f = g) := by
  have h : ∀ i j : Fin 16, ((1 : Half) <<< i.val).getLsbD j.val = decide (i = j) := by decide
  rw [flagMask, h ⟨flagBit f, flagBit_lt f⟩ ⟨flagBit g, flagBit_lt g⟩]
  by_cases e : f = g
  · simp [e]
  · simp [e]; exact fun x => e (flagBit_inj x)

theorem flagSet_setFlag (m n : Master) (f g : Attention) (s : State) :
    flagSet m f (setFlag n g s) = (flagSet m f s || (decide (m = n) && decide (g = f))) := by
  by_cases e : m = n
  · subst e
    simp [flagSet, setFlag, BitVec.getLsbD_or, getLsbD_flagMask]
  · obtain rfl : m = n.other := by cases m <;> cases n <;> simp_all [Master.other]
    simp [flagSet, setFlag]

theorem flagSet_setFlagBoth (m : Master) (f g : Attention) (s : State) :
    flagSet m f (setFlagBoth g s) = (flagSet m f s || decide (g = f)) := by
  cases m <;> simp [setFlagBoth, flagSet_setFlag]

/-! ### Open order (log entry 3) -/

/-- An open order loses nothing and adds nothing. -/
theorem shuffle_perm {α : Type} (fuel : Nat) (xs : List α) (k : Nat) : (shuffle fuel xs k).1.Perm xs := by
  induction fuel generalizing xs k with
  | zero => exact .refl _
  | succ fuel ih =>
    match xs with
    | [] => exact .refl _
    | [x] => exact .refl _
    | x :: y :: r =>
      simp only [shuffle]
      have hi : Config.freePick k % (r.length + 2) < (x :: y :: r).length := Nat.mod_lt _ (Nat.succ_pos _)
      refine (List.Perm.cons _ (ih _ _)).trans ?_
      rw [List.getD_eq_getElem _ _ hi]
      exact List.getElem_cons_eraseIdx_perm hi

@[simp] theorem takeInOpenOrder_nil {α : Type} (act : α → State → State) (s : State) : takeInOpenOrder act [] s = s := rfl

@[simp] theorem takeInOpenOrder_singleton {α : Type} (act : α → State → State) (x : α) (s : State) :
    takeInOpenOrder act [x] s = act x s := rfl

/-- What every act keeps, a list of acts in an open order keeps, where the count of choices plays no part in it. -/
theorem takeInOpenOrder_keeps {α : Type} {P : State → Prop} (act : α → State → State) (xs : List α) (s : State)
    (hc : ∀ t k, P t → P { t with freeCount := k }) (ha : ∀ x ∈ xs, ∀ t, P t → P (act x t)) (hs : P s) :
    P (takeInOpenOrder act xs s) := by
  have key : ∀ (ys : List α) (t : State), (∀ y ∈ ys, y ∈ xs) → P t → P (ys.foldl (fun t x => act x t) t) := by
    intro ys
    induction ys with
    | nil => intro t _ h; exact h
    | cons y ys ih =>
      intro t hy h
      exact ih _ (fun z hz => hy z (List.mem_cons_of_mem _ hz)) (ha y (hy y List.mem_cons_self) _ h)
  exact key _ _ (fun y hy => (shuffle_perm _ _ _).subset hy) (hc _ _ hs)

/-- What every act keeps, a fold of acts keeps. -/
theorem foldl_keeps {α : Type} {P : State → Prop} (act : State → α → State) (xs : List α) (s : State)
    (ha : ∀ x t, P t → P (act t x)) (hs : P s) : P (xs.foldl act s) := by
  induction xs generalizing s with
  | nil => exact hs
  | cons x xs ih => exact ih _ (ha x s hs)

/-! ### Output channels -/

/-- A channel that has been made to follow an entry follows it (R7, R8, R43). -/
theorem outputFor_follows (a : Actuator) (o : OutputChannel) : OutputFollows a (outputFor a o) := by
  unfold OutputFollows outputFor nextPeriod
  refine ⟨?_, rfl, rfl⟩
  cases releases a <;> simp

theorem releases_supervise (a : Actuator) : releases (supervise a) = releases a := by simp [releases]

theorem runsOutput_supervise (a : Actuator) : runsOutput (supervise a) = runsOutput a := by simp [runsOutput]

theorem healthy_supervise (a : Actuator) : healthy (supervise a) = healthy a := by simp [healthy, inService]

/-- A replaced entry is followed by its channel, and every other pair of entry and channel stands. -/
theorem putActuator_follows {s : State} (h : OutputsFollow s) (n : ActId) (a : Actuator) :
    OutputsFollow (putActuator n a s) := by
  intro k
  by_cases e : k = n
  · subst e
    have := outputFor_follows a s.outputs[k]
    simpa [OutputFollows, releases_supervise, runsOutput_supervise] using this
  · simpa [e] using h k

/-! ### Chain ends (R98) -/

theorem unbindSlots_at (which : GroupId → Bool) (s : State) (k : SlotId) :
    (unbindSlots which s).slots[k] = Unbound which s.slots[k] := by
  simp only [unbindSlots, get_each]; rfl

theorem endedExecutor_eq (o : ChainOutcome) (x : Executor) : endedExecutor o x = Ended o x := rfl

/-- What is not an actuator, an output channel, a slot's binding, an executor or an attention flag stands between `s` and `t`,
every entry keeps its configuration, feedback and slew timer, and no flag is cleared. -/
structure Around (s t : State) : Prop where
  groupHolders : t.groupHolders = s.groupHolders
  govHolder : t.govHolder = s.govHolder
  profile : t.profile = s.profile
  captures : t.captures = s.captures
  counter : t.counter = s.counter
  inputs : t.inputs = s.inputs
  ptrip : t.ptrip = s.ptrip
  receiver : t.receiver = s.receiver
  stations : t.stations = s.stations
  governor : t.governor = s.governor
  freeCount : t.freeCount = s.freeCount
  pending : t.pending = s.pending
  port : ∀ m, port m t = { port m s with flags := (port m t).flags }
  flags : ∀ m f, flagSet m f s = true → flagSet m f t = true
  record : ∀ k : SlotId, t.slots[k].record = s.slots[k].record
  writer : ∀ k : SlotId, slotWriter t.slots[k].state = slotWriter s.slots[k].state
  cfg : ∀ n : ActId, t.actuators[n].cfg = s.actuators[n].cfg
  feedback : ∀ n : ActId, t.actuators[n].feedback = s.actuators[n].feedback
  slewTimer : ∀ n : ActId, t.actuators[n].slewTimer = s.actuators[n].slewTimer

theorem Around.refl (s : State) : Around s s := by constructor <;> intros <;> first | rfl | assumption

theorem Around.trans {s t u : State} (h : Around s t) (k : Around t u) : Around s u where
  groupHolders := k.groupHolders.trans h.groupHolders
  govHolder := k.govHolder.trans h.govHolder
  profile := k.profile.trans h.profile
  captures := k.captures.trans h.captures
  counter := k.counter.trans h.counter
  inputs := k.inputs.trans h.inputs
  ptrip := k.ptrip.trans h.ptrip
  receiver := k.receiver.trans h.receiver
  stations := k.stations.trans h.stations
  governor := k.governor.trans h.governor
  freeCount := k.freeCount.trans h.freeCount
  pending := k.pending.trans h.pending
  port m := by rw [k.port m, h.port m]
  flags m f e := k.flags m f (h.flags m f e)
  record i := (k.record i).trans (h.record i)
  writer i := (k.writer i).trans (h.writer i)
  cfg n := (k.cfg n).trans (h.cfg n)
  feedback n := (k.feedback n).trans (h.feedback n)
  slewTimer n := (k.slewTimer n).trans (h.slewTimer n)

theorem around_setFlag (m : Master) (f : Attention) (s : State) : Around s (setFlag m f s) := by
  constructor <;> intros <;> first | rfl | (simp; done) | skip
  · rename_i n
    cases m <;> cases n <;> rfl
  · rename_i n g h
    simp [flagSet_setFlag, h]

theorem around_setFlagBoth (f : Attention) (s : State) : Around s (setFlagBoth f s) :=
  (around_setFlag .m1 f s).trans (around_setFlag .m2 f _)

theorem around_putExecutor (g : GroupId) (x : Executor) (s : State) : Around s (putExecutor g x s) := by
  constructor <;> intros <;> first | rfl | (rename_i m f h; cases m <;> exact h)

theorem around_putActuator {n : ActId} {a : Actuator} {s : State} (hc : a.cfg = s.actuators[n].cfg)
    (hf : a.feedback = s.actuators[n].feedback) (hs : a.slewTimer = s.actuators[n].slewTimer) :
    Around s (putActuator n a s) := by
  constructor
  case port => intro m; cases m <;> rfl
  case flags => intro m f h; cases m <;> exact h
  case cfg => intro k; by_cases e : k = n <;> simp_all
  case feedback => intro k; by_cases e : k = n <;> simp_all
  case slewTimer => intro k; by_cases e : k = n <;> simp_all
  all_goals (first | rfl | (intro k; rfl))

theorem around_unbindSlots (which : GroupId → Bool) (s : State) : Around s (unbindSlots which s) := by
  have hp : ∀ m, port m (unbindSlots which s) = port m s := fun m => port_unbindSlots m which s
  constructor <;> intros <;> first | (simp only [unbindSlots]; done) | skip
  · rw [hp]
  · rename_i m f h; unfold flagSet at h ⊢; rwa [hp]
  · rw [unbindSlots_at]; unfold Unbound; split <;> (try split) <;> rfl
  · rw [unbindSlots_at]; unfold Unbound
    split <;> (try split) <;> simp_all [slotWriter]

theorem around_foldl {α : Type} (act : State → α → State) (xs : List α) (s : State)
    (h : ∀ x t, Around t (act t x)) : Around s (xs.foldl act s) :=
  foldl_keeps (P := Around s) act xs s (fun x t k => k.trans (h x t)) (.refl s)

theorem around_removeChainRamps (g : GroupId) (s : State) : Around s (removeChainRamps g s) :=
  around_foldl _ _ _ fun n t => by
    split
    · exact around_putActuator rfl rfl rfl
    · exact .refl t

/-- Telling the starter of a chain end (R98, step 5) as a step of its own. -/
theorem around_tellStarter (g : GroupId) (o : Option Master) (t : State) :
    Around t (match o with | some m => setFlag m (.chainEnd g) t | none => t) := by
  split
  · exact around_setFlag ..
  · exact .refl _

theorem around_endChain (g : GroupId) (o : ChainOutcome) (s : State) : Around s (endChain g o s) := by
  have h1 : Around s (if o = .complete then s else removeChainRamps g s) := by
    split
    · exact .refl s
    · exact around_removeChainRamps g s
  unfold endChain
  exact ((h1.trans (around_unbindSlots ..)).trans (around_putExecutor ..)).trans (around_tellStarter ..)

theorem around_endIfRunning (g : GroupId) (o : ChainOutcome) (s : State) : Around s (endIfRunning g o s) := by
  unfold endIfRunning
  split
  · exact .refl s
  · exact around_endChain g o s

theorem removeChainRamps_executors (g : GroupId) (s : State) : (removeChainRamps g s).executors = s.executors :=
  foldl_keeps (P := fun t => t.executors = s.executors) _ _ _ (fun n t h => by split <;> simpa using h) rfl

theorem removeChainRamps_slots (g : GroupId) (s : State) : (removeChainRamps g s).slots = s.slots :=
  foldl_keeps (P := fun t => t.slots = s.slots) _ _ _ (fun n t h => by split <;> simpa using h) rfl

/-- Actuators changed one after another, each by itself where `which` says so: each changes once, and the others stand. -/
theorem foldl_putActuator (which : Actuator → Bool) (f : Actuator → Actuator) (xs : List ActId) (hx : xs.Nodup)
    (s : State) (n : ActId) :
    let t := xs.foldl (fun t k => if which t.actuators[k] then putActuator k (f t.actuators[k]) t else t) s
    if n ∈ xs ∧ which s.actuators[n] = true then t.actuators[n] = supervise (f s.actuators[n])
    else t.actuators[n] = s.actuators[n] ∧ t.outputs[n] = s.outputs[n] := by
  induction xs generalizing s with
  | nil => simp
  | cons k rest ih =>
    obtain ⟨hk, hr⟩ := List.nodup_cons.mp hx
    have := ih hr (if which s.actuators[k] then putActuator k (f s.actuators[k]) s else s)
    dsimp only [List.foldl_cons] at this ⊢
    by_cases e : n = k
    · subst e
      rw [if_neg (fun x => hk x.1)] at this
      by_cases w : which s.actuators[n] = true
      · rw [if_pos ⟨List.mem_cons_self, w⟩, this.1, if_pos w, putActuator_actuators, put_self]
      · rw [if_neg (fun x => w x.2)]
        rw [if_neg w] at this ⊢
        exact this
    · have put_other : ∀ (b : Actuator) (t : State), (putActuator k b t).actuators[n] = t.actuators[n] ∧
          (putActuator k b t).outputs[n] = t.outputs[n] := by simp [e]
      have hn : ∀ c : Bool, (if c then putActuator k (f s.actuators[k]) s else s).actuators[n] = s.actuators[n] ∧
          (if c then putActuator k (f s.actuators[k]) s else s).outputs[n] = s.outputs[n] := by
        intro c; cases c
        · exact ⟨rfl, rfl⟩
        · exact put_other _ _
      rw [(hn _).1, (hn _).2] at this
      simpa [e] using this

/-- Supervision touches its two timers alone (R19, R20). -/
theorem supervise_frame (a : Actuator) :
    supervise a =
      { a with deviationTimer := (supervise a).deviationTimer, lostTimer := (supervise a).lostTimer } := by
  unfold supervise; split <;> (try split) <;> (try split) <;> rfl

/-- Step 2 of a chain end (R98, R38): the MOVE and FOLLOW ramps of the group are removed, and no other entry changes. -/
theorem removeChainRamps_removed (g : GroupId) (s : State) :
    ChainRampsRemoved (fun h => h == g) s (removeChainRamps g s) := by
  intro n
  have h := foldl_putActuator (fun a => memberOf g a && chainRamp a) removeRamp allActuators (List.nodup_finRange 16) s n
  have m : n ∈ allActuators := List.mem_finRange n
  have c : chainRamp s.actuators[n] = true ↔
      ∃ r, s.actuators[n].ramp = some r ∧ (r.origin = .move ∨ r.origin = .follow) := by
    unfold chainRamp; split <;> simp_all
  dsimp only at h ⊢
  by_cases w : memberOf g s.actuators[n] = true ∧ chainRamp s.actuators[n] = true
  · rw [if_pos ⟨m, by simpa using w⟩] at h
    rw [if_pos ⟨⟨g, beq_self_eq_true g, w.1⟩, c.1 w.2⟩]
    have e : (removeChainRamps g s).actuators[n] = supervise (removeRamp s.actuators[n]) := h
    rw [e]
    exact supervise_frame _
  · rw [if_neg (fun x => w (by simpa using x.2))] at h
    rw [if_neg (fun x => w ⟨by obtain ⟨⟨k, hk, y⟩, _⟩ := x; simp at hk; exact hk ▸ y, c.2 x.2⟩)]
    exact h

/-- The chain records after a chain end (R98, step 4). -/
theorem endChain_executors (g : GroupId) (o : ChainOutcome) (s : State) :
    (endChain g o s).executors = put s.executors g (Ended o s.executors[g]) := by
  unfold endChain
  dsimp only
  split <;> split <;> simp [removeChainRamps_executors, endedExecutor_eq]

/-- The slots after a chain end (R98, step 3; R53). -/
theorem endChain_slots (g : GroupId) (o : ChainOutcome) (s : State) (k : SlotId) :
    (endChain g o s).slots[k] = Unbound (· == g) s.slots[k] := by
  have tell : ∀ (m : Option Master) (t : State),
      (match m with | some m => setFlag m (.chainEnd g) t | none => t).slots = t.slots := by
    intro m t; cases m <;> simp
  have h : (if o = .complete then s else removeChainRamps g s).slots = s.slots := by
    split
    · rfl
    · exact removeChainRamps_slots g s
  have e : (endChain g o s).slots =
      (putExecutor g (endedExecutor o (unbindSlots (· == g) (if o = .complete then s else removeChainRamps g s)).executors[g])
        (unbindSlots (· == g) (if o = .complete then s else removeChainRamps g s))).slots := tell _ _
  rw [e, putExecutor_slots, unbindSlots_at, h]

/-- A chain end with outcome COMPLETE moves no ramp (R98, step 2). -/
theorem endChain_complete_actuators (g : GroupId) (s : State) :
    (endChain g .complete s).actuators = s.actuators ∧ (endChain g .complete s).outputs = s.outputs := by
  unfold endChain
  dsimp only
  split <;> simp

/-- The starter is told of a chain end (R98, step 5). -/
theorem endChain_flag (g : GroupId) (o : ChainOutcome) (s : State) (m : Master) (h : s.executors[g].starter = some m) :
    flagSet m (.chainEnd g) (endChain g o s) = true := by
  unfold endChain
  dsimp only
  split
  · rename_i n e
    have : n = m := by
      split at e <;> simp_all [removeChainRamps_executors, endedExecutor]
    subst this
    simp [flagSet_setFlag]
  · rename_i e
    exfalso
    split at e <;> simp_all [removeChainRamps_executors, endedExecutor]

/-- The chain records after a chain end from outside (R100). -/
theorem endIfRunning_executors (g : GroupId) (o : ChainOutcome) (s : State) :
    (endIfRunning g o s).executors =
      if s.executors[g].state = .idle then s.executors else put s.executors g (Ended o s.executors[g]) := by
  unfold endIfRunning
  split
  · rfl
  · exact endChain_executors g o s

/-! ### Faults (R21, R24) -/

theorem requestRamp_feedback (o : RampOrigin) (target : Int) (step : Nat) (p : Bool) (a : Actuator) :
    (requestRamp o target step p a).1.feedback = a.feedback ∧
      (requestRamp o target step p a).1.slewTimer = a.slewTimer := by
  unfold requestRamp landRamp
  dsimp only
  split
  · constructor <;> (dsimp only; split <;> rfl)
  · split <;> exact ⟨rfl, rfl⟩

theorem faultEntry_keeps (code : FaultCode) (a : Actuator) :
    (faultEntry code a).feedback = a.feedback ∧ (faultEntry code a).slewTimer = a.slewTimer := by
  unfold faultEntry safeAction
  split
  · exact ⟨rfl, rfl⟩
  · exact requestRamp_feedback ..
  · exact ⟨rfl, rfl⟩

theorem around_firstFault (code : FaultCode) (n : ActId) (s : State) : Around s (firstFault code n s) :=
  (around_putActuator (faultEntry_cfg ..) (faultEntry_keeps ..).1 (faultEntry_keeps ..).2).trans (around_setFlagBoth ..)

theorem around_furtherFault (n : ActId) (s : State) : Around s (furtherFault n s) :=
  Around.trans (t := putActuator n { s.actuators[n] with furtherFault := true } s)
    (around_putActuator rfl rfl rfl) (around_setFlagBoth ..)

theorem around_tripFault (code : FaultCode) (n : ActId) (s : State) : Around s (tripFault code n s) := by
  unfold tripFault
  split
  · exact around_firstFault ..
  · split
    · exact around_furtherFault ..
    · exact .refl s

theorem around_groupTrip (g : GroupId) (n : ActId) (s : State) : Around s (groupTrip g n s) :=
  (around_foldl _ _ _ fun k t => by
    split
    · exact around_tripFault ..
    · exact .refl t).trans (around_endIfRunning ..)

/-- Steps 1 to 4 of the fault procedure on the entry (R21). -/
theorem faultEntry_taken (code : FaultCode) (a : Actuator) :
    (faultEntry code a).state = .faulted ∧ (faultEntry code a).fault = code ∧
      (faultEntry code a).commandAtFault = a.command ∧ (faultEntry code a).furtherFault = a.furtherFault ∧
      (faultEntry code a).follow = none ∧ (faultEntry code a).proofTimer = none := by
  unfold faultEntry safeAction requestRamp landRamp
  split
  · simp
  · dsimp only; split <;> simp
  · simp

/-- The safe action of a faulted entry (R22). -/
theorem faultEntry_safe (code : FaultCode) (a : Actuator) :
    (a.cfg.kind = .pump → (faultEntry code a).command = 0 ∧ (faultEntry code a).ramp = none) ∧
    (a.cfg.kind = .valve → (faultEntry code a).command = a.command ∧
      (a.cfg.safeAction = some .go → (faultEntry code a).ramp =
        if clampTarget a (a.cfg.safeValue.getD 0) = a.command then none
        else some
          { target := clampTarget a (a.cfg.safeValue.getD 0), rateStep := rateStep a a.cfg.maxRate, origin := .safe }) ∧
      (a.cfg.safeAction ≠ some .go → (faultEntry code a).ramp = none)) := by
  unfold faultEntry safeAction requestRamp landRamp clampTarget rateStep clampRate
  split
  · simp_all
  · dsimp only at *; split <;> simp_all
  · dsimp only at *
    refine ⟨by simp_all, fun h => ⟨rfl, fun k => absurd h (by simp_all), fun _ => rfl⟩⟩

/-- Supervision of a FAULTED entry runs no timer (R19, R20). -/
theorem supervise_faulted {a : Actuator} (h : a.state = .faulted) :
    (supervise a).deviationTimer = none ∧ (supervise a).lostTimer = none := by
  have : healthy a = false := by simp [healthy, h]
  unfold supervise
  split <;> simp [this]

/-- The fault procedure at one actuator (R21, R22). -/
theorem firstFault_taken (code : FaultCode) (n : ActId) (s : State) : FaultTaken code n s (firstFault code n s) := by
  have hf : ∀ m, flagSet m .actFault (firstFault code n s) = true := fun m => by simp [firstFault, flagSet_setFlagBoth]
  obtain ⟨h1, h2, h3, h4, h5, h6⟩ := faultEntry_taken code s.actuators[n]
  obtain ⟨hp, hv⟩ := faultEntry_safe code s.actuators[n]
  obtain ⟨d1, d2⟩ := supervise_faulted h1
  have ha : (firstFault code n s).actuators[n] = supervise (faultEntry code s.actuators[n]) := by
    rw [firstFault, setFlagBoth_actuators, putActuator_actuators, put_self]
  have ho : (firstFault code n s).outputs[n] = outputFor (faultEntry code s.actuators[n]) s.outputs[n] := by
    rw [firstFault, setFlagBoth_outputs, putActuator_outputs, put_self]
  unfold FaultTaken
  rw [ha, ho]
  dsimp only
  simp only [supervise_state, supervise_fault, supervise_commandAtFault, supervise_furtherFault, supervise_cfg,
    supervise_follow, supervise_proofTimer, supervise_command, supervise_ramp, faultEntry_cfg]
  clear ha ho
  generalize s.actuators[n] = a at *
  refine ⟨h1, h2, h3, h4, trivial, h5, h6, d1, d2, ?_, hp, ?_, hf⟩
  · simp [outputFor, runsOutput, h1]
  · intro k
    obtain ⟨v1, v2, v3⟩ := hv k
    refine ⟨v1, fun e => v3 (by simp [e]), fun e => ⟨v3 (by simp [e]), ?_⟩, v2⟩
    simp [outputFor, releases, h1, k, e]

/-! ### Capture configurations (R161, R163) -/

/-- An accepted timeout lies within its bounds (R161). -/
theorem captureWrite?_timeout (r : RawCapture) (w : CaptureWrite) (h : captureWrite? r = some w) :
    1 ≤ w.timeout ∧ w.timeout ≤ 160 := by
  simp only [captureWrite?, range?, Option.bind_eq_some_iff, Option.ite_none_right_eq_some, Option.some.injEq] at h
  obtain ⟨_, _, t, ⟨ht, rfl⟩, _, rfl⟩ := h
  simpa using ht

/-- After any accepted configuration no expiry of the timeout timer is due (R163). -/
theorem writeCapture_timer (w : CaptureWrite) (x : Capture) (h : 1 ≤ w.timeout) :
    (writeCapture w x).timer ≠ some 0 := by
  have full : w.timeout * 100000 ≠ 0 := by omega
  unfold writeCapture
  split
  · simp only [freshTimeout, captureTimeout]; split <;> simp [full]
  · split
    · simp only [freshTimeout, captureTimeout]; split <;> simp [full]
    · simp only [freshTimeout, captureTimeout]; split
      · split <;> simp [full]
      · assumption
end Sys2Proof.Machine
end

