-- ==== Sys2Proof/Laws/Chain.lean ====
section
/-! SUPPORT. What chain execution and the reports of ACT can touch, said once for each operation of Chapter 4, and the laws of
the validation walk. -/

namespace Sys2Proof.Machine

/-! ### Beginning a step -/

theorem around_waitFor (g : GroupId) (w : Waiting) (t : Option Nat) (s : State) : Around s (waitFor g w t s) :=
  around_putExecutor ..

theorem around_acceptStep (g : GroupId) (d : Descriptor) (s : State) : Around s (acceptStep g d s) :=
  around_putExecutor ..

theorem around_afterLanding (g : GroupId) (n : ActId) (x : Int) (s : State) : Around s (afterLanding g n x s).1 := by
  unfold afterLanding
  split
  · exact .refl s
  · exact around_waitFor ..

/-- An entry replaced by a ramp request's. -/
theorem around_requestRamp {o : RampOrigin} {x : Int} {q : Nat} {p : Bool} {n : ActId} {a : Actuator} {s : State}
    (hc : a.cfg = s.actuators[n].cfg) (hf : a.feedback = s.actuators[n].feedback)
    (hs : a.slewTimer = s.actuators[n].slewTimer) : Around s (putActuator n (requestRamp o x q p a).1 s) :=
  around_putActuator ((requestRamp_cfg ..).trans hc) ((requestRamp_feedback ..).1.trans hf)
    ((requestRamp_feedback ..).2.trans hs)

theorem around_beginMove (g : GroupId) (n : ActId) (x rate : Int) (w : Bool) (s : State) :
    Around s (beginMove g n x rate w s).1 := by
  have h := around_requestRamp (o := .move) (x := x) (q := rateStep { s.actuators[n] with follow := none } rate)
    (p := permits { s.actuators[n] with follow := none } s) (n := n) (a := { s.actuators[n] with follow := none }) (s := s)
    rfl rfl rfl
  unfold beginMove
  dsimp only
  generalize requestRamp .move x _ _ _ = r at h ⊢
  obtain ⟨b, c⟩ := r
  cases c <;> dsimp only at h ⊢
  · split
    · exact h.trans (around_afterLanding ..)
    · exact h
  · split
    · exact h.trans (around_waitFor ..)
    · exact h
  · split
    · exact around_firstFault ..
    · exact (around_firstFault ..).trans (around_groupTrip ..)

theorem around_beginStart (g : GroupId) (n : ActId) (s : State) : Around s (beginStart g n s).1 := by
  have h : ∀ b, Around s (putActuator n (startEntry b s.actuators[n]) s) := fun b => around_putActuator rfl rfl rfl
  unfold beginStart
  dsimp only
  split
  · exact h _
  · exact (h _).trans (around_waitFor ..)

theorem around_beginStop (g : GroupId) (n : ActId) (rate : Int) (s : State) : Around s (beginStop g n rate s).1 :=
  Around.trans (t := putActuator n (stopEntry rate s.actuators[n]) s) (around_requestRamp rfl rfl rfl) (around_waitFor ..)

theorem around_beginFollow (n : ActId) (rate : Int) (s : State) : Around s (beginFollow n rate s).1 :=
  around_putActuator rfl rfl rfl

theorem around_beginStep (g : GroupId) (op : Op) (r : Retained) (s : State) : Around s (beginStep g op r s).1 := by
  cases op <;> dsimp only [beginStep]
  · exact around_beginMove ..
  · exact around_beginStart ..
  · exact around_beginStop ..
  · exact around_beginFollow ..
  · exact around_waitFor ..
  · split
    · exact .refl s
    · exact around_waitFor ..
  · exact around_waitFor ..
  · exact around_putExecutor ..

/-! ### Completion, failure and the run -/

theorem around_completeStep (g : GroupId) (s : State) : Around s (completeStep g s).1 := by
  unfold completeStep
  split
  · exact .refl s
  · split
    · exact around_endChain ..
    · exact .refl s

theorem around_haltChain (g : GroupId) (b : Bool) (s : State) : Around s (haltChain g b s) := by
  unfold haltChain
  dsimp only
  split
  · exact (around_putExecutor ..).trans (around_setFlag ..)
  · exact around_putExecutor ..

theorem around_failStep (g : GroupId) (r : FailReason) (st : FailStage) (b : Bool) (s : State) :
    Around s (failStep g r st b s).1 := by
  unfold failStep
  split
  · exact .refl s
  · dsimp only
    split <;> (try dsimp only)
    · exact (around_putExecutor ..).trans (around_haltChain ..)
    · split <;> (try dsimp only)
      · exact (around_putExecutor ..).trans (around_endChain ..)
      · exact around_putExecutor ..
    · exact (around_putExecutor ..).trans (around_endChain ..)
    · exact around_putExecutor ..
    · exact (around_putExecutor ..).trans (around_endChain ..)

theorem around_settleStep {g : GroupId} {s : State} {p : State × Progress} (h : Around s p.1) :
    Around s (settleStep g p).1 := by
  unfold settleStep
  split
  · exact h
  · exact h.trans (around_completeStep ..)
  · exact h.trans (around_failStep ..)
  · exact h

theorem around_takeSlot (g : GroupId) (k : SlotId) (s : State) : Around s (takeSlot g k s).1 := by
  unfold takeSlot
  dsimp only
  split
  · exact (around_putExecutor ..).trans (around_failStep ..)
  · exact around_settleStep (((around_putExecutor ..).trans (around_acceptStep ..)).trans (around_beginStep ..))

theorem around_runFrom (fuel : Nat) (g : GroupId) (k : SlotId) (s : State) : Around s (runFrom fuel g k s) := by
  induction fuel generalizing k s with
  | zero => exact .refl s
  | succ fuel ih =>
    have h := around_takeSlot g k s
    unfold runFrom
    split
    · rename_i e; rwa [e] at h
    · rename_i e; rw [e] at h; exact h.trans (ih ..)

theorem around_proceed {g : GroupId} {s : State} {p : State × Option SlotId} (h : Around s p.1) :
    Around s (proceed g p) := by
  unfold proceed
  split
  · exact h
  · exact h.trans (around_runFrom ..)

theorem around_completeAndProceed (g : GroupId) (s : State) : Around s (completeAndProceed g s) :=
  around_proceed (around_completeStep ..)

theorem around_failAndProceed (g : GroupId) (r : FailReason) (s : State) : Around s (failAndProceed g r s) :=
  around_proceed (around_failStep ..)

/-! ### Reports (R25) -/

theorem around_reportLanded (n : ActId) (s : State) : Around s (reportLanded n s) := by
  unfold reportLanded
  split
  · exact .refl s
  · split
    · exact around_proceed (around_settleStep (around_afterLanding ..))
    · exact .refl s

theorem around_reportFeedback (n : ActId) (s : State) : Around s (reportFeedback n s) := by
  unfold reportFeedback
  split
  · exact .refl s
  · split
    · exact around_completeAndProceed ..
    · exact .refl s

theorem around_reportStarted (n : ActId) (s : State) : Around s (reportStarted n s) := by
  unfold reportStarted
  split
  · exact .refl s
  · split
    · exact around_completeAndProceed ..
    · exact .refl s

theorem around_reportStopped (n : ActId) (s : State) : Around s (reportStopped n s) := by
  unfold reportStopped
  split
  · exact .refl s
  · split
    · exact around_completeAndProceed ..
    · exact .refl s

theorem around_reportFault (n : ActId) (c : FaultCode) (s : State) : Around s (reportFault n c s) := by
  unfold reportFault
  split
  · exact .refl s
  · split
    · exact around_failAndProceed ..
    · split
      · exact around_failAndProceed ..
      · split
        · exact around_failAndProceed ..
        · exact .refl s

theorem around_reportSafeLanding (a : Actuator) (n : ActId) (s : State) : Around s (reportSafeLanding a n s) := by
  unfold reportSafeLanding
  split
  · exact around_reportLanded ..
  · exact .refl s

theorem around_reportSafeLandings (u s : State) : Around s (reportSafeLandings u s) :=
  around_foldl _ _ _ fun n t => by
    split
    · exact around_reportSafeLanding ..
    · exact .refl t

theorem around_raiseFault (c : FaultCode) (n : ActId) (s : State) : Around s (raiseFault c n s) := by
  unfold raiseFault
  split
  · dsimp only
    split
    · exact ((around_firstFault ..).trans (around_groupTrip ..)).trans (around_reportSafeLandings ..)
    · exact ((around_firstFault ..).trans (around_reportFault ..)).trans (around_reportSafeLanding ..)
  · exact .refl s

/-- An actuator whose group's executor is IDLE has no waiting step (R25, R68). -/
theorem waitsOn_idle {g : GroupId} {n : ActId} {w : Waiting} {s : State} (h : s.executors[g].state = .idle) :
    waitsOn g n w s = false := by
  unfold waitsOn; rw [h]; rfl

/-- Where no executor can take a report, a report changes nothing. -/
theorem reports_unattended {n : ActId} {s : State} (h : Unattended n s) (c : FaultCode) :
    reportLanded n s = s ∧ reportFeedback n s = s ∧ reportStarted n s = s ∧ reportStopped n s = s ∧
      reportFault n c s = s := by
  unfold reportLanded reportFeedback reportStarted reportStopped reportFault
  rcases e : s.actuators[n].cfg.group with _ | g
  · simp
  · have := h g e
    simp [waitsOn_idle this]

/-- So it is with the reports of safe landings. -/
theorem reportSafeLanding_unattended {n : ActId} {s : State} (h : Unattended n s) (a : Actuator) :
    reportSafeLanding a n s = s := by
  unfold reportSafeLanding
  split
  · exact (reports_unattended h .none).1
  · rfl

/-- After a trip, which ends the chains of the groups it reaches, the reports of safe landings change nothing. -/
theorem reportSafeLandings_unattended {u s : State}
    (h : ∀ n, healthy u.actuators[n] = true → s.actuators[n].state = .faulted → Unattended n s) :
    reportSafeLandings u s = s := by
  unfold reportSafeLandings
  induction allActuators with
  | nil => rfl
  | cons n ns ih =>
    rw [List.foldl_cons]
    split
    · rename_i e
      rw [Bool.and_eq_true, beq_iff_eq] at e
      rw [reportSafeLanding_unattended (h n e.1 e.2)]
      exact ih
    · exact ih

/-! ### Retry and skip (R95, R96) -/

theorem around_retryChain (g : GroupId) (s : State) : Around s (retryChain g s) := by
  have h := around_putExecutor g { s.executors[g] with state := .active, currentAccepted := none } s
  unfold retryChain
  dsimp only
  split
  · refine around_proceed (h.trans ?_)
    unfold retryAccepted
    split
    · dsimp only
      split
      · exact around_failStep ..
      · exact around_settleStep (around_beginStep ..)
    · exact .refl _
  · exact around_proceed (around_putExecutor ..)
  · exact around_putExecutor ..

theorem around_skipChain (g : GroupId) (s : State) : Around s (skipChain g s) :=
  around_proceed ((around_putExecutor ..).trans (around_completeStep ..))

/-! ### The field side -/

theorem around_takeProof (n : ActId) (l : Bool) (s : State) : Around s (takeProof n l s) := by
  unfold takeProof
  dsimp only
  split
  · refine Around.trans ?_ (around_reportStarted n _)
    exact around_putActuator rfl rfl rfl
  · exact around_raiseFault ..
  · exact around_raiseFault ..
  · refine Around.trans ?_ (around_reportStopped n _)
    exact around_putActuator rfl rfl rfl
  · exact .refl s

theorem around_takeInputUse (d : InputId) (l : Bool) (u : InputUse) (s : State) : Around s (takeInputUse d l u s) := by
  cases u <;> dsimp only [takeInputUse]
  · exact around_takeProof ..
  · unfold takePermissive
    split
    · exact around_raiseFault ..
    · exact .refl s
  · split
    · exact around_completeAndProceed ..
    · exact .refl s

theorem around_retarget (n : ActId) (x : Nat) (s : State) : Around s (retarget n x s) := by
  unfold retarget
  dsimp only
  split
  · exact .refl s
  · rename_i q _
    have h := around_requestRamp (o := .follow) (x := x) (q := q) (p := true) (n := n) (a := s.actuators[n]) (s := s)
      rfl rfl rfl
    split
    · rename_i e; rw [e] at h; exact h.trans (around_reportLanded ..)
    · rename_i e; rwa [e] at h

theorem around_handDemand (s : State) : Around s (handDemand s) :=
  around_foldl _ _ _ fun n t => around_retarget n _ t

theorem around_clearFollowers (s : State) : Around s (clearFollowers s) :=
  around_foldl _ _ _ fun n t => by
    dsimp only
    split
    · split <;> exact around_putActuator rfl rfl rfl
    · exact around_putActuator rfl rfl rfl

/-! ### Supervision (R19, R20) and the walk (R72) -/

theorem lt_distance {k x y : Nat} : k < distance x y ↔ k < x - y ∨ k < y - x := by
  unfold distance; split <;> omega

/-- Supervision leaves both timers as R19 and R20 give them of an entry that still has its old ones. -/
theorem supervised_supervise {a b : Actuator} (hd : b.deviationTimer = a.deviationTimer)
    (hl : b.lostTimer = a.lostTimer) : Supervised a (supervise b) := by
  have hh : healthy b = true ↔ b.state ≠ .outOfService ∧ b.state ≠ .faulted := by simp [healthy, inService]
  unfold supervise
  split
  · rename_i f v hf hv
    by_cases h : healthy b = true
    · rw [if_pos h]
      split <;> simp_all [Supervised, seconds, lt_distance]
    · rw [if_neg h]
      have hn := fun x => h (hh.2 x)
      simp only [Supervised, hf, hv]
      exact ⟨(if_neg fun x => hn x.1).symm, (if_neg fun x => hn x.1).symm⟩
  · rename_i hn
    unfold Supervised
    split
    · rename_i f v hf hv; exact absurd hv (hn f v hf)
    · exact ⟨rfl, rfl⟩

/-- Without a ramp a slew expiry restarts its timer and does nothing else (R32). -/
theorem slewTick_still {n : ActId} {s : State} (h : s.actuators[n].ramp = none) :
    slewTick n s = { s with actuators := put s.actuators n { s.actuators[n] with slewTimer := slewInterval } } := by
  unfold slewTick; simp only [h]

/-- A link leads on (R72). -/
theorem leads_link {s : State} {i j k : SlotId} (h : Leads s i j) (l : k ∈ linksOf s.slots[j].record) : Leads s i k :=
  Relation.ReflTransGen.tail h l

end Sys2Proof.Machine
end

