-- ==== Sys2Proof/Laws/Events.lean ====
section
/-! SUPPORT. The laws of the events that have come due: each does what its command does, and what taking them comes to where
there is none, or one. -/

namespace Sys2Proof.Machine

/-- The event, taken before another one, does what its command does. -/
def TakenAsCommanded (i : Instr) : Prop := ∀ t : State, eventOutcome i t = exec i t

theorem forall_dueIf {P : Instr → Prop} {b : Bool} {j : Instr} (h : P j) : ∀ i ∈ dueIf b j, P i := by
  unfold dueIf; split <;> simp [h]

theorem takenAsCommanded_edgeEvent (c : CaptureId) (stamp : Stamp) (x : Capture) :
    TakenAsCommanded (edgeEvent c stamp x) := by
  intro t; unfold edgeEvent; split <;> (try split) <;> rfl

theorem takenAsCommanded_stationCommand (x : StationEvent) : TakenAsCommanded (stationCommand x) := by
  intro t; cases x <;> rfl

/-- What holds of every event that a part of the state can make due holds of every due event. -/
theorem forall_dueEvents {P : Instr → Prop} {s : State} (act : ∀ n, ∀ i ∈ dueActuator n s, P i)
    (cap : ∀ c, ∀ i ∈ dueCapture c s, P i) (inp : ∀ d, ∀ i ∈ dueInput d s, P i) (trip : ∀ i ∈ dueTrip s, P i)
    (ex : ∀ g, ∀ i ∈ dueExecutor g s, P i) (line : ∀ i ∈ dueStationLine s, P i) (st : ∀ k, ∀ i ∈ dueStation k s, P i)
    (gov : ∀ i ∈ dueGovernor s, P i) (link : ∀ m, ∀ i ∈ duePort m s, P i) : ∀ i ∈ dueEvents s, P i := by
  intro i h
  simp only [dueEvents, List.mem_append, List.mem_flatMap] at h
  rcases h with (((((((((⟨n, _, h⟩ | ⟨c, _, h⟩) | ⟨d, _, h⟩) | h) | ⟨g, _, h⟩) | h) | ⟨k, _, h⟩) | h) | h) | h)
  exacts [act n i h, cap c i h, inp d i h, trip i h, ex g i h, line i h, st k i h, gov i h, link _ i h, link _ i h]

/-- An event that has come due does what its command does. -/
theorem eventOutcome_of_due {i : Instr} {s : State} (h : i ∈ dueEvents s) (t : State) : eventOutcome i t = exec i t := by
  refine forall_dueEvents (P := TakenAsCommanded) ?_ ?_ ?_ ?_ ?_ ?_ ?_ ?_ ?_ i h t
  · intro n
    simp only [dueActuator, List.forall_mem_append]
    exact ⟨⟨⟨⟨forall_dueIf fun _ => rfl, forall_dueIf fun _ => rfl⟩, forall_dueIf fun _ => rfl⟩,
      forall_dueIf fun _ => rfl⟩, forall_dueIf fun _ => rfl⟩
  · intro c
    simp only [dueCapture, List.forall_mem_append]
    exact ⟨⟨forall_dueIf fun _ => rfl, forall_dueIf fun _ => rfl⟩, forall_dueIf (takenAsCommanded_edgeEvent _ _ _)⟩
  · exact fun d => forall_dueIf fun _ => rfl
  · refine forall_dueIf ?_
    split <;> exact fun _ => rfl
  · intro g
    simp only [dueExecutor, List.forall_mem_append]
    exact ⟨forall_dueIf fun _ => rfl, forall_dueIf fun _ => rfl⟩
  · intro j hj
    simp only [dueStationLine, Option.mem_toList, Option.map_eq_some_iff] at hj
    obtain ⟨x, _, rfl⟩ := hj
    exact takenAsCommanded_stationCommand x
  · exact fun k => forall_dueIf fun _ => rfl
  · simp only [dueGovernor, List.forall_mem_append]
    exact ⟨forall_dueIf fun _ => rfl, forall_dueIf fun _ => rfl⟩
  · intro m
    simp only [duePort, List.forall_mem_append]
    refine ⟨⟨⟨⟨?_, forall_dueIf fun _ => rfl⟩, forall_dueIf fun _ => rfl⟩, forall_dueIf fun _ => rfl⟩,
      forall_dueIf fun _ => rfl⟩
    intro j hj
    simp only [Option.mem_toList, Option.map_eq_some_iff] at hj
    obtain ⟨x, _, rfl⟩ := hj
    exact fun _ => rfl

/-- The event taken next is one that has come due, and the choice of it changes nothing but the count of choices. -/
theorem nextDue_some {i : Instr} {s t : State} (h : nextDue s = some (i, t)) :
    i ∈ dueEvents s ∧ ∃ k, t = { s with freeCount := k } := by
  unfold nextDue at h
  split at h
  · cases h
  · rename_i j e
    cases h
    exact ⟨e ▸ List.mem_singleton_self _, s.freeCount, rfl⟩
  · rename_i j k r e
    cases h
    refine ⟨?_, _, rfl⟩
    have hl : Config.freePick s.freeCount % (r.length + 2) < (j :: k :: r).length := Nat.mod_lt _ (by simp)
    rw [e, List.getD_eq_getElem _ _ hl]
    exact List.getElem_mem hl

/-- What every event keeps, the taking of the due events keeps. -/
theorem takeDueEvents_keeps {P : State → Prop} (hc : ∀ s k, P s → P { s with freeCount := k })
    (he : ∀ i s t, P s → exec i s = .next t → P t) {s : State} (h : P s) : P (takeDueEvents s) := by
  unfold takeDueEvents
  generalize (dueEvents s).length = n
  induction n generalizing s with
  | zero => exact h
  | succ n ih =>
    unfold takeDueUpTo
    split
    · exact h
    · rename_i i t e
      obtain ⟨hi, k, rfl⟩ := nextDue_some e
      refine ih ?_
      rw [eventOutcome_of_due hi]
      unfold outcomeState
      split
      · rename_i u hu; exact he i _ u (hc s k h) hu
      · exact hc s k h
      · exact hc s k h

/-- With nothing due, nothing is taken. -/
theorem takeDueEvents_none {s : State} (h : dueEvents s = []) : takeDueEvents s = s := by
  unfold takeDueEvents; rw [h]; rfl

/-- Where one event alone has come due, it is taken. -/
theorem takeDueEvents_one {i : Instr} {s : State} (h : dueEvents s = [i]) :
    takeDueEvents s = outcomeState (exec i s) s := by
  have e : nextDue s = some (i, s) := by unfold nextDue; rw [h]
  unfold takeDueEvents
  rw [h]
  simp only [List.length_singleton, takeDueUpTo, e]
  rw [eventOutcome_of_due (h ▸ List.mem_singleton_self i)]

end Sys2Proof.Machine
end

