-- ==== Sys2Proof/Laws/Sampler.lean ====
section
/-! SUPPORT. What the bit samplers can do: what one sample and one microsecond leave of a receiver and of a port, and what the
samples of one bit give. -/

namespace Sys2Proof.Machine

/-! ### One character -/

/-- A sample ends a character at its last bit alone, with that bit decided at its sample 9 (R135, R170). -/
theorem take_complete {last : Nat} {l : Bool} {r : Reception} {bits : List Bool} {noisy : Bool}
    (h : r.take last l = .complete bits noisy) :
    r.samples / 16 = last ∧ r.samples % 16 = 8 ∧ bits = r.bits ++ [decide (2 ≤ r.highs + l.toNat)] ∧
      noisy = (r.noisy || (r.highs + l.toNat != 0 && r.highs + l.toNat != 3)) := by
  unfold Reception.take at h
  dsimp only at h
  split at h
  · split at h <;> cases h
  · split at h
    · cases h
    · split at h
      · split at h
        · cases h; exact ⟨‹_›, by omega, rfl, rfl⟩
        · cases h
      · cases h

/-- A sample ends a character as a false start only at sample 8 of the start bit, and high (R135). -/
theorem take_falseStart {last : Nat} {l : Bool} {r : Reception} (h : r.take last l = .falseStart) :
    r.samples = 7 ∧ l = true := by
  unfold Reception.take at h
  dsimp only at h
  split at h
  · split at h
    · exact ⟨by omega, (‹_ ∧ _›).2⟩
    · cases h
  · split at h
    · cases h
    · split at h
      · split at h <;> cases h
      · cases h

/-- Within a character every sample is counted (R135). -/
theorem take_goesOn {last : Nat} {l : Bool} {r c : Reception} (h : r.take last l = .goesOn c) :
    c.samples = r.samples + 1 := by
  unfold Reception.take at h
  dsimp only at h
  split at h
  · split at h <;> cases h; rfl
  · split at h
    · cases h; rfl
    · split at h
      · split at h <;> cases h; rfl
      · cases h; rfl

/-! ### The station receiver (R134 to R136) -/

/-- What the sampler's state makes of a sample touches the sampler and the event decided, and nothing else. -/
theorem samplerStep_frame (first : Bool) (r : StationReceiver) :
    samplerStep first r =
      { r with sampler := (samplerStep first r).sampler, decided := (samplerStep first r).decided } := by
  unfold samplerStep stationDecided; (repeat' split) <;> rfl

/-- A sample touches the line, the sampler, the count of low samples and the event decided, and nothing else: the sample is
the line's next, and the low samples are counted in every state. -/
theorem sampleStation_frame (r : StationReceiver) :
    sampleStation r =
      { r with
        input := r.input.next, lowCount := if r.input.next.level then 0 else r.lowCount + 1,
        sampler := (sampleStation r).sampler, decided := (sampleStation r).decided } := by
  unfold sampleStation
  dsimp only
  generalize (if r.input.next.level = true then 0 else r.lowCount + 1) = n
  by_cases h : breakSamples ≤ n ∧ r.sampler ≠ Sampler.markWait
  · rw [if_pos h]
  · rw [if_neg h, samplerStep_frame]

/-- The passing of time leaves the assembler, the baud and the last rejection as they are. -/
theorem runReceiver_frame (k : Nat) (r : StationReceiver) :
    (runReceiver k r).baud = r.baud ∧ (runReceiver k r).assembler = r.assembler ∧
      (runReceiver k r).lastRejection = r.lastRejection := by
  induction k generalizing r with
  | zero => exact ⟨rfl, rfl, rfl⟩
  | succ k ih =>
    unfold runReceiver
    dsimp only
    split
    · rw [sampleStation_frame]; exact ih _
    · exact ih _

/-! ### The link ports (R170, R177) -/

/-- What the receiver's state makes of a sample touches the receiver and the character decided, and nothing else. -/
theorem receiverStep_frame (first : Bool) (p : Port) :
    receiverStep first p =
      { p with receiver := (receiverStep first p).receiver, decided := (receiverStep first p).decided } := by
  unfold receiverStep; (repeat' split) <;> rfl

/-- A sample touches the line, the receiver, the character decided and the line timer, and nothing else. -/
theorem samplePort_frame (p : Port) :
    samplePort p =
      { p with
        input := p.input.next, receiver := (samplePort p).receiver, decided := (samplePort p).decided,
        lineTimer := (samplePort p).lineTimer } := by
  unfold samplePort
  dsimp only
  by_cases h : p.phase = .responding
  · rw [if_pos h]
  · rw [if_neg h, receiverStep_frame]
    split <;> rfl

/-- In RESPONDING the receiver takes no notice of its line (R170, R172). -/
theorem samplePort_responding {p : Port} (h : p.phase = .responding) : samplePort p = { p with input := p.input.next } := by
  unfold samplePort; rw [if_pos h]

/-- The passing of time leaves of a port what its samples leave, but for its clock. -/
theorem runPort_frame (k : Nat) (p : Port) :
    runPort k p =
      { p with
        clock := (runPort k p).clock, input := (runPort k p).input, receiver := (runPort k p).receiver,
        decided := (runPort k p).decided, lineTimer := (runPort k p).lineTimer } := by
  induction k generalizing p with
  | zero => rfl
  | succ k ih =>
    unfold runPort
    dsimp only
    split
    · rw [samplePort_frame, ih]
    · rw [ih]

end Sys2Proof.Machine
end

