-- ==== Sys2Proof/Laws/Link.lean ====
section
/-! SUPPORT. The laws of the link ports: a request at a port in LISTEN, its response, and the entries that wait. -/

namespace Sys2Proof.Machine

/-! ### A request and its answer (R172, R176) -/

theorem settleFor_listening {m : Master} {s : State} (h : Listening m s) (k : Nat) : settleFor k m s = s := by
  cases k with
  | zero => rfl
  | succ k => exact if_pos h

theorem settle_listening {m : Master} {s : State} (h : Listening m s) : settle m s = s := settleFor_listening h _

/-- In LISTEN a request command is its owner's answer to the checked frame. -/
theorem answer_listening {q : Req} {s : State} (h : Listening q.master s) (code : Byte) (owner : State → State × Reply) :
    answer q code owner s = respond q code (owner (acceptFrame q.master s)) := by
  unfold answer; rw [settle_listening h]

/-- Away from the silence expiry, a request that claims bear on is taken as any other is (R113). -/
theorem serveAtClaims_running {m : Master} {s : State} (h : (port m s).silenceTimer ≠ some 0)
    (owner : State → State × Reply) : serveAtClaims m owner s = owner (acceptFrame m s) := if_neg h

/-- What a meeting with the silence expiry can come to (R109, R113): the request alone, or the request and then the expiry. -/
theorem serveAtClaims_meeting {m : Master} {s : State} (h : (port m s).silenceTimer = some 0)
    (owner : State → State × Reply) :
    let r := owner (acceptFrame m { s with freeCount := s.freeCount + 1 })
    serveAtClaims m owner s = r ∨ serveAtClaims m owner s = (silenceAtOwners m r.1, r.2) := by
  unfold serveAtClaims
  rw [if_pos h]
  dsimp only
  split <;> simp

/-- In LISTEN a request that claims bear on is its owner's answer to the checked frame, away from the silence expiry. -/
theorem answerAtClaims_listening {q : Req} {s : State} (h : Listening q.master s)
    (k : (port q.master s).silenceTimer ≠ some 0) (code : Byte) (owner : State → State × Reply) :
    answerAtClaims q code owner s = respond q code (owner (acceptFrame q.master s)) := by
  unfold answerAtClaims; rw [settle_listening h, serveAtClaims_running k]

/-- A request command that claims bear on is answered with its meeting of the silence expiry (R109, R113): one owner and one
code, whatever the state. -/
theorem exec_claimsBearOn {c : Instr} {q : Req} (h : claimsBearOn c = true) (k : requestOf c = some q) :
    ∃ (code : Byte) (owner : State → State × Reply), ∀ s, exec c s = .next (answerAtClaims q code owner s) := by
  cases c <;> simp only [claimsBearOn, Bool.false_eq_true] at h <;> cases k <;> exact ⟨_, _, fun _ => rfl⟩

/-- The requester's port after its answer. -/
theorem port_respond_self (q : Req) (code : Byte) (r : State × Reply) :
    port q.master (respond q code r) =
      { port q.master r.1 with
        response := some { status := replyStatus r.2, code := code, tag := q.tag, payload := replyPayload r.2 }
        phase := .turnaround
        lineTimer := if lineIdle (port q.master r.1) then some (2 * charTime (port q.master r.1).line) else none } := by
  simp [respond]

/-- The other port after an answer. -/
theorem port_respond_other (q : Req) (code : Byte) (r : State × Reply) :
    port q.master.other (respond q code r) = port q.master.other r.1 := by simp [respond]

theorem flagSet_acceptFrame (m n : Master) (f : Attention) (s : State) :
    flagSet m f (acceptFrame n s) = flagSet m f s := by
  cases m <;> cases n <;> rfl

theorem flagSet_respond (m : Master) (f : Attention) (q : Req) (code : Byte) (r : State × Reply) :
    flagSet m f (respond q code r) = flagSet m f r.1 := by
  obtain ⟨n, tag⟩ := q
  cases m <;> cases n <;> rfl

theorem holderOf_acceptFrame (r : Resource) (m : Master) (s : State) : holderOf r (acceptFrame m s) = holderOf r s := by
  cases m <;> rfl

/-! ### Entries that wait (R171, R172) -/

/-- With nothing waiting the assembler takes nothing. -/
theorem listenNow_empty {m : Master} {s : State} (h : (port m s).fifo = []) : listenNow m s = s := by
  unfold listenNow; rw [h]; rfl

/-- Outside LISTEN the assembler takes nothing (R172). -/
theorem listenNow_busy {m : Master} {s : State} (h : (port m s).phase ≠ .listen) : listenNow m s = s := by
  unfold listenNow
  cases (port m s).fifo.length with
  | zero => rfl
  | succ k => exact if_neg fun e => h e.1

/-- In LISTEN one waiting entry is taken. -/
theorem listenNow_one {m : Master} {s : State} {e : FifoEntry} (h : (port m s).phase = .listen)
    (k : (port m s).fifo = [e]) : listenNow m s = takeEntry m s := by
  unfold listenNow
  rw [k]
  exact if_pos ⟨h, by simp [k]⟩

/-- What a completed character leaves of the port but its FIFO (R170, R177). -/
theorem receiverDone_frame (b : Byte) (k : Marks) (p : Port) :
    receiverDone b k p =
      { p with
        receiver := (receiverDone b k p).receiver, decided := (receiverDone b k p).decided,
        lineTimer := (receiverDone b k p).lineTimer } := by
  unfold receiverDone; split <;> rfl

/-- A stored character never makes more than 16 entries wait (R171). -/
theorem storeCharacter_length {p : Port} (h : p.fifo.length ≤ 16) (b : Byte) (k : Marks) :
    (storeCharacter b k p).fifo.length ≤ 16 := by
  unfold storeCharacter fifoDepth
  split <;> simp <;> omega

/-! ### Lengths of frames (R176, R185) -/

theorem length_responseFrame (r : Response) : (responseFrame r).length = responseChars r := by
  simp [responseFrame, responseBody, responseChars, byte1, byte2]

/-- A sent character has as many bits as its character time (R169). -/
theorem length_characterBits (l : LineSettings) (b : Byte) :
    (characterBits l b).length = if l.even then 11 else 10 := by
  unfold characterBits; split <;> simp

/-- A sent response has the bits of its characters (R169, R177). -/
theorem length_responseBits (l : LineSettings) (r : Response) :
    (responseBits l r).length = responseChars r * if l.even then 11 else 10 := by
  simp [responseBits, List.length_flatMap, length_characterBits, length_responseFrame]

theorem length_requestFrame (tag : Half) (code : Byte) (payload : List Byte) :
    (requestFrame tag code payload).length = payload.length + 7 := by
  simp [requestFrame, requestBody, halfBytes, byte1, byte2]

end Sys2Proof.Machine
end

