-- ==== Sys2Proof/Laws/PerInstr.lean ====
section
/-! SUPPORT. Statements about every command as syntax, one lemma for each constructor. -/

namespace Sys2Proof.Laws

/-- A well-formed request command has a requester, and its payload fits a frame: with the code and the tag it counts at most
60 bytes (R173, R185). -/
def FitsFrame.Statement (i : Instr) : Prop :=
  i.wellFormed = true → ∀ (code : Byte) (payload : List Byte), requestBytes i = some (code, payload) →
    (requestOf i).isSome = true ∧ 3 + payload.length ≤ 60

theorem FitsFrame.powerOnReset : FitsFrame.Statement (.powerOnReset) := by
  rintro - code payload ⟨⟩

theorem FitsFrame.panelReset : FitsFrame.Statement (.panelReset) := by
  rintro - code payload ⟨⟩

theorem FitsFrame.claim (q : Req) (set : Byte) : FitsFrame.Statement (.claim q set) := by
  rintro - code payload ⟨⟩
  exact ⟨rfl, Nat.le_of_ble_eq_true rfl⟩

theorem FitsFrame.release (q : Req) (set : Byte) : FitsFrame.Statement (.release q set) := by
  rintro - code payload ⟨⟩
  exact ⟨rfl, Nat.le_of_ble_eq_true rfl⟩

theorem FitsFrame.readClaims (q : Req) : FitsFrame.Statement (.readClaims q) := by
  rintro - code payload ⟨⟩
  exact ⟨rfl, Nat.le_of_ble_eq_true rfl⟩

theorem FitsFrame.writeDescriptor (q : Req) (slot : Byte) (record : RawDescriptor) : FitsFrame.Statement (.writeDescriptor q slot record) := by
  rintro - code payload ⟨⟩
  exact ⟨rfl, Nat.le_of_ble_eq_true rfl⟩

theorem FitsFrame.freeDescriptor (q : Req) (slot : Byte) : FitsFrame.Statement (.freeDescriptor q slot) := by
  rintro - code payload ⟨⟩
  exact ⟨rfl, Nat.le_of_ble_eq_true rfl⟩

theorem FitsFrame.readDescriptor (q : Req) (slot : Byte) : FitsFrame.Statement (.readDescriptor q slot) := by
  rintro - code payload ⟨⟩
  exact ⟨rfl, Nat.le_of_ble_eq_true rfl⟩

theorem FitsFrame.writeProfile (q : Req) (first : Byte) (values : List Half) : FitsFrame.Statement (.writeProfile q first values) := by
  rintro h code payload ⟨⟩
  have : values.length ≤ 16 := by simp only [Instr.wellFormed, Bool.and_eq_true, decide_eq_true_eq] at h; omega
  have e : ∀ vs : List Half, (vs.flatMap halfBytes).length = 2 * vs.length := fun vs => by
    induction vs with
    | nil => rfl
    | cons v vs ih => simp only [List.flatMap_cons, List.length_append, ih]; simp [halfBytes, Machine.byte2]; omega
  exact ⟨rfl, by simp only [List.length_cons, e]; omega⟩

theorem FitsFrame.readProfile (q : Req) (first : Byte) (count : Byte) : FitsFrame.Statement (.readProfile q first count) := by
  rintro - code payload ⟨⟩
  exact ⟨rfl, Nat.le_of_ble_eq_true rfl⟩

theorem FitsFrame.runChain (q : Req) (group : Byte) (slot : Byte) : FitsFrame.Statement (.runChain q group slot) := by
  rintro - code payload ⟨⟩
  exact ⟨rfl, Nat.le_of_ble_eq_true rfl⟩

theorem FitsFrame.cancelChain (q : Req) (group : Byte) : FitsFrame.Statement (.cancelChain q group) := by
  rintro - code payload ⟨⟩
  exact ⟨rfl, Nat.le_of_ble_eq_true rfl⟩

theorem FitsFrame.resumeRetry (q : Req) (group : Byte) : FitsFrame.Statement (.resumeRetry q group) := by
  rintro - code payload ⟨⟩
  exact ⟨rfl, Nat.le_of_ble_eq_true rfl⟩

theorem FitsFrame.resumeSkip (q : Req) (group : Byte) : FitsFrame.Statement (.resumeSkip q group) := by
  rintro - code payload ⟨⟩
  exact ⟨rfl, Nat.le_of_ble_eq_true rfl⟩

theorem FitsFrame.readChain (q : Req) (group : Byte) : FitsFrame.Statement (.readChain q group) := by
  rintro - code payload ⟨⟩
  exact ⟨rfl, Nat.le_of_ble_eq_true rfl⟩

theorem FitsFrame.writeCursor (q : Req) (group : Byte) (cursor : Byte) (value : Byte) : FitsFrame.Statement (.writeCursor q group cursor value) := by
  rintro - code payload ⟨⟩
  exact ⟨rfl, Nat.le_of_ble_eq_true rfl⟩

theorem FitsFrame.readCursors (q : Req) (group : Byte) : FitsFrame.Statement (.readCursors q group) := by
  rintro - code payload ⟨⟩
  exact ⟨rfl, Nat.le_of_ble_eq_true rfl⟩

theorem FitsFrame.configureActuator (q : Req) (record : RawActuator) : FitsFrame.Statement (.configureActuator q record) := by
  rintro - code payload ⟨⟩
  exact ⟨rfl, Nat.le_of_ble_eq_true rfl⟩

theorem FitsFrame.setServiceIn (q : Req) (actuator : Byte) : FitsFrame.Statement (.setServiceIn q actuator) := by
  rintro - code payload ⟨⟩
  exact ⟨rfl, Nat.le_of_ble_eq_true rfl⟩

theorem FitsFrame.setServiceOut (q : Req) (actuator : Byte) : FitsFrame.Statement (.setServiceOut q actuator) := by
  rintro - code payload ⟨⟩
  exact ⟨rfl, Nat.le_of_ble_eq_true rfl⟩

theorem FitsFrame.clearFault (q : Req) (actuator : Byte) : FitsFrame.Statement (.clearFault q actuator) := by
  rintro - code payload ⟨⟩
  exact ⟨rfl, Nat.le_of_ble_eq_true rfl⟩

theorem FitsFrame.readActuatorConfiguration (q : Req) (actuator : Byte) : FitsFrame.Statement (.readActuatorConfiguration q actuator) := by
  rintro - code payload ⟨⟩
  exact ⟨rfl, Nat.le_of_ble_eq_true rfl⟩

theorem FitsFrame.readActuatorStatus (q : Req) (actuator : Byte) : FitsFrame.Statement (.readActuatorStatus q actuator) := by
  rintro - code payload ⟨⟩
  exact ⟨rfl, Nat.le_of_ble_eq_true rfl⟩

theorem FitsFrame.readOutputs (q : Req) : FitsFrame.Statement (.readOutputs q) := by
  rintro - code payload ⟨⟩
  exact ⟨rfl, Nat.le_of_ble_eq_true rfl⟩

theorem FitsFrame.configureCapture (q : Req) (record : RawCapture) : FitsFrame.Statement (.configureCapture q record) := by
  rintro - code payload ⟨⟩
  exact ⟨rfl, Nat.le_of_ble_eq_true rfl⟩

theorem FitsFrame.readMeasurement (q : Req) (channel : Byte) : FitsFrame.Statement (.readMeasurement q channel) := by
  rintro - code payload ⟨⟩
  exact ⟨rfl, Nat.le_of_ble_eq_true rfl⟩

theorem FitsFrame.setDebounce (q : Req) (input : Byte) (time : Byte) : FitsFrame.Statement (.setDebounce q input time) := by
  rintro - code payload ⟨⟩
  exact ⟨rfl, Nat.le_of_ble_eq_true rfl⟩

theorem FitsFrame.readInputs (q : Req) : FitsFrame.Statement (.readInputs q) := by
  rintro - code payload ⟨⟩
  exact ⟨rfl, Nat.le_of_ble_eq_true rfl⟩

theorem FitsFrame.governorSettings (q : Req) (record : RawGovernor) : FitsFrame.Statement (.governorSettings q record) := by
  rintro - code payload ⟨⟩
  exact ⟨rfl, Nat.le_of_ble_eq_true rfl⟩

theorem FitsFrame.governorModeOn (q : Req) : FitsFrame.Statement (.governorModeOn q) := by
  rintro - code payload ⟨⟩
  exact ⟨rfl, Nat.le_of_ble_eq_true rfl⟩

theorem FitsFrame.governorModeOff (q : Req) : FitsFrame.Statement (.governorModeOff q) := by
  rintro - code payload ⟨⟩
  exact ⟨rfl, Nat.le_of_ble_eq_true rfl⟩

theorem FitsFrame.readGovernorSettings (q : Req) : FitsFrame.Statement (.readGovernorSettings q) := by
  rintro - code payload ⟨⟩
  exact ⟨rfl, Nat.le_of_ble_eq_true rfl⟩

theorem FitsFrame.readGovernorStatus (q : Req) : FitsFrame.Statement (.readGovernorStatus q) := by
  rintro - code payload ⟨⟩
  exact ⟨rfl, Nat.le_of_ble_eq_true rfl⟩

theorem FitsFrame.configureStation (q : Req) (record : RawStation) : FitsFrame.Statement (.configureStation q record) := by
  rintro - code payload ⟨⟩
  exact ⟨rfl, Nat.le_of_ble_eq_true rfl⟩

theorem FitsFrame.readStation (q : Req) (entry : Byte) : FitsFrame.Statement (.readStation q entry) := by
  rintro - code payload ⟨⟩
  exact ⟨rfl, Nat.le_of_ble_eq_true rfl⟩

theorem FitsFrame.stationLineSettings (q : Req) (baud : Half) : FitsFrame.Statement (.stationLineSettings q baud) := by
  rintro - code payload ⟨⟩
  exact ⟨rfl, Nat.le_of_ble_eq_true rfl⟩

theorem FitsFrame.readStationLineStatus (q : Req) : FitsFrame.Statement (.readStationLineStatus q) := by
  rintro - code payload ⟨⟩
  exact ⟨rfl, Nat.le_of_ble_eq_true rfl⟩

theorem FitsFrame.linkSettings (q : Req) (record : RawLink) : FitsFrame.Statement (.linkSettings q record) := by
  rintro - code payload ⟨⟩
  exact ⟨rfl, Nat.le_of_ble_eq_true rfl⟩

theorem FitsFrame.readLinkStatus (q : Req) (link : Byte) : FitsFrame.Statement (.readLinkStatus q link) := by
  rintro - code payload ⟨⟩
  exact ⟨rfl, Nat.le_of_ble_eq_true rfl⟩

theorem FitsFrame.readAttention (q : Req) : FitsFrame.Statement (.readAttention q) := by
  rintro - code payload ⟨⟩
  exact ⟨rfl, Nat.le_of_ble_eq_true rfl⟩

theorem FitsFrame.clearAttention (q : Req) (flags : Half) : FitsFrame.Statement (.clearAttention q flags) := by
  rintro - code payload ⟨⟩
  exact ⟨rfl, Nat.le_of_ble_eq_true rfl⟩

theorem FitsFrame.setMask (q : Req) (flags : Half) : FitsFrame.Statement (.setMask q flags) := by
  rintro - code payload ⟨⟩
  exact ⟨rfl, Nat.le_of_ble_eq_true rfl⟩

theorem FitsFrame.unknownRequest (q : Req) (code : Byte) : FitsFrame.Statement (.unknownRequest q code) := by
  rintro - code payload ⟨⟩

theorem FitsFrame.badLength (q : Req) (code : Byte) (length : Nat) : FitsFrame.Statement (.badLength q code length) := by
  rintro - code payload ⟨⟩

theorem FitsFrame.linkCharacterReceived (m : Master) (byte : Byte) (marks : Marks) : FitsFrame.Statement (.linkCharacterReceived m byte marks) := by
  rintro - code payload ⟨⟩

theorem FitsFrame.interByteTimeout (m : Master) : FitsFrame.Statement (.interByteTimeout m) := by
  rintro - code payload ⟨⟩

theorem FitsFrame.turnaroundEnd (m : Master) : FitsFrame.Statement (.turnaroundEnd m) := by
  rintro - code payload ⟨⟩

theorem FitsFrame.responseSent (m : Master) : FitsFrame.Statement (.responseSent m) := by
  rintro - code payload ⟨⟩

theorem FitsFrame.silenceExpiry (m : Master) : FitsFrame.Statement (.silenceExpiry m) := by
  rintro - code payload ⟨⟩

theorem FitsFrame.stationCharacter (byte : Byte) (noisy : Bool) : FitsFrame.Statement (.stationCharacter byte noisy) := by
  rintro - code payload ⟨⟩

theorem FitsFrame.stationFramingError : FitsFrame.Statement (.stationFramingError) := by
  rintro - code payload ⟨⟩

theorem FitsFrame.stationBreak : FitsFrame.Statement (.stationBreak) := by
  rintro - code payload ⟨⟩

theorem FitsFrame.staleTimerExpiry (entry : StationId) : FitsFrame.Statement (.staleTimerExpiry entry) := by
  rintro - code payload ⟨⟩

theorem FitsFrame.governorEvaluation : FitsFrame.Statement (.governorEvaluation) := by
  rintro - code payload ⟨⟩

theorem FitsFrame.holdTimerExpiry : FitsFrame.Statement (.holdTimerExpiry) := by
  rintro - code payload ⟨⟩

theorem FitsFrame.slewExpiry (n : ActId) : FitsFrame.Statement (.slewExpiry n) := by
  rintro - code payload ⟨⟩

theorem FitsFrame.periodEnd (n : ActId) : FitsFrame.Statement (.periodEnd n) := by
  rintro - code payload ⟨⟩

theorem FitsFrame.proofTimerExpiry (n : ActId) : FitsFrame.Statement (.proofTimerExpiry n) := by
  rintro - code payload ⟨⟩

theorem FitsFrame.deviationTimerExpiry (n : ActId) : FitsFrame.Statement (.deviationTimerExpiry n) := by
  rintro - code payload ⟨⟩

theorem FitsFrame.feedbackLostTimerExpiry (n : ActId) : FitsFrame.Statement (.feedbackLostTimerExpiry n) := by
  rintro - code payload ⟨⟩

theorem FitsFrame.discreteInputChange (d : InputId) (level : Bool) : FitsFrame.Statement (.discreteInputChange d level) := by
  rintro - code payload ⟨⟩

theorem FitsFrame.tripAssertion : FitsFrame.Statement (.tripAssertion) := by
  rintro - code payload ⟨⟩

theorem FitsFrame.tripDeassertion : FitsFrame.Statement (.tripDeassertion) := by
  rintro - code payload ⟨⟩

theorem FitsFrame.frequencyMeasurement (c : CaptureId) (stamp : Stamp) : FitsFrame.Statement (.frequencyMeasurement c stamp) := by
  rintro - code payload ⟨⟩

theorem FitsFrame.dutyMeasurement (c : CaptureId) (stamp : Stamp) : FitsFrame.Statement (.dutyMeasurement c stamp) := by
  rintro - code payload ⟨⟩

theorem FitsFrame.captureTimeoutExpiry (c : CaptureId) : FitsFrame.Statement (.captureTimeoutExpiry c) := by
  rintro - code payload ⟨⟩

theorem FitsFrame.captureSpanOverflow (c : CaptureId) : FitsFrame.Statement (.captureSpanOverflow c) := by
  rintro - code payload ⟨⟩

theorem FitsFrame.dwellExpiry (g : GroupId) : FitsFrame.Statement (.dwellExpiry g) := by
  rintro - code payload ⟨⟩

theorem FitsFrame.awaitTimeout (g : GroupId) : FitsFrame.Statement (.awaitTimeout g) := by
  rintro - code payload ⟨⟩

theorem FitsFrame.captureEdge (c : CaptureId) (rising : Bool) (stamp : Stamp) : FitsFrame.Statement (.captureEdge c rising stamp) := by
  rintro - code payload ⟨⟩

theorem FitsFrame.rawLevelChange (d : InputId) (level : Bool) : FitsFrame.Statement (.rawLevelChange d level) := by
  rintro - code payload ⟨⟩

theorem FitsFrame.ptripRawChange (level : Bool) : FitsFrame.Statement (.ptripRawChange level) := by
  rintro - code payload ⟨⟩

theorem FitsFrame.stationFirstHighSample : FitsFrame.Statement (.stationFirstHighSample) := by
  rintro - code payload ⟨⟩

theorem FitsFrame.stationStopBitLow (count : Nat) : FitsFrame.Statement (.stationStopBitLow count) := by
  rintro - code payload ⟨⟩

end Sys2Proof.Laws
end

