-- ==== Sys2Proof/Laws/Pressure.lean ====
section
/-! SUPPORT. The laws of the governor's arithmetic, of the choice of the controlling entry, of the station
table and of the demand handed to the followers. -/

namespace Sys2Proof.Machine

/-! ### The controlling entry (R118, R119) -/

theorem mem_eligibleEntries {t : Table Station 8} {k : StationId} :
    k ∈ eligibleEntries t ↔ eligibleStation t[k] = true := by
  simp [eligibleEntries, allStations]

theorem eligibleStation_iff {x : Station} : eligibleStation x = true ↔ x.enabled = true ∧ x.state = .fresh := by
  simp [eligibleStation]

/-- The choice in a list in number order: an entry of the list, of the smallest error, and of the lowest number among
equals. -/
theorem controllingEntry_some {t : Table Station 8} {ks : List StationId} {k : StationId} (hs : ks.Pairwise (· < ·))
    (h : controllingEntry t ks = some k) :
    k ∈ ks ∧ (∀ j ∈ ks, stationError t[k] ≤ stationError t[j]) ∧
      ∀ j ∈ ks, stationError t[j] = stationError t[k] → k ≤ j := by
  induction ks generalizing k with
  | nil => simp [controllingEntry] at h
  | cons a rest ih =>
    obtain ⟨ha, hr⟩ := List.pairwise_cons.mp hs
    unfold controllingEntry at h
    rcases e : controllingEntry t rest with _ | j
    · have hn : rest = [] := by
        cases rest with
        | nil => rfl
        | cons b r => unfold controllingEntry at e; split at e <;> (try split at e) <;> simp at e
      rw [e] at h
      obtain rfl : a = k := by simpa using h
      subst hn
      simp
    · obtain ⟨m1, m2, m3⟩ := ih hr e
      rw [e] at h
      dsimp only at h
      split at h
      · obtain rfl : j = k := by simpa using h
        refine ⟨.tail _ m1, fun i hi => ?_, fun i hi x => ?_⟩
        · rcases List.mem_cons.mp hi with rfl | hi
          · omega
          · exact m2 i hi
        · rcases List.mem_cons.mp hi with rfl | hi
          · omega
          · exact m3 i hi x
      · obtain rfl : a = k := by simpa using h
        refine ⟨List.mem_cons_self, fun i hi => ?_, fun i hi x => ?_⟩
        · rcases List.mem_cons.mp hi with rfl | hi
          · omega
          · have := m2 i hi; omega
        · rcases List.mem_cons.mp hi with rfl | hi
          · exact le_refl _
          · exact le_of_lt (ha i hi)

theorem controllingEntry_none {t : Table Station 8} {ks : List StationId} : controllingEntry t ks = none ↔ ks = [] := by
  cases ks with
  | nil => simp [controllingEntry]
  | cons a r => unfold controllingEntry; split <;> (try split) <;> simp

theorem eligibleEntries_sorted (t : Table Station 8) : (eligibleEntries t).Pairwise (· < ·) :=
  (List.pairwise_lt_finRange 8).filter _

/-! ### The demand and the integral (R115, R120, R121) -/

/-- D moves toward `u` by at most Dstep. -/
theorem stepDemand_moves (g : Governor) (u : Nat) :
    (stepDemand g u : Int) = (g.demand : Int) + clampAbs g.dstep ((u : Int) - g.demand) := by
  unfold stepDemand clampAbs; split <;> (try split) <;> omega

theorem stepDemand_mem {g : Governor} {lo hi u : Nat} (h1 : lo ≤ g.demand) (h2 : g.demand ≤ hi) (h3 : lo ≤ u)
    (h4 : u ≤ hi) : lo ≤ stepDemand g u ∧ stepDemand g u ≤ hi := by
  have := stepDemand_moves g u
  unfold clampAbs at this
  split at this <;> (try split at this) <;> omega

theorem nextIntegral_mem {g : Governor} (h : g.dmin ≤ g.dmax) (h1 : g.dmin * 64 ≤ g.integral)
    (h2 : g.integral ≤ g.dmax * 64) (e : Int) : g.dmin * 64 ≤ nextIntegral g e ∧ nextIntegral g e ≤ g.dmax * 64 := by
  unfold nextIntegral
  dsimp only
  split
  · exact ⟨h1, h2⟩
  · split
    · exact ⟨h1, h2⟩
    · exact clampInt_mem (by omega) _

/-- Rebased without its clamp, the integral makes raw the demand held (R122). -/
theorem rawOutput_rebased {g : Governor} {e : Int} (h1 : (g.dmin : Int) ≤ g.demand - proportional g e)
    (h2 : (g.demand : Int) - proportional g e ≤ g.dmax) : rawOutput (enterRegulate e g) e = g.demand := by
  have hp : proportional (enterRegulate e g) e = proportional g e := rfl
  unfold rawOutput
  rw [hp]
  simp only [enterRegulate, clampIntegral, clampInt]
  split <;> (try split) <;> omega

/-! ### Attention for modes and states (R127, R144) -/

theorem putGovernor_same {g : Governor} {s : State} (h : g.mode = s.governor.mode) :
    putGovernor g s = { s with governor := g } := if_pos h

theorem putGovernor_changed {g : Governor} {s : State} (h : g.mode ≠ s.governor.mode) :
    putGovernor g s = setFlagBoth .govMode { s with governor := g } := if_neg h

theorem changeStation_same {k : StationId} {x : Station} {s : State} (h : x.state = s.stations[k].state) :
    changeStation k x s = putStation k x s := if_pos h

theorem changeStation_changed {k : StationId} {x : Station} {s : State} (h : x.state ≠ s.stations[k].state) :
    changeStation k x s = setFlagBoth .stationState (putStation k x s) := if_neg h

/-- The entry that a frame's address finds (R141), where enabled entries hold their addresses alone. -/
theorem entryAt_of_held {s : State} (h : StationsOk s) {a : Nat} {k : StationId} (he : s.stations[k].enabled = true)
    (ha : s.stations[k].address = a) : entryAt a s.stations = some k := by
  unfold entryAt
  rcases e : allStations.find? (fun k => s.stations[k].enabled && s.stations[k].address == a) with _ | j
  · rw [List.find?_eq_none] at e
    have := e k (by simp [allStations])
    simp_all
  · have p := List.find?_some e
    simp only [Bool.and_eq_true, beq_iff_eq] at p
    by_cases x : j = k
    · rw [e, x]
    · exact absurd (p.2.trans ha.symm) (h.2 j k x p.1 he)

theorem entryAt_none {a : Nat} {t : Table Station 8}
    (h : ∀ k : StationId, ¬ (t[k].enabled = true ∧ t[k].address = a)) : entryAt a t = none := by
  unfold entryAt
  rw [List.find?_eq_none]
  intro k _
  simpa using h k

/-! ### The demand handed to the followers (R40) -/

/-- A driven channel that follows its actuator stays as it is (R43, R150). -/
theorem outputFor_driven {a : Actuator} {o : OutputChannel} (h : OutputFollows a o) (hr : releases a = false) :
    outputFor a o = o := by
  obtain ⟨h1, h2, h3⟩ := h
  have hc : o.condition = .driven := by
    cases e : o.condition
    · rw [hr] at h1; exact absurd (h1.1 e) (by decide)
    · rfl
  unfold outputFor
  rw [hr, ← h2, ← h3, hc]
  cases o; cases hc; simp

/-- A FOLLOW request at a RUNNING pump (R34, R40): the ramp toward the clamped demand, or none where that is its command. -/
theorem requestRamp_follow {a : Actuator} (h : a.state = .running) (d : Int) (step : Nat) :
    requestRamp .follow d step true a =
      ({ a with
          ramp := if clampTarget a d = a.command then none
            else some { target := clampTarget a d, rateStep := step, origin := .follow }
          accumulator := 0 },
        if clampTarget a d = a.command then .landed else .installed) := by
  unfold requestRamp landRamp
  by_cases e : clampTarget a d = a.command <;> simp [h, e]

/-- What the demand handed to a following pump that no chain attends does (R40): its FOLLOW ramp, and the supervision timers as
its feedback and its command make them; the rest of its entry stays, and its channel where that follows the entry. -/
theorem retarget_follower {n : ActId} {step d : Nat} {s : State} (hr : s.actuators[n].state = .running)
    (hf : s.actuators[n].follow = some step) (hu : Unattended n s) :
    let a := s.actuators[n]
    let t := retarget n d s
    let b : Actuator :=
      { a with
        ramp := if clampTarget a d = a.command then none
          else some { target := clampTarget a d, rateStep := step, origin := .follow }
        accumulator := 0 }
    t = putActuator n b s ∧ Supervised a t.actuators[n] ∧
      t.actuators[n] =
        { b with deviationTimer := t.actuators[n].deviationTimer, lostTimer := t.actuators[n].lostTimer } ∧
      (OutputFollows a s.outputs[n] → t.outputs[n] = s.outputs[n]) := by
  intro a t b
  have hb : t = putActuator n b s := by
    simp only [t, b, a, retarget, hf, requestRamp_follow hr]
    by_cases e : clampTarget s.actuators[n] d = s.actuators[n].command
    · simp only [if_pos e]
      refine (reports_unattended ?_ .none).1
      intro g hg
      exact hu g (by simpa using hg)
    · simp only [if_neg e]
  refine ⟨hb, ?_, ?_, ?_⟩
  · rw [hb, putActuator_actuators, put_self]; exact supervised_supervise rfl rfl
  · rw [hb, putActuator_actuators, put_self]; exact supervise_frame b
  · intro ho
    rw [hb, putActuator_outputs, put_self]
    have hb' : b.state = .running := hr
    exact outputFor_driven ho (by simp [releases, hb'])

end Sys2Proof.Machine
end

