-- ==== Sys2Proof/Tests/Slice0.lean ====
section
/-! SUPPORT. Tests of the model: the refusals of the well-formedness checks, the manual's worked examples, and for each
statement with hypotheses a concrete state and operands that meet them. Each example's source is named. -/

namespace Sys2Proof.Tests

set_option Elab.async false

open Sys2Proof.Machine

/-! ### Ill-formed commands are refused -/

theorem test_wf_profile_empty : Instr.wellFormed (.writeProfile ⟨.m1, 0⟩ 0 []) = false := by decide

theorem test_wf_profile_seventeen :
    Instr.wellFormed (.writeProfile ⟨.m1, 0⟩ 0 (List.replicate 17 0)) = false := by decide

theorem test_wf_profile_sixteen :
    Instr.wellFormed (.writeProfile ⟨.m1, 0⟩ 0 (List.replicate 16 0)) = true := by decide

theorem test_wf_unknown_with_known_code : Instr.wellFormed (.unknownRequest ⟨.m1, 0⟩ 0x10) = false := by decide

theorem test_wf_unknown_code : Instr.wellFormed (.unknownRequest ⟨.m1, 0⟩ 0x13) = true := by decide

theorem test_wf_bad_length_with_good_length : Instr.wellFormed (.badLength ⟨.m1, 0⟩ 0x10 1) = false := by decide

theorem test_wf_bad_length_too_long : Instr.wellFormed (.badLength ⟨.m1, 0⟩ 0x10 58) = false := by
  rw [Instr.wellFormed, Bool.and_eq_false_iff]; exact .inl rfl

theorem test_wf_bad_length : Instr.wellFormed (.badLength ⟨.m1, 0⟩ 0x10 0) = true := by decide

theorem test_wf_break_and_framing :
    Instr.wellFormed (.linkCharacterReceived .m1 0 ⟨false, false, true, true⟩) = false := by decide

theorem test_wf_break_with_byte :
    Instr.wellFormed (.linkCharacterReceived .m1 5 ⟨false, false, false, true⟩) = false := by decide

/-- A count of 0 comes of a stop bit decided low whose sample 9 was high (log entry 24). -/
theorem test_wf_stop_bit_low_zero : Instr.wellFormed (.stationStopBitLow 0) = true := by decide

theorem test_wf_stop_bit_low_break : Instr.wellFormed (.stationStopBitLow 176) = false := by decide

/-! ### Worked arithmetic of the manual -/

/-- Section 7.3.1. -/
theorem test_crc8_example : crc8 [0x11, 0x2A, 0x02, 0xF8, 0x00] = 0x68 := by decide +kernel

/-- Section 2.3, effective rates. -/
theorem test_rate_steps :
    [1, 3, 7, 10, 167, 500, 10000].map rateStepOf = [6, 19, 45, 64, 1069, 3200, 64000] := by decide

/-- A valve as in section 2.8, at command 2000 with the ramp that rate 167 gives. -/
def strokingValve : Actuator :=
  { Actuator.powerOn with
    cfg :=
      { ActConfig.powerOn with
        kind := .valve, group := some 4, maxRate := 500, defaultRate := 200, safeAction := some .hold }
    state := .moving, command := 2000, ramp := some { target := 6500, rateStep := 1069, origin := .move } }

/-- The valve after a number of expiries of its ramp. -/
def stroked (k : Nat) : Actuator :=
  (fun a => (stepRamp { target := 6500, rateStep := 1069, origin := .move } a).1)^[k] strokingValve

/-- Section 2.8, expiries 1 to 5. -/
theorem test_stroke_commands :
    [1, 2, 3, 4, 5].map (fun k => ((stroked k).command, (stroked k).accumulator)) =
      [(2016, 45), (2033, 26), (2050, 7), (2066, 52), (2083, 33)] := by decide

/-- Section 2.8: at command 6493 with accumulator 9 the next expiry lands. -/
theorem test_stroke_lands :
    stepRamp { target := 6500, rateStep := 1069, origin := .move }
        { strokingValve with command := 6493, accumulator := 9 } =
      ({ strokingValve with command := 6500, accumulator := 0, ramp := none, state := .holding }, true) := by decide

/-- R43, the lowest command that gives a duty of 1 under each period. -/
theorem test_lowest_duties :
    [dutyOf 49 100, dutyOf 50 100, dutyOf 4 1000, dutyOf 5 1000, dutyOf 1 4095, dutyOf 2 4095] =
      [0, 1, 0, 1, 0, 1] := by decide

/-- R134 and R169, the divisors. -/
theorem test_divisors :
    [1200, 2400, 4800, 9600, 19200, 38400, 57600, 115200].map (fun b => (divisorInteger b, divisorFraction b)) =
      [(833, 21), (416, 43), (208, 21), (104, 11), (52, 5), (26, 3), (17, 23), (8, 44)] := by decide

/-- R63, the effective rows of the table. -/
theorem test_effective_rows :
    [(6 : Int) + 2, 0 - 1, 3 - 5, 60 + 31, 63 + 1, 0 - 32].map (fun x => (mod64 x).val) =
      [8, 63, 62, 27, 0, 32] := by decide

/-- The bytes of slot 21 in section 10.3. -/
def slot21 : RawDescriptor :=
  { op := 0x00, subject := 0x04, qualifier := 0x00, mode := 0x03, operandHigh := 0x01, operandLow := 0x02, pair := 0x01,
    second := 0x0000, wait := 0x01, onFail := 0x00, next := 0x16, alt := 0xFF }

/-- Section 10.3: slot 21 is MOVE A4, IDXU on C1 with +2, pair, wait, HALT, next slot 22. -/
theorem test_slot21 :
    descriptor? slot21 =
      some { op := .move 4 0 true, operand := .idxu .c1 2, pair := true, onFail := .halt, next := some 22 } := by decide

/-- Section 10.3: slot 24 is MOVE A6 through C0 with −1, pair, CONTINUE, next END; its bytes are those the manual gives. -/
theorem test_slot24 :
    descriptorBytes { op := .move 6 0 false, operand := .idx .c0 (-1), pair := true, onFail := .continue, next := none } =
      [0x00, 0x06, 0x00, 0x02, 0x00, 0xFF, 0x01, 0x00, 0x00, 0x00, 0x01, 0xFF, 0xFF] := by decide

/-- R120, the proportional term of the table. -/
theorem test_proportional :
    [((40 : Nat), (-40 : Int)), (40, 90), (5, 3), (5, -3), (5, 1), (255, -2000)].map
        (fun x => proportional { Governor.powerOn with kp := x.1 } x.2) =
      [200, -450, -1, 1, 0, 63750] := by decide

/-- The governor of sections 6.3.1 and 6.3.2. -/
def regulating : Governor :=
  { Governor.powerOn with
    mode := .regulate, kp := 40, ki := 16, dmin := 3000, dmax := 9500, dstep := 100, demand := 6050, integral := 384000 }

/-- Section 6.3.1, this evaluation and the next. -/
theorem test_regulation :
    ((regulate 1 (-40) regulating).demand, (regulate 1 (-40) regulating).integral,
      (regulate 1 (-40) (regulate 1 (-40) regulating)).demand,
      (regulate 1 (-40) (regulate 1 (-40) regulating)).integral) = (6150, 384640, 6210, 385280) := by decide

/-- Section 6.3.2, evaluations 1 and 3. -/
theorem test_antiwindup :
    ((regulate 1 (-300) { regulating with demand := 9500, integral := 600000 }).integral,
      (regulate 1 50 { regulating with demand := 9500, integral := 600000 }).demand,
      (regulate 1 50 { regulating with demand := 9500, integral := 600000 }).integral) = (600000, 9400, 599200) := by
  decide

/-- Section 8.3.1, four periods that span 80000 and 91954 counts. -/
theorem test_flowmeter :
    [80000, 91954].map (fun span : Nat =>
        (withMeasurement { Capture.powerOn with gain := 8192 } ((10000000 * 4 + span / 2) / span)).value) =
      [1000, 870] := by decide

/-- Section 8.3.2, the three positions of the valve. -/
theorem test_valve_position :
    [4735, 900, 9500].map (fun high : Nat =>
        (withMeasurement { Capture.powerOn with gain := 5120, offset := -1250 } ((high * 10000 + 5000) / 10000)).value) =
      [4668, 0, 10625] := by decide

/-- Section 9.9: the CLAIM frame has 8 characters and its response 9. -/
theorem test_exchange_lengths :
    ((requestFrame 0x0107 0x10 [0x02]).length,
      (responseFrame { status := 0, code := 0x10, tag := 0x0107, payload := [0x02] }).length) = (8, 9) := by decide

/-! ### States for the tests -/

/-- A request of Master 1. -/
def q1 : Req := { master := .m1, tag := 0x0107 }

/-- A request of Master 2. -/
def q2 : Req := { master := .m2, tag := 0x0208 }

/-- The state that a command leaves. -/
def after (c : Instr) (s : State) : State :=
  match exec c s with
  | .next t => t
  | .fault _ => s
  | .refused _ => s

/-- The answer that waits in a master's port. -/
def answered (m : Master) (s : State) : Option (Byte × List Byte) :=
  (port m s).response.map fun r => (r.status, r.payload)

/-- Master 1 holds everything. -/
def held : State :=
  { State.reset with groupHolders := Vector.replicate 5 (some .m1), govHolder := some .m1 }

/-- An actuator entry with its channel. -/
def withActuator (n : ActId) (a : Actuator) (s : State) : State :=
  { s with actuators := put s.actuators n a, outputs := put s.outputs n (outputFor a s.outputs[n]) }

/-- A pump of G0 with its proof input on DI5. -/
def pump : Actuator :=
  { Actuator.powerOn with
    cfg :=
      { ActConfig.powerOn with
        kind := .pump, group := some 0, min := 2000, max := 9000, maxRate := 500, defaultRate := 200
        proofInput := some 5, proofTimeout := some 10 } }

/-- A valve of G0 without feedback. -/
def valve : Actuator :=
  { Actuator.powerOn with
    cfg :=
      { ActConfig.powerOn with
        kind := .valve, group := some 0, min := 100, maxRate := 500, defaultRate := 200, safeAction := some .hold } }

/-- The same valve with feedback on CC3. -/
def tracked (v : Feedback) : Actuator :=
  { valve with
    cfg := { valve.cfg with feedback := some { channel := 3, tolerance := 50, time := 2 } }
    feedback := some v }

/-- A running pump at command 3000. -/
def running : Actuator := { pump with state := .running, command := 3000 }

/-- A running pump with a ramp. -/
def ramping : Actuator := { running with ramp := some { target := 2990, rateStep := 639, origin := .move } }

/-- A state of empty entries is fit. -/
theorem actuatorsOk_empty {s : State} (h : s.actuators = Vector.replicate 16 Actuator.powerOn) : ActuatorsOk s := by
  intro k
  simp [h, ActuatorOk, ConfigOk, StateFits, CommandOk, SlewOk, Actuator.powerOn, ActConfig.powerOn]

/-- A fit state stays fit with one more fit entry. -/
theorem actuatorsOk_with {n : ActId} {a : Actuator} {s : State} (hs : ActuatorsOk s) (ha : ActuatorOk a) :
    ActuatorsOk (withActuator n a s) := by
  intro k
  have e : (withActuator n a s).actuators[k] = if k = n then a else s.actuators[k] := get_put ..
  rw [e]
  split
  · exact ha
  · exact hs k

theorem runningOk : ActuatorOk running := by
  simp [ActuatorOk, ConfigOk, StateFits, CommandOk, SlewOk, running, pump, Actuator.powerOn, ActConfig.powerOn]

/-- A DWELL of 5 s with no link. -/
def dwell5 : Descriptor := { op := .dwell, operand := .imm 5, pair := false, onFail := .halt, next := none }

/-- A state in which Master 1 has written one record to slot 7. -/
def written (d : Descriptor) (s : State) : State :=
  { s with slots := put s.slots 7 { state := .written .m1, record := d } }

/-- A chain of Master 1 on slot 7 in G0, in the given chain record. -/
def chained (d : Descriptor) (x : Executor) (s : State) : State :=
  { s with
    slots := put s.slots 7 { state := .bound .m1 0, record := d }
    executors := put s.executors 0 { x with starter := some .m1, startSlot := some 7, current := some 7 } }

/-- A chain record that waits. -/
def waitingOn (w : Waiting) : Executor :=
  { Executor.powerOn with state := .active, waiting := some w, timer := some 0, stepCount := 1 }

/-- A chain record that is halted. -/
def haltedAt (accepted : Bool) : Executor :=
  { Executor.powerOn with
    state := .halted, stepCount := 1, currentAccepted := some accepted
    retained := some { first := 5, second := none, row := none } }

/-- A state in which PTRIP is asserted. -/
def tripped (s : State) : State := { s with ptrip := { asserted := true, raw := false, age := 0 } }

/-! ### Worked requests of the manual -/

/-- R106: Master 1 claims G1 and GOV, then Master 2 claims G4 and GOV: the second is refused with GOV alone. -/
theorem test_claim_order :
    answered .m2 (after (.claim q2 0x30) (after (.claim q1 0x22) State.reset)) = some (2, [0x20]) := by decide +kernel

/-- R107: a release that names one held and one free group answers the one that was not held. -/
theorem test_release_not_held :
    answered .m1 (after (.release q1 0x03) (after (.claim q1 0x01) State.reset)) = some (0, [0x02]) := by decide +kernel

/-- The slots of section 4.2.1. -/
def walkState : State :=
  let d : OnFail → Option SlotId → Slot := fun f n =>
    { state := .written .m1, record := { dwell5 with onFail := f, next := n } }
  { held with
    slots :=
      put (put (put (put (put held.slots 10 (d (.branch (some 14)) (some 11))) 11 (d .halt (some 12)))
        12 (d .halt (some 13))) 13 (d .halt none)) 14 (d .abort (some 12)) }

/-- Section 4.2.1: the chain is fit and all five slots are bound. -/
theorem test_walk_fit : answered .m1 (after (.runChain q1 3 10) walkState) = some (0, [5]) := by decide +kernel

/-- Section 4.2.1, the first three changes. -/
theorem test_walk_refusals :
    [put walkState.slots 13 { state := .written .m1, record := { dwell5 with next := some 11 } },
      put walkState.slots 14 { state := .written .m1, record := { dwell5 with next := some 10 } },
      put walkState.slots 12 Slot.powerOn].map
        (fun slots => answered .m1 (after (.runChain q1 3 10) { walkState with slots := slots })) =
      [some (8, [13]), some (8, [14]), some (7, [12])] := by decide +kernel

/-- R56: from row 60 with six values, the last is written to row 1. -/
theorem test_profile_wraps :
    (after (.writeProfile q1 60 [1, 2, 3, 4, 5, 6]) State.reset).profile.toList.take 3 = [5, 6, 0] := by decide +kernel

/-- The station table of section 7.8 at t = −3. -/
def stationState : State :=
  { State.reset with
    receiver := { State.reset.receiver with sampler := .idle }
    stations :=
      put (put State.reset.stations 1
        { enabled := true, address := 17, setpoint := 800, staleTime := 10, state := .fresh
          reading := some { dp := 780, sequence := 41, quality := .good }, staleTimer := some 7000000 })
        3 { Station.powerOn 3 with enabled := true, address := 33 } }

/-- A break and the bytes of a station frame, with the check that its five bytes give. -/
def heard (address sequence high low quality : Byte) (s : State) : State :=
  let bytes := [address, sequence, high, low, quality]
  (bytes ++ [crc8 bytes]).foldl (fun t b => after (.stationCharacter b false) t)
    (after .stationFirstHighSample (after .stationBreak s))

/-- Section 7.8, t = 0 and t = 0.6: the frame is taken without attention, and its repeat is dropped. -/
theorem test_station_repeat :
    (let s := heard 17 42 2 0xF8 0 (heard 17 42 2 0xF8 0 stationState)
     (s.stations[(1 : StationId)].reading, s.receiver.lastRejection, flagSet .m1 .stationState s)) =
      (some { dp := 760, sequence := 42, quality := .good }, .repeated 17, false) := by decide +kernel

/-- Section 7.8, t = 3: a frame of quality BAD. -/
theorem test_station_bad :
    (let s := heard 17 44 0 120 2 stationState
     (s.stations[(1 : StationId)].state, s.stations[(1 : StationId)].staleTimer, flagSet .m2 .stationState s)) =
      (.bad, some 10000000, true) := by decide +kernel

/-- The samples of bits, 16 of each. -/
def sampled (bits : List Bool) : List Bool := bits.flatMap (List.replicate 16)

/-- An idle station line with these samples ahead. -/
def line (samples : List Bool) : StationReceiver :=
  { stationState.receiver with input := { level := true, ahead := samples } }

/-- R135: the samples of 0xA5, with one that disagrees in a bit's middle, complete it at sample 9 of the stop bit, noisy. -/
theorem test_sampler_byte :
    (let r := sampleStation^[153] (line (sampled [false, true, false, true, false, false, true, false] ++
       List.replicate 7 true ++ [false] ++ List.replicate 8 true ++ List.replicate 16 true))
     (r.sampler, r.decided)) = (.idle, some (.character 0xA5 true)) := by decide +kernel

/-- R136's case of a low stretch of 170 samples: one framing error at its end and no break. -/
theorem test_sampler_framing :
    (let r := sampleStation^[170] (line (List.replicate 170 false ++ [true]))
     (r.sampler, r.lowCount, r.decided, (sampleStation r).decided)) = (.lowWatch, 170, none, some .framingError) := by
  decide +kernel

/-- R136: the 176th low sample is a break. -/
theorem test_sampler_break :
    (let r := sampleStation^[175] (line (List.replicate 200 false))
     (r.sampler, r.decided, (sampleStation r).sampler, (sampleStation r).decided)) =
      (.lowWatch, none, .markWait, some .brk) := by decide +kernel

/-- R170: 0x0B under EVEN, three ones, with parity bit 0 and a low stop bit: PARITY and FRAMING, and a wait for a high sample. -/
theorem test_port_sampler :
    (let p : Port :=
       { Port.powerOn with
         receiver := .idle
         input := { level := true, ahead := sampled [false, true, true, false, true, false, false, false, false, false, false] } }
     let r := samplePort^[169] p
     (r.receiver, r.decided)) =
      (.waitHigh, some (0x0B, { noise := false, parity := true, framing := true, brk := false })) := by decide +kernel

/-- R154: a channel out of OFF with its input high takes no edge until the input has been low. -/
theorem test_capture_first_edge :
    (let x := { Capture.powerOn with input := { level := true, ahead := [] } }
     let on := after (.configureCapture q1 { channel := 3, mode := 1, prescale := 1, timeout := 20, gain := 4096, offset := 0 })
       { held with captures := put held.captures 3 x }
     ((after (.captureEdge 3 true 9) on).captures[(3 : CaptureId)].phase,
       (after (.captureEdge 3 true 11) (after (.captureEdge 3 false 9) on)).captures[(3 : CaptureId)].phase)) =
      (.waitEdge, .counting 0 11) := by decide +kernel

/-- R163: a CONFIGURE CAPTURE of the gain alone, taken at the end of the timeout, starts the timer anew, and the expiry that met
it does not occur; with time left the timer keeps it (R161). -/
theorem test_capture_configured_at_expiry :
    [some 0, some 7].map (fun left =>
      let x := { Capture.powerOn with mode := .frequency, timeout := 20, phase := .counting 0 5, timer := left }
      let t := after (.captureTimeoutExpiry 3)
        (after (.configureCapture q1 { channel := 3, mode := 1, prescale := 1, timeout := 30, gain := 8192, offset := 0 })
          { held with captures := put held.captures 3 x })
      (t.captures[(3 : CaptureId)].timer, t.captures[(3 : CaptureId)].phase)) =
      [(some 3000000, .counting 0 5), (some 7, .counting 0 5)] := by decide +kernel

/-- R175: the CRC-16 of that generator and start value is known to give 0x29B1 on the digits 1 to 9 (PRESUMED, from outside the
manual). -/
theorem test_crc16_check : crc16 [0x31, 0x32, 0x33, 0x34, 0x35, 0x36, 0x37, 0x38, 0x39] = 0x29B1 := by decide +kernel

/-- Section 10.3: the bytes of a CLAIM of G1 arrive one by one, and the port answers them. -/
theorem test_claim_frame :
    answered .m1 ((requestFrame 0x0107 0x10 [0x02]).foldl
      (fun t b => after (.linkCharacterReceived .m1 b .clean) t) State.reset) = some (0, [0x02]) := by decide +kernel

/-- R1: a PTRIP level that has lasted its 20 ms is taken before the panel reset, which leaves the pump faulted with
PLANT_TRIP and the filter at not asserted (R27, R30). -/
theorem test_panel_reset_after_trip :
    (let s := withActuator 2 running { held with ptrip := { asserted := false, raw := false, age := 20000 } }
     let t := after .panelReset s
     (dueEvents s, t.actuators[(2 : ActId)].state, t.actuators[(2 : ActId)].fault, t.ptrip.asserted)) =
      ([.tripAssertion], .faulted, .plantTrip, false) := by decide +kernel

/-- R157, R159: the ending edge of a DUTY measurement taken at the count of the overflow does so too. -/
theorem test_duty_edge_at_overflow :
    (let x : Capture :=
       { Capture.powerOn with mode := .duty, phase := .low 9 4, age := 16777216, timer := some 5 }
     let y := (after (.dutyMeasurement 3 9) { held with captures := put held.captures 3 x }).captures[(3 : CaptureId)]
     (y.phase, y.age, y.timer, y.lastRaw.isSome)) = (.high 9, 0, some 2000000, true) := by decide +kernel

/-- R157, R159: the N-th edge taken at the count of the overflow begins the next measurement and restarts the timer. -/
theorem test_edge_at_overflow :
    (let x : Capture :=
       { Capture.powerOn with mode := .frequency, prescale := 4, phase := .counting 3 9, age := 16777216, timer := some 5 }
     let y := (after (.frequencyMeasurement 3 9) { held with captures := put held.captures 3 x }).captures[(3 : CaptureId)]
     (y.phase, y.age, y.timer, y.lastRaw.isSome)) = (.counting 0 9, 0, some 2000000, true) := by decide +kernel

/-- R75, R109: RUN CHAIN taken first and the silence expiry of its master then: the chain has started and ended CANCELLED. -/
theorem test_run_chain_then_expiry :
    (let x := (silenceAtOwners .m1 (runChainOwner .m1 0 7 (written dwell5 held)).1).executors[(0 : GroupId)]
     (x.state, x.outcome, x.starter, x.stepCount)) = (.idle, .cancelled, some .m1, 1) := by decide +kernel

/-- R19: a completed measurement 100 units from the command starts the deviation timer; the command steps to within the
tolerance and it is absent. -/
theorem test_deviation_timer :
    (let far : Actuator := { tracked { value := 0, status := .ok } with state := .holding, command := 100 }
     let near : Actuator :=
       { tracked { value := 60, status := .ok } with
         state := .moving, command := 111, deviationTimer := some 5, ramp := some ⟨100, 640, .move⟩ }
     ((supervise far).deviationTimer,
       (after (.slewExpiry 2) (withActuator 2 { near with command := 120 } held)).actuators[(2 : ActId)].deviationTimer,
       (after (.slewExpiry 2) (withActuator 2 near held)).actuators[(2 : ActId)].deviationTimer)) =
      (some 2000000, none, none) := by decide +kernel

/-- R169: 0x0B, three ones, as sent under EVEN and under NONE. -/
theorem test_character_bits :
    (characterBits { baud := 19200, even := true, silence := 15 } 0x0B,
      characterBits { baud := 19200, even := false, silence := 15 } 0x0B) =
      ([false, true, true, false, true, false, false, false, false, true, true],
        [false, true, true, false, true, false, false, false, false, true]) := by decide

/-! ### States and operands that meet the hypotheses of the statements

Each theorem is named after its statement. Where a statement has clauses, each clause has its own conjunct, at a boundary of
its range where it has one. -/

/-- A port in LISTEN whose silence timer does not run. -/
theorem inTime {m : Master} {s : State} (h : Listening m s) (k : (port m s).silenceTimer = none) : ListeningInTime m s :=
  ⟨h, by simp [k]⟩

theorem witness_StepTakesFrontCommand :
    ({ State.reset with pending := [.panelReset, .powerOnReset] } : State).pending = .panelReset :: [.powerOnReset] := rfl

/-- An expiry that is due, and the reset state, in which nothing is due. -/
theorem witness_IdleStepPassesTime :
    (let s := withActuator 3 { Actuator.powerOn with slewTimer := 0 } State.reset
     s.pending = [] ∧ dueEvents s = [.slewExpiry 3]) ∧ dueEvents State.reset = [] ∧ State.reset.pending = [] := by
  decide +kernel

/-- Nothing due, one event due and two. -/
theorem witness_PanelReset :
    InputsAgree (takeDueEvents State.reset) ∧ dueEvents State.reset = [] ∧
      (let s := withActuator 3 { Actuator.powerOn with slewTimer := 0 } State.reset
       dueEvents s = [.slewExpiry 3] ∧
         2 ≤ (dueEvents { s with governor := { s.governor with evalTimer := 0 } }).length) := by
  unfold InputsAgree; decide +kernel

/-- DI5 alone has a raw level that differs, and it proves the pump alone; the pump in each state of the clauses. -/
theorem witness_PanelReset_difference :
    (let s := fun a : Actuator =>
       takeDueEvents (withActuator 2 a { held with inputs := put held.inputs 5 { InputFilter.powerOn true with raw := false } })
     (s running).inputs[(5 : InputId)].raw ≠ (s running).inputs[(5 : InputId)].filtered ∧
       (∀ e : InputId, e ≠ 5 → (s running).inputs[e].raw = (s running).inputs[e].filtered) ∧
       pump.cfg.kind = .pump ∧ pump.cfg.tripScope = .self ∧ pump.cfg.proofInput = some 5 ∧
       (∀ k : ActId, k ≠ 2 → (s running).actuators[k].cfg.proofInput ≠ some 5) ∧
       (∀ k : ActId, (s running).actuators[k].cfg.permissive.map Permissive.input ≠ some 5) ∧
       (s running).inputs[(5 : InputId)].raw = false ∧ (s running).actuators[(2 : ActId)].state = .running ∧
       (s { pump with state := .stopping .rampDown }).actuators[(2 : ActId)].state = .stopping .rampDown ∧
       (s { pump with state := .stopping .dropWait }).actuators[(2 : ActId)].state = .stopping .dropWait ∧
       (s { pump with state := .stopped }).actuators[(2 : ActId)].state = .stopped) ∧
    (let s := takeDueEvents (withActuator 2 { pump with state := .starting }
       { held with inputs := put held.inputs 5 { InputFilter.powerOn false with raw := true } })
     s.inputs[(5 : InputId)].raw = true ∧ s.actuators[(2 : ActId)].state = .starting) := by decide +kernel

/-- Sets at both ends of their range; one resource is the other master's, and none is. -/
theorem witness_ClaimTakenWhole :
    ListeningInTime q2.master held ∧ 0 < (0x01 : Byte).toNat ∧
      (0x3F : Byte).toNat < 64 ∧
      (∃ r : Resource, (0x01 : Byte).getLsbD r.val = true ∧ holderOf r held = some q2.master.other) ∧
      ListeningInTime q1.master State.reset ∧
      ∀ r : Resource, ((0x3F : Byte).getLsbD r.val && decide (holderOf r State.reset = some q1.master.other)) = false :=
  ⟨inTime rfl rfl, by decide, by decide, by decide +kernel, inTime rfl rfl, by decide +kernel⟩

theorem witness_ReleaseEndsClaims :
    ListeningInTime q1.master (chained dwell5 (waitingOn .timer) held) ∧
      0 < (0x01 : Byte).toNat ∧ (0x3F : Byte).toNat < 64 ∧
      (chained dwell5 (waitingOn .timer) held).executors[(0 : GroupId)].state ≠ .idle ∧
      (∃ r, ramping.ramp = some r ∧ r.origin = .move) ∧ memberOf 0 ramping = true :=
  ⟨inTime rfl rfl, by decide, by decide, by decide +kernel, ⟨_, rfl, rfl⟩, rfl⟩

/-- Claims, chains and slots agree in a state with one chain. -/
theorem dispatchOk_chained (d : Descriptor) (x : Executor) (h : x.state ≠ .idle) : DispatchOk (chained d x held) := by
  constructor
  · intro g hg
    by_cases e : g = 0
    · subst e; exact ⟨.m1, by simp only [chained, put_self], by simp [chained, held]⟩
    · exact absurd (by simp [chained, e, held, State.reset, Executor.powerOn]) hg
  · intro k
    by_cases e : k = 7
    · subst e; simp only [chained, put_self]; exact ⟨h, trivial⟩
    · simp [chained, e, held, State.reset, Slot.powerOn]

theorem witness_SilenceExpiryFreesEverything :
    (let s := chained dwell5 (waitingOn .timer) { held with port1 := { Port.powerOn with silenceTimer := some 0 } }
     (port .m1 s).silenceTimer = some 0 ∧ q1.master = .m1 ∧ Listening .m1 s ∧
       claimsBearOn (.release q1 0x3F) = true ∧ requestOf (.release q1 0x3F) = some q1) ∧
    DispatchOk (chained dwell5 (waitingOn .timer) { held with port1 := { Port.powerOn with silenceTimer := some 0 } }) :=
  ⟨⟨rfl, rfl, rfl, rfl, rfl⟩, dispatchOk_chained dwell5 (waitingOn .timer) (by decide)⟩

/-- A RUN CHAIN and a RESUME that meet the expiry. -/
theorem witness_SilenceExpiryFreesEverything_chains :
    (let s := { written dwell5 held with port1 := { Port.powerOn with silenceTimer := some 0 } }
     (port .m1 s).silenceTimer = some 0 ∧ Listening .m1 s ∧ claimsBearOn (.runChain q1 0 7) = true ∧
       requestOf (.runChain q1 0 7) = some q1 ∧ claimsBearOn (.resumeRetry q1 0) = true) ∧
    DispatchOk { written dwell5 held with port1 := { Port.powerOn with silenceTimer := some 0 } } :=
  ⟨⟨rfl, rfl, rfl, rfl, rfl⟩,
    fun g hg => absurd (by simp [written, held, State.reset, Executor.powerOn]) hg, fun k => by
      by_cases e : k = 7
      · subst e; simp only [written, put_self]
      · simp [written, e, held, State.reset, Slot.powerOn]⟩

/-- The record of slot 24 of section 10.3, and a record of no op. -/
theorem witness_DescriptorWrittenAndFreed :
    Listening q1.master held ∧ 128 ≤ (128 : Byte).toNat ∧ index? 128 127 = some 127 ∧
      (chained dwell5 (waitingOn .timer) held).slots[(7 : SlotId)].state = .bound .m1 0 ∧
      (written dwell5 held).slots[(7 : SlotId)].state = .written q2.master.other ∧
      (written dwell5 held).slots[(7 : SlotId)].state = .written q1.master ∧
      held.slots[(127 : SlotId)].state = .free ∧ (descriptor? slot21).isSome = true ∧
      descriptor? { slot21 with op := 8 } = none :=
  ⟨rfl, by decide, by decide, by decide +kernel, by decide +kernel, by decide +kernel, by decide +kernel,
    by decide +kernel, by decide +kernel⟩

theorem witness_ProfileRows :
    Listening q1.master held ∧ 1 ≤ [(9 : Half)].length ∧ (List.replicate 16 (9 : Half)).length ≤ 16 ∧
      64 ≤ (64 : Byte).toNat ∧ index? 64 63 = some 63 ∧ (0 : Byte).toNat = 0 ∧ 16 < (17 : Byte).toNat ∧
      1 ≤ (1 : Byte).toNat ∧ (16 : Byte).toNat ≤ 16 :=
  ⟨rfl, by decide⟩

theorem witness_WriteCursorChecksAndEffect : ListeningInTime q1.master held := inTime rfl rfl

/-- Records with each operand mode. -/
theorem witness_OperandFetchAndCursors :
    dwell5.operand = .imm 5 ∧ ({ dwell5 with operand := .row 63 } : Descriptor).operand = .row 63 ∧
      ({ dwell5 with operand := .idx .c1 (-32) } : Descriptor).operand = .idx .c1 (-32) ∧
      ({ dwell5 with operand := .idxu .c2 31 } : Descriptor).operand = .idxu .c2 31 := ⟨rfl, rfl, rfl, rfl⟩

theorem witness_CancelChainEndsChain :
    (let s := chained dwell5 (waitingOn .timer) (withActuator 2 { running with ramp := some ⟨9000, 64, .move⟩ } held)
     ListeningInTime q1.master s ∧ index? 5 0 = some 0 ∧ s.groupHolders[(0 : GroupId)] = some q1.master ∧
       s.executors[(0 : GroupId)].state ≠ .idle ∧ memberOf 0 s.actuators[(2 : ActId)] = true) :=
  ⟨inTime rfl rfl, by decide +kernel⟩

theorem witness_RunChainStartsDwell :
    (let s := written dwell5 held
     ListeningInTime q1.master s ∧ index? 5 0 = some 0 ∧ index? 128 7 = some 7 ∧
       s.groupHolders[(0 : GroupId)] = some q1.master ∧ s.executors[(0 : GroupId)].state = .idle ∧
       s.ptrip.asserted = false ∧
       s.slots[(7 : SlotId)] =
         { state := .written q1.master
           record := { op := .dwell, operand := .imm 5, pair := false, onFail := .halt, next := none } }) :=
  ⟨inTime rfl rfl, by decide +kernel⟩

/-- Section 4.2.1: a chain of five slots whose first is a DWELL. -/
theorem witness_RunChainStartsDwell_larger :
    ListeningInTime q1.master walkState ∧ index? 5 3 = some 3 ∧ index? 128 10 = some 10 ∧
      walkState.groupHolders[(3 : GroupId)] = some q1.master ∧ walkState.executors[(3 : GroupId)].state = .idle ∧
      walkState.ptrip.asserted = false ∧ reachable q1.master 3 10 walkState = .ok [14, 13, 12, 11, 10] ∧
      DwellAt 10 5 walkState :=
  ⟨inTime rfl rfl, by unfold DwellAt; decide +kernel⟩

/-- One step on actuator 2 by an immediate operand. -/
def movesTwo (op : Op) (v : Half) : Descriptor :=
  { op := op, operand := .imm v, pair := false, onFail := .halt, next := none }

/-- The hypotheses that the clauses of RunChainMovesActuator share, decided. -/
def movable (d : Descriptor) (a : Actuator) (s : State) : Bool :=
  let t := written d (withActuator 2 a s)
  t.groupHolders[(0 : GroupId)] == some .m1 && t.executors[(0 : GroupId)].state == .idle && !t.ptrip.asserted &&
    memberOf 0 t.actuators[(2 : ActId)] && t.slots[(7 : SlotId)] == { state := .written .m1, record := d } &&
    t.actuators[(2 : ActId)] == a

theorem witness_RunChainMovesActuator_start :
    ListeningInTime .m1 (written (movesTwo (.start 2) 0) (withActuator 2 { pump with state := .stopped } held)) ∧
      movable (movesTwo (.start 2) 0) { pump with state := .stopped } held = true ∧ pump.cfg.kind = .pump ∧
      permits pump held = true ∧ ∀ d, pump.cfg.proofInput = some d → held.inputs[d].filtered = false :=
  ⟨inTime rfl rfl, by decide +kernel, rfl, rfl, fun d h => by cases h; decide +kernel⟩

theorem witness_RunChainMovesActuator_stop :
    ListeningInTime .m1 (written (movesTwo (.stop 2) 0) (withActuator 2 running held)) ∧
      movable (movesTwo (.stop 2) 0) running held = true ∧ running.cfg.min < running.command ∧
      running.cfg.min ≤ running.cfg.max :=
  ⟨inTime rfl rfl, by decide +kernel, by decide, by decide⟩

theorem witness_RunChainMovesActuator_follow :
    (let s : State := { held with governor := { Governor.powerOn with mode := .hold } }
     ListeningInTime .m1 (written (movesTwo (.follow 2) 0) (withActuator 2 running s)) ∧
       movable (movesTwo (.follow 2) 0) running s = true ∧ s.governor.mode ≠ .off) :=
  ⟨inTime rfl rfl, by decide +kernel, by decide⟩

/-- A permissive input that reads low where the actuator needs it high. -/
def barred (a : Actuator) : Actuator := { a with cfg := { a.cfg with permissive := some { input := 6, sense := true } } }

theorem witness_RunChainMovesActuator_permissive :
    (let a : Actuator := { valve with state := .holding, command := 100 }
     movable (movesTwo (.move 2 0 false) 2000) a held = true ∧ valve.cfg.kind = .valve ∧ a.state = .holding ∧
       permits a held = true ∧ movable (movesTwo (.move 2 0 false) 2000) (barred a) held = true ∧
       permits (barred a) held = false ∧ (barred a).cfg.tripScope = .self ∧ a.command = 100) ∧
    (let a : Actuator := { pump with state := .stopped }
     movable (movesTwo (.start 2) 0) (barred a) held = true ∧ permits (barred a) held = false) := by decide +kernel

/-- Targets below, at and above the limits; the first is the lower limit 2000, away from the command 3000. -/
theorem witness_RunChainMovesActuator_move :
    ListeningInTime .m1 (written (movesTwo (.move 2 0 false) 2000) (withActuator 2 running held)) ∧
      movable (movesTwo (.move 2 0 false) 2000) running held = true ∧
      movable (movesTwo (.move 2 0 false) 0x8000) running held = true ∧
      movable (movesTwo (.move 2 0 false) 0x7FFF) running held = true ∧ running.state = .running ∧
      running.command = 3000 :=
  ⟨inTime rfl rfl, by decide +kernel, by decide +kernel, by decide +kernel, rfl, rfl⟩

theorem witness_RunChainMovesActuator_faulted :
    ListeningInTime .m1 (written (movesTwo (.move 2 0 true) 5) (withActuator 2 { pump with state := .faulted } held)) ∧
      movable (movesTwo (.move 2 0 true) 5) { pump with state := .faulted } held = true :=
  ⟨inTime rfl rfl, by decide +kernel⟩

theorem witness_ValidationWalkSound : reachable .m1 3 10 walkState = .ok [14, 13, 12, 11, 10] := by decide +kernel

/-- Section 4.2.1: a path to END. -/
theorem witness_ValidationWalkSound_path :
    FitPath .m1 3 [14, 12, 13] walkState ∧ linksOf walkState.slots[(13 : SlotId)].record = [] ∧
      ∀ j ∈ ([14, 12, 13] : List SlotId), (linksOf walkState.slots[j].record).length ≤ 1 := by
  unfold FitPath; decide +kernel

/-- Section 4.2.1, the first change: a path whose last slot leads back. -/
theorem witness_ValidationWalkSound_loop :
    (let s : State :=
       { walkState with slots := put walkState.slots 13 { state := .written .m1, record := { dwell5 with next := some 11 } } }
     FitPath .m1 3 [10, 11, 12, 13] s ∧ (linksOf s.slots[(13 : SlotId)].record).head? = some 11 ∧
       reachable .m1 3 10 s = .error (.chainLoop, 13)) := by unfold FitPath; decide +kernel

/-- Section 4.2.1, the fourth change: a path whose last slot leads to the other master's slot. -/
theorem witness_ValidationWalkSound_foreign :
    (let s : State := { walkState with slots := put walkState.slots 12 { state := .written .m2, record := dwell5 } }
     FitPath .m1 3 [10, 11] s ∧ (linksOf s.slots[(11 : SlotId)].record).head? = some 12 ∧
       slotWriter s.slots[(12 : SlotId)].state = some Master.m1.other ∧
       reachable .m1 3 10 s = .error (.foreignSlot, 12)) := by unfold FitPath; decide +kernel

/-- A path of 32 slots with a 33rd behind it. -/
theorem witness_ValidationWalkSound_long :
    (let s : State :=
       { held with
         slots := each (fun k x =>
           if k.val < 33 then { state := .written .m1, record := { dwell5 with next := some (k + 1) } } else x) held.slots }
     FitPath .m1 3 (List.ofFn fun i : Fin 32 => (⟨i.val, by omega⟩ : SlotId)) s ∧
       (linksOf s.slots[(31 : SlotId)].record).head? = some 32 ∧ reachable .m1 3 0 s = .error (.chainTooLong, 32)) := by
  unfold FitPath; decide +kernel

/-- Every clause of GroupRequestsRefused: group 5 and slot 128 out of range, no holding, IDLE, a running chain, the trip, and
each check of the start slot. -/
theorem witness_GroupRequestsRefused :
    ListeningInTime q1.master held ∧ index? 5 5 = none ∧ index? 5 4 = some 4 ∧ index? 128 128 = none ∧ index? 128 7 = some 7 ∧
      State.reset.groupHolders[(4 : GroupId)] ≠ some q1.master ∧ held.groupHolders[(4 : GroupId)] = some q1.master ∧
      held.executors[(4 : GroupId)].state = .idle ∧
      (chained dwell5 (waitingOn .timer) held).executors[(0 : GroupId)].state ≠ .idle ∧
      (chained dwell5 (waitingOn .timer) held).executors[(0 : GroupId)].state ≠ .halted ∧
      (tripped held).ptrip.asserted = true ∧ held.slots[(7 : SlotId)].state = .free ∧
      slotWriter (written dwell5 held).slots[(7 : SlotId)].state = some q2.master.other ∧
      ({ held with slots := put held.slots 7 { state := .bound .m1 3, record := dwell5 } } : State).slots[(7 : SlotId)].state =
        .bound q1.master 3 ∧
      (let s := written { dwell5 with next := some 7 } held
       s.slots[(7 : SlotId)].state = .written q1.master ∧ invalidForm 4 s.slots[(7 : SlotId)].record s = false ∧
         s.slots[(7 : SlotId)].record.next = some 7) :=
  ⟨inTime rfl rfl, by decide, by decide, by decide, by decide, by decide +kernel, by decide +kernel, by decide +kernel,
    by decide +kernel, by decide +kernel, rfl, by decide +kernel, by decide +kernel, by decide +kernel,
    by decide +kernel⟩

/-- A RESUME with an action above 1, and start slots on an actuator of no group, and with a START on a valve. -/
theorem witness_GroupRequestsRefused_forms :
    q1.tag = join2 0x01 0x07 ∧ 2 ≤ (2 : Byte).toNat ∧
      (let s := written (movesTwo (.start 2) 0) held
       s.slots[(7 : SlotId)].state = .written q1.master ∧ s.slots[(7 : SlotId)].record.op.actuator = some 2 ∧
         s.actuators[(2 : ActId)].cfg.kind = .none ∧ invalidForm 0 s.slots[(7 : SlotId)].record s = true) ∧
      (let s := written (movesTwo (.start 2) 0) (withActuator 2 valve held)
       s.actuators[(2 : ActId)].cfg.kind = .valve ∧ s.slots[(7 : SlotId)].record.op = .start 2) ∧
      (withActuator 2 pump held).actuators[(2 : ActId)].cfg.group ≠ some 1 := by decide +kernel

theorem witness_RequestsRefusedByRange :
    Listening q1.master held ∧ (port q1.master held).silenceTimer ≠ some 0 ∧ (0 : Byte).toNat = 0 ∧ 64 ≤ (64 : Byte).toNat ∧
      State.reset.govHolder ≠ some q1.master ∧ held.govHolder = some q1.master ∧ q1.tag = join2 0x01 0x07 ∧
      2 ≤ (2 : Byte).toNat ∧ 8 ≤ (8 : Byte).toNat ∧ 247 < (248 : Byte).toNat ∧ 10000 < (10001 : Half).toNat ∧
      60 < (61 : Byte).toNat ∧ (1199 : Half).toNat < 1200 ∧ 38400 < (38401 : Half).toNat ∧ 24 ≤ (24 : Byte).toNat ∧
      16 ≤ (16 : Byte).toNat ∧ 3 ≤ (3 : Byte).toNat ∧ (2 : Byte) ≠ 1 ∧ (2 : Byte) ≠ 4 ∧ (2 : Byte) ≠ 16 ∧
      160 < (161 : Byte).toNat :=
  ⟨rfl, by decide +kernel, by decide⟩

/-- The shared hypotheses with each wait and on-fail. -/
def expiring (d : Descriptor) (w : Waiting) : Bool :=
  let s := chained d (waitingOn w) held
  s.executors[(0 : GroupId)].state == .active && s.executors[(0 : GroupId)].timer == some 0 &&
    s.executors[(0 : GroupId)].current == some 7 && s.executors[(0 : GroupId)].waiting == some w &&
    s.slots[(7 : SlotId)].record == d && s.groupHolders[(0 : GroupId)] == some .m1

theorem witness_StepTimerExpiries :
    expiring dwell5 .timer = true ∧ expiring (movesTwo (.awaitInput 0 true 1) 0) .input = true ∧
      expiring (movesTwo (.awaitMeas 0 .above 3600) 0) .measurement = true ∧
      expiring { movesTwo (.awaitInput 0 true 1) 0 with onFail := .abort } .input = true ∧
      expiring { movesTwo (.awaitInput 0 true 1) 0 with onFail := .continue } .input = true := by decide +kernel

/-- The state with a DWELL in slot 9. -/
def withDwell (v : Half) (s : State) : State :=
  { s with slots := put s.slots 9 { state := .bound .m1 0, record := { dwell5 with operand := .imm v } } }

/-- A next slot after a DWELL and after CONTINUE, and an alt slot, with durations below, at and above the range. -/
theorem witness_StepTimerExpiries_next :
    (let s := withDwell 0 (chained { dwell5 with next := some 9 } (waitingOn .timer) held)
     s.executors[(0 : GroupId)].waiting = some .timer ∧ s.executors[(0 : GroupId)].timer = some 0 ∧
       s.slots[(7 : SlotId)].record.next = some 9 ∧ DwellAt 9 0 s) ∧
    (let s := withDwell 3600
       (chained { movesTwo (.awaitInput 0 true 1) 0 with onFail := .continue, next := some 9 } (waitingOn .input) held)
     s.executors[(0 : GroupId)].waiting = some .input ∧ s.slots[(7 : SlotId)].record.onFail = .continue ∧
       s.slots[(7 : SlotId)].record.next = some 9 ∧ DwellAt 9 3600 s) ∧
    (let s := withDwell 3601
       (chained { movesTwo (.awaitMeas 0 .above 1) 0 with onFail := .branch (some 9) } (waitingOn .measurement) held)
     s.executors[(0 : GroupId)].waiting = some .measurement ∧ s.slots[(7 : SlotId)].record.onFail = .branch (some 9) ∧
       DwellAt 9 3601 s) := by unfold DwellAt; decide +kernel

/-- A halted chain of each kind that the clauses name. -/
def resumable (d : Descriptor) (accepted : Bool) : Bool :=
  let s := chained d (haltedAt accepted) held
  s.groupHolders[(0 : GroupId)] == some .m1 && s.executors[(0 : GroupId)].state == .halted &&
    s.executors[(0 : GroupId)].current == some 7 && s.slots[(7 : SlotId)].record == d &&
    s.executors[(0 : GroupId)].currentAccepted == some accepted &&
    s.executors[(0 : GroupId)].retained == some { first := 5, second := none, row := none }

theorem witness_ResumeOfHaltedChain :
    ListeningInTime q1.master (chained dwell5 (haltedAt false) held) ∧ index? 5 0 = some 0 ∧ resumable dwell5 false = true ∧
      resumable (movesTwo (.awaitMeas 15 .below 1) 5) true = true ∧
      (let s := chained (movesTwo (.start 2) 0) (haltedAt false) (withActuator 2 { pump with state := .stopped } held)
       resumable (movesTwo (.start 2) 0) false = true ∧ memberOf 0 s.actuators[(2 : ActId)] = true ∧
         s.actuators[(2 : ActId)].state = .stopped ∧ permits pump s = true ∧ s.inputs[(5 : InputId)].filtered = false) ∧
      (let s := chained (movesTwo (.move 2 0 true) 2000) (haltedAt false) (withActuator 2 running held)
       resumable (movesTwo (.move 2 0 true) 2000) false = true ∧ memberOf 0 s.actuators[(2 : ActId)] = true ∧
         s.actuators[(2 : ActId)].state = .running ∧ running.cfg.min = 2000 ∧ running.command = 3000) :=
  ⟨inTime rfl rfl, by decide, by decide +kernel, by decide +kernel, by decide +kernel, by decide +kernel⟩

theorem witness_ResumeOfHaltedChain_next :
    (let s := withDwell 5 (chained { dwell5 with next := some 9 } (haltedAt true) held)
     resumable { dwell5 with next := some 9 } true = true ∧ ListeningInTime q1.master s ∧
       s.slots[(7 : SlotId)].record.next = some 9 ∧ DwellAt 9 5 s) :=
  ⟨by decide +kernel, inTime rfl rfl, by decide +kernel, by unfold DwellAt; decide +kernel⟩

/-- What the clauses about a waiting step share, decided: the chain in G0 waits so on this record. -/
def waitsOn (d : Descriptor) (w : Waiting) (s : State) : Bool :=
  s.executors[(0 : GroupId)].state == .active && s.executors[(0 : GroupId)].current == some 7 &&
    s.executors[(0 : GroupId)].waiting == some w && s.slots[(7 : SlotId)].record == d &&
    s.executors[(0 : GroupId)].retained.isSome && s.groupHolders[(0 : GroupId)] == some .m1

/-- A chain that waits so, with the retained value of its step. -/
def retaining (w : Waiting) (v : Half) : Executor :=
  { waitingOn w with timer := none, retained := some { first := v, second := none, row := none } }

/-- A valve with feedback on CC3, one expiry of its ramp before its landing at 2990. -/
def landing (v : Feedback) : Actuator :=
  { tracked v with
    state := .moving, command := 2989, ramp := some { target := 2990, rateStep := 639, origin := .move } }

theorem witness_WaitingStepsTakeReports_move :
    (let d := movesTwo (.move 2 0 true) 2990
     let near : Feedback := { value := 2940, status := .ok }
     let far : Feedback := { value := 2939, status := .ok }
     let s := fun w (a : Actuator) => chained d (retaining w 2990) (withActuator 2 a held)
     d.next = none ∧ waitsOn d .landing (s .landing (landing near)) = true ∧ (landing near).cfg.group = some 0 ∧
       distance 2990 (landing near).command ≤ ((landing near).accumulator + 639) / 64 ∧
       ({ landing near with cfg := valve.cfg } : Actuator).cfg.feedback = none ∧
       (landing near).cfg.feedback = some { channel := 3, tolerance := 50, time := 2 } ∧
       50 < distance far.value (clampTarget (landing far) 2990) ∧ far.status ≠ .noSignal ∧
       distance near.value (clampTarget (landing near) 2990) ≤ 50) ∧
    (let d := movesTwo (.move 2 0 true) 2990
     let a : Actuator := { tracked { value := 0, status := .ok } with state := .holding, command := 2990 }
     let y : Capture :=
       { Capture.powerOn with mode := .frequency, prescale := 4, phase := .counting 3 16777215, gain := 8192 }
     let s := { chained d (retaining .feedback 2990) (withActuator 2 a held) with captures := put held.captures 3 y }
     waitsOn d .feedback s = true ∧ reportTakers 3 true s = [.actuator 2] ∧
       s.captures[(3 : CaptureId)].sample = false ∧ s.captures[(3 : CaptureId)].edge ≠ some 7 ∧
       2 * 4 ≤ ((7 : Stamp).toNat + 16777216 - (16777215 : Stamp).toNat) % 16777216) := by decide +kernel

theorem witness_WaitingStepsTakeReports_inputs :
    (let d := movesTwo (.start 2) 0
     let s := chained d (retaining .runProof 0) (withActuator 2 { pump with state := .starting } held)
     waitsOn d .runProof s = true ∧ s.inputs[(5 : InputId)].filtered = false ∧ inputUses 5 true s = [.proof 2] ∧
       s.actuators[(2 : ActId)].state = .starting) ∧
    (let d := movesTwo (.stop 2) 0
     let s := chained d (retaining .stopProof 0)
       (withActuator 2 { pump with state := .stopping .dropWait }
         { held with inputs := put held.inputs 5 (InputFilter.powerOn true) })
     waitsOn d .stopProof s = true ∧ s.inputs[(5 : InputId)].filtered = true ∧ inputUses 5 false s = [.proof 2] ∧
       s.actuators[(2 : ActId)].state = .stopping .dropWait) ∧
    (let d := movesTwo (.awaitInput 23 true 1) 0
     let s := chained d (retaining .input 0) held
     waitsOn d .input s = true ∧ s.inputs[(23 : InputId)].filtered = !true ∧ inputUses 23 true s = [.wait 0]) ∧
    (let d := movesTwo (.awaitMeas 3 .above 1) 0
     let y : Capture := { Capture.powerOn with mode := .frequency, prescale := 4, phase := .counting 3 16777215 }
     let s := { chained d (retaining .measurement 0) held with captures := put held.captures 3 y }
     waitsOn d .measurement s = true ∧ reportTakers 3 true s = [.executor 0] ∧
       s.captures[(3 : CaptureId)].sample = false) := by decide +kernel

theorem witness_WaitingStepsTakeReports_faults :
    (let s := fun d w (a : Actuator) => chained d (retaining w 2990) (withActuator 2 a held)
     let start := movesTwo (.start 2) 0
     let stop := movesTwo (.stop 2) 0
     let move := movesTwo (.move 2 0 true) 2990
     waitsOn start .runProof (s start .runProof { pump with state := .starting, proofTimer := some 0 }) = true ∧
       waitsOn stop .stopProof (s stop .stopProof { pump with state := .stopping .dropWait, proofTimer := some 0 }) = true ∧
       waitsOn move .landing (s move .landing { running with deviationTimer := some 0 }) = true ∧
       healthy { running with deviationTimer := some 0 } = true ∧ running.cfg.tripScope = .self ∧
       running.cfg.group = some 0 ∧ start.onFail = .halt ∧ stop.onFail = .halt ∧ move.onFail = .halt) := by
  decide +kernel

/-- A waiting step with a DWELL next, and one whose failure goes on to a DWELL or ends the chain. -/
theorem witness_WaitingStepsTakeReports_next :
    (let d : Descriptor := { movesTwo (.start 2) 0 with next := some 9 }
     let s := fun f =>
       withDwell 5 (chained { d with onFail := f } (retaining .runProof 0)
         (withActuator 2 { pump with state := .starting, proofTimer := some 0 } held))
     (s .halt).slots[(7 : SlotId)].record.next = some 9 ∧ DwellAt 9 5 (s .halt) ∧
       waitsOn d .runProof (s .halt) = true ∧ inputUses 5 true (s .halt) = [.proof 2] ∧
       (s .halt).actuators[(2 : ActId)].proofTimer = some 0 ∧ pump.cfg.tripScope = .self ∧
       (s .continue).slots[(7 : SlotId)].record.onFail = .continue ∧
       (s (.branch (some 9))).slots[(7 : SlotId)].record.onFail = .branch (some 9) ∧
       (s .abort).slots[(7 : SlotId)].record.onFail = .abort) := by
  unfold DwellAt; decide +kernel

/-! ### Actuators -/

/-- The record of a pump at OC2, as sent. -/
def rawPump : RawActuator :=
  { number := 2, kind := 1, group := 0, min := 2000, max := 9000, maxRate := 500, defaultRate := 200, period := 4095
    polarity := 1, proofInput := 5, proofTimeout := 10, safeAction := 0, safeValue := 0xFFFF, tripScope := 0
    permissiveInput := 255, permissiveSense := 7, feedbackChannel := 255, tolerance := 0xFFFF, deviationTime := 0 }

/-- R3, R4: a pump's record is taken with its proof input, and the fields that no permissive and no feedback need are not
judged. -/
theorem witness_ConfigureActuatorAccepted :
    ListeningInTime q1.master held ∧ index? 16 rawPump.number = some 2 ∧ held.actuators[(2 : ActId)].cfg.group = none ∧
      (index? 5 rawPump.group = some 0 ∧ held.groupHolders[(0 : GroupId)] = some q1.master) ∧
      held.actuators[(2 : ActId)].state = .outOfService ∧ newGroup rawPump = some 0 ∧
      (∀ g : GroupId, held.executors[g].state = .idle) ∧
      (actWrite? rawPump = some { cfg := pump.cfg, period := 4095, polarity := .activeLow }) ∧
      (actWrite? { rawPump with kind := 0 }).isSome = true :=
  ⟨inTime rfl rfl, by decide, by decide +kernel, by decide +kernel, by decide +kernel, by decide, by decide +kernel,
    by decide +kernel, by decide⟩

theorem witness_RecordsReadBackAsStored :
    (∃ d, descriptor? slot21 = some d ∧ rawDescriptorBytes slot21 = descriptorBytes d) ∧
      (∃ r' w, actWrite? rawPump = some w ∧
        rawActuatorBytes r' = configBytes 2 w.cfg { OutputChannel.powerOn with
          pendingPeriod := some w.period, polarity := w.polarity }) :=
  ⟨⟨_, test_slot21, by decide +kernel⟩, ⟨{ rawPump with permissiveSense := 255 },
    { cfg := pump.cfg, period := 4095, polarity := .activeLow }, by decide +kernel, by decide +kernel⟩⟩

theorem witness_ServiceEntryExitAndClearFault_entry :
    (let s := withActuator 2 pump held
     ListeningInTime q1.master s ∧ index? 16 2 = some 2 ∧ s.actuators[(2 : ActId)] = pump ∧ pump.cfg.group = some 0 ∧
       s.groupHolders[(0 : GroupId)] = some q1.master ∧ s.ptrip.asserted = false ∧ pump.state = .outOfService ∧
       pump.cfg.feedback = none ∧ pump.cfg.proofInput = some 5 ∧ s.inputs[(5 : InputId)].filtered = false) ∧
    (let a := tracked { value := 0, status := .ok }
     a.cfg.feedback = some { channel := 3, tolerance := 50, time := 2 } ∧
       a.feedback = some { value := 0, status := .ok } ∧ (withActuator 2 a held).actuators[(2 : ActId)] = a ∧
       a.state = .outOfService ∧ a.cfg.group = some 0) ∧
    ((withActuator 2 valve held).actuators[(2 : ActId)] = valve ∧ valve.cfg.feedback = none ∧
      valve.state = .outOfService ∧ valve.cfg.group = some 0) :=
  ⟨⟨inTime rfl rfl, by decide +kernel⟩, by decide +kernel, by decide +kernel⟩

/-- A FAULTED pump and a FAULTED valve, with a holder and without. -/
theorem witness_ServiceEntryExitAndClearFault_exit :
    (let s := withActuator 2 { pump with state := .faulted } held
     ListeningInTime q1.master s ∧ index? 16 2 = some 2 ∧ s.actuators[(2 : ActId)] = { pump with state := .faulted } ∧
       s.groupHolders[(0 : GroupId)] = some q1.master ∧ s.executors[(0 : GroupId)].state = .idle ∧
       s.ptrip.asserted = false ∧ s.inputs[(5 : InputId)].filtered = false) ∧
    (let s := withActuator 2 { valve with state := .faulted, command := 100 } State.reset
     ListeningInTime q1.master s ∧ s.groupHolders[(0 : GroupId)] = none ∧
       s.actuators[(2 : ActId)] = { valve with state := .faulted, command := 100 } ∧ s.ptrip.asserted = false) ∧
    (withActuator 2 { pump with state := .stopped } held).actuators[(2 : ActId)].state = .stopped ∧
    (withActuator 2 { valve with state := .holding, command := 100 } held).actuators[(2 : ActId)].state = .holding :=
  ⟨⟨inTime rfl rfl, by decide +kernel⟩, ⟨inTime rfl rfl, by decide +kernel⟩, by decide +kernel⟩

theorem witness_ActuatorRequestsRefused :
    (let s := withActuator 2 pump held
     ListeningInTime q1.master s ∧ index? 16 2 = some 2 ∧ 16 ≤ (16 : Byte).toNat ∧
       held.actuators[(2 : ActId)].cfg.kind = .none ∧ held.actuators[(2 : ActId)].cfg.group = none ∧
       s.actuators[(2 : ActId)].cfg.group = some 0 ∧
       s.actuators[(2 : ActId)].cfg.kind ≠ .none ∧ s.groupHolders[(0 : GroupId)] ≠ some q2.master ∧
       s.groupHolders[(0 : GroupId)] = some q2.master.other ∧ s.groupHolders[(0 : GroupId)] = some q1.master ∧
       (tripped s).ptrip.asserted = true ∧ s.ptrip.asserted = false ∧ s.actuators[(2 : ActId)].state ≠ .faulted ∧
       (changeInput 5 true s).inputs[(5 : InputId)].filtered = true ∧ rawPump.number = 2) ∧
    (withActuator 2 { pump with state := .faulted } held).actuators[(2 : ActId)].state = .faulted ∧
    (withActuator 2 running held).actuators[(2 : ActId)].state ≠ .outOfService ∧
    (chained dwell5 (waitingOn .timer) held).executors[(0 : GroupId)].state ≠ .idle :=
  ⟨⟨inTime rfl rfl, by decide +kernel⟩, by decide +kernel⟩

/-- An entry of kind NONE, and one of group 0, whose record names a group that the requester does not hold, or no group at all;
a joined group that runs a chain; and a record out of range. -/
theorem witness_ActuatorRequestsRefused_none :
    (let s : State := { held with groupHolders := put held.groupHolders 3 (some .m2) }
     ListeningInTime q1.master s ∧ s.actuators[(2 : ActId)].cfg.kind = .none ∧ s.actuators[(2 : ActId)].cfg.group = none ∧
       ({ rawPump with group := 3 } : RawActuator).kind ≠ 0 ∧ index? 5 3 = some 3 ∧ index? 5 5 = none ∧
       s.groupHolders[(3 : GroupId)] ≠ some q1.master ∧ s.groupHolders[(0 : GroupId)] = some q1.master ∧
       (withActuator 2 pump s).actuators[(2 : ActId)].cfg.group = some 0) ∧
    (let s := chained dwell5 (waitingOn .timer) held
     s.actuators[(2 : ActId)].state = .outOfService ∧ newGroup rawPump = some 0 ∧
       s.executors[(0 : GroupId)].state ≠ .idle ∧ held.executors[(0 : GroupId)].state = .idle ∧
       actWrite? { rawPump with kind := 3 } = none) :=
  ⟨⟨inTime rfl rfl, by decide +kernel⟩, by decide +kernel⟩

/-- A pump that runs cannot leave service; feedback that is not OK; and a configuration in another state, under a chain and
out of range. -/
theorem witness_ActuatorRequestsRefused_more :
    (withActuator 2 running held).executors[(0 : GroupId)].state = .idle ∧ running.cfg.kind = .pump ∧
      running.state ≠ .stopped ∧ running.state ≠ .faulted ∧
      (let a := tracked { value := 0, status := .noSignal }
       a.state = .outOfService ∧ a.cfg.feedback ≠ none ∧ ∀ f, a.feedback = some f → f.status ≠ .ok) ∧
      (let s := chained dwell5 (waitingOn .timer) (withActuator 2 pump held)
       s.actuators[(2 : ActId)].state = .outOfService ∧ newGroup { rawPump with group := 1 } = some 1 ∧
         index? 5 1 = some 1 ∧ s.groupHolders[(1 : GroupId)] = some q1.master ∧
         s.executors[(0 : GroupId)].state ≠ .idle) ∧
      (newGroup { rawPump with period := 99 } = some 0 ∧ actWrite? { rawPump with period := 99 } = none) := by
  refine ⟨by decide +kernel, by decide, by decide, by decide, ⟨rfl, by decide, fun f h => ?_⟩, by decide +kernel,
    by decide +kernel⟩
  cases h; decide

/-- No executor runs, so that none can take a report. -/
theorem unattended_held {n : ActId} {a : Actuator} : Unattended n (withActuator 2 a held) := fun g _ => by
  simp [withActuator, held, State.reset, Executor.powerOn]

/-- No ramp; a ramp 10 units from its target with 9 units an expiry; and one with 10. -/
theorem witness_SlewExpiryAndPeriodEnd :
    running.ramp = none ∧ ramping.ramp = some { target := 2990, rateStep := 639, origin := .move } ∧
      (ramping.accumulator + 639) / 64 < ramping.command - 2990 ∧
      ramping.command - 2990 ≤ (({ ramping with accumulator := 1 } : Actuator).accumulator + 639) / 64 ∧
      Unattended 2 (withActuator 2 { ramping with accumulator := 1 } held) ∧
      (let o := { OutputChannel.powerOn with condition := .driven, activeDuty := 1 }
       o.condition = .driven ∧ o.held = false ∧ o.position < o.activeDuty ∧
         OutputChannel.powerOn.condition = .released ∧ ({ o with held := true } : OutputChannel).held = true ∧
         o.activeDuty ≤ ({ o with position := 1 } : OutputChannel).position) :=
  ⟨rfl, rfl, by decide, by decide, unattended_held, by decide⟩

/-- One expiry of 639 from accumulator 0 stops short of a target 10 units away, and the second lands. -/
theorem witness_RampArithmetic :
    ramping.accumulator = 0 ∧ ramping.command ≠ 2990 ∧ 1 * 639 < 64 * distance 2990 ramping.command ∧
      64 * distance 2990 ramping.command ≤ (1 + 1) * 639 ∧ (0 + 1) * 639 < 64 * distance 2990 ramping.command ∧
      ConfigOk ramping.cfg ∧ SlewOk ramping := by
  refine ⟨by decide, by decide, by decide, by decide, by decide, by unfold ConfigOk; decide, ?_⟩
  simp [SlewOk, ramping, running, pump, Actuator.powerOn, ActConfig.powerOn, rateStepOf]

/-- A healthy pump, and PTRIP in each state. -/
theorem witness_PlantTrip :
    (withActuator 2 running held).ptrip.asserted = false ∧ ActuatorsOk (withActuator 2 running held) ∧
      healthy running = true ∧ State.reset.ptrip.raw ≠ false ∧ (tripped held).ptrip.asserted = true :=
  ⟨rfl, actuatorsOk_with (actuatorsOk_empty rfl) runningOk, rfl, by decide, rfl⟩

theorem witness_SupervisionExpiriesFault :
    (∀ a : Actuator, Unattended 2 (withActuator 2 a held)) ∧ pump.cfg.tripScope = .self ∧ pump.cfg.kind ≠ .none ∧
      (withActuator 2 { pump with state := .starting, proofTimer := some 0 } held).actuators[(2 : ActId)] =
        { pump with state := .starting, proofTimer := some 0 } ∧
      StateFits { pump with state := .starting, proofTimer := some 0 } ∧
      StateFits { pump with state := .stopping .dropWait, proofTimer := some 0 } ∧
      healthy { running with deviationTimer := some 0, lostTimer := some 0 } = true ∧
      StateFits { running with deviationTimer := some 0, lostTimer := some 0 } :=
  ⟨fun _ => unattended_held, rfl, by decide, by decide +kernel, by simp [StateFits, pump, Actuator.powerOn],
    by simp [StateFits, pump, Actuator.powerOn], rfl, by simp [StateFits, running, pump, Actuator.powerOn]⟩

/-- A running pump of trip scope GROUP with its deviation timer running. -/
def deviating : Actuator := { running with cfg := { running.cfg with tripScope := .group }, deviationTimer := some 0 }

theorem deviatingOk : ActuatorOk deviating := by
  simp [ActuatorOk, ConfigOk, StateFits, CommandOk, SlewOk, deviating, running, pump, Actuator.powerOn, ActConfig.powerOn]

theorem faultedPumpOk : ActuatorOk { pump with state := .faulted } := by
  simp [ActuatorOk, ConfigOk, StateFits, CommandOk, SlewOk, pump, Actuator.powerOn, ActConfig.powerOn]

/-- One deviating pump, one healthy pump and one FAULTED pump in a group, and empty entries outside it. -/
def groupPlant : State :=
  withActuator 2 deviating (withActuator 4 running (withActuator 6 { pump with state := .faulted } held))

theorem witness_SupervisionExpiriesFault_group :
    ActuatorsOk groupPlant ∧ memberOf 0 groupPlant.actuators[(2 : ActId)] = true ∧
      groupPlant.actuators[(2 : ActId)].cfg.tripScope = .group ∧ healthy groupPlant.actuators[(2 : ActId)] = true ∧
      groupPlant.actuators[(2 : ActId)].deviationTimer = some 0 ∧
      healthy groupPlant.actuators[(4 : ActId)] = true ∧ memberOf 0 groupPlant.actuators[(4 : ActId)] = true ∧
      groupPlant.actuators[(6 : ActId)].state = .faulted ∧ memberOf 0 groupPlant.actuators[(6 : ActId)] = true ∧
      memberOf 0 groupPlant.actuators[(0 : ActId)] = false :=
  ⟨actuatorsOk_with (actuatorsOk_with (actuatorsOk_with (actuatorsOk_empty rfl) faultedPumpOk) runningOk) deviatingOk,
    by decide +kernel⟩

/-- DI5 proves the pump alone, in each state; DI0 serves nothing. -/
theorem witness_ProofInputChanges :
    (let s := withActuator 2 { pump with state := .starting } held
     s.inputs[(5 : InputId)].filtered = !true ∧ inputUses 5 true s = [.proof 2] ∧
       s.actuators[(2 : ActId)].cfg.tripScope = .self ∧ s.actuators[(2 : ActId)].cfg.kind = .pump ∧
       s.actuators[(2 : ActId)].state = .starting) ∧
    (let s := withActuator 2 running { held with inputs := put held.inputs 5 (InputFilter.powerOn true) }
     s.inputs[(5 : InputId)].filtered = !false ∧ inputUses 5 false s = [.proof 2] ∧
       s.actuators[(2 : ActId)].state = .running) ∧
    (let s := withActuator 2 { pump with state := .stopping .dropWait }
        { held with inputs := put held.inputs 5 (InputFilter.powerOn true) }
     s.inputs[(5 : InputId)].filtered = !false ∧ inputUses 5 false s = [.proof 2] ∧
       s.actuators[(2 : ActId)].state = .stopping .dropWait) ∧
    (let s := withActuator 2 { barred running with cfg := { (barred running).cfg with proofInput := none } }
        { held with inputs := put held.inputs 6 (InputFilter.powerOn true) }
     s.inputs[(6 : InputId)].filtered = !false ∧ inputUses 6 false s = [.permissive 2] ∧ s.actuators[(2 : ActId)].state = .running) ∧
    (let s := withActuator 2 (barred { valve with state := .moving })
        { held with inputs := put held.inputs 6 (InputFilter.powerOn true) }
     inputUses 6 false s = [.permissive 2] ∧ s.actuators[(2 : ActId)].state = .moving ∧
       s.actuators[(2 : ActId)].cfg.permissive = some { input := 6, sense := true } ∧ s.actuators[(2 : ActId)].cfg.kind = .valve) ∧
    inputUses 5 true (withActuator 2 { pump with state := .stopped } held) = [.proof 2] ∧
    (∀ a : Actuator, Unattended 2 (withActuator 2 a held)) ∧ Unused 0 held ∧
    held.inputs[(0 : InputId)].filtered = !true :=
  ⟨by decide +kernel, by decide +kernel, by decide +kernel, by decide +kernel, by decide +kernel, by decide +kernel,
    fun _ => unattended_held, by unfold Unused; decide +kernel, by decide +kernel⟩

/-- A change away from the filtered level, one back to it, one with debounce 0, and SET DEBOUNCE on no difference and on one
that has lasted 10 ms. -/
theorem witness_InputFilterDebounces :
    Unused 23 held ∧ held.inputs[(23 : InputId)].raw ≠ true ∧ 0 < held.inputs[(23 : InputId)].debounce ∧
      (let x : InputFilter := { debounce := 0, filtered := false, raw := false, age := 0 }
       x.raw ≠ true ∧ true ≠ x.filtered ∧ x.debounce = 0) ∧
      Unused 23 { held with inputs := put held.inputs 23 { debounce := 0, filtered := false, raw := false, age := 0 } } ∧
      Listening q1.master held ∧ index? 24 23 = some 23 ∧
      held.inputs[(23 : InputId)].raw = held.inputs[(23 : InputId)].filtered ∧
      (let x : InputFilter := { debounce := 5, filtered := false, raw := true, age := 10000 }
       x.raw ≠ x.filtered ∧ (1 : Byte).toNat * 10000 ≤ x.age ∧ x.age < (2 : Byte).toNat * 10000) ∧
      Unused 23 { held with inputs := put held.inputs 23 { debounce := 5, filtered := false, raw := true, age := 10000 } } :=
  ⟨by unfold Unused; decide +kernel, by decide +kernel, by decide +kernel, by decide, by unfold Unused; decide +kernel,
    rfl, by decide, by decide +kernel, by decide, by unfold Unused; decide +kernel⟩

/-! ### Capture channels -/

/-- The record of section 8.3.1, as sent: FREQUENCY, N = 4, gain 8192. -/
def rawCapture : RawCapture :=
  { channel := 3, mode := 1, prescale := 4, timeout := 20, gain := 8192, offset := 0 }

theorem witness_ConfigureCaptureAccepted :
    Listening q1.master held ∧ index? 16 rawCapture.channel = some 3 ∧
      captureWrite? rawCapture = some { mode := .frequency, prescale := 4, timeout := 20, gain := 8192, offset := 0 } ∧
      (let a := { tracked { value := 0, status := .ok } with state := .holding }
       (withActuator 2 a held).actuators[(2 : ActId)].state ≠ .outOfService ∧
         (withActuator 2 a held).actuators[(2 : ActId)].cfg.feedback.map FeedbackConfig.channel = some 3) ∧
      ∀ n : ActId, held.actuators[n].cfg.feedback.map FeedbackConfig.channel ≠ some 3 :=
  ⟨rfl, by decide, by decide +kernel, by decide +kernel, by decide +kernel⟩

/-- A channel in a mode and phase. -/
def channelIn (mode : CaptureMode) (prescale : Nat) (phase : CapturePhase) : Capture :=
  { Capture.powerOn with mode := mode, prescale := prescale, phase := phase }

/-- The state with channel 3 so. -/
def capturing (x : Capture) : State := { held with captures := put held.captures 3 x }

/-- The shortest span of four periods, and the shortest duty, across the counter's wrap; and edges of each kind. -/
theorem witness_CompletedMeasurements :
    Unheard 3 (capturing (channelIn .frequency 4 (.counting 3 16777215))) ∧
      (channelIn .frequency 4 (.counting 3 16777215)).prescale = 3 + 1 ∧
      2 * 4 ≤ ((7 : Stamp).toNat + 16777216 - (16777215 : Stamp).toNat) % 16777216 ∧
      Unheard 3 (capturing (channelIn .duty 1 (.low 16777215 1))) ∧ 0 < 1 ∧
      1 < ((1 : Stamp).toNat + 16777216 - (16777215 : Stamp).toNat) % 16777216 :=
  ⟨by unfold Unheard; decide +kernel, rfl, by decide, by unfold Unheard; decide +kernel, by decide, by decide⟩

/-- The ending edge at the very count of the overflow, in each mode. -/
theorem witness_CompletedMeasurements_overflow :
    (let x := { channelIn .frequency 4 (.counting 3 9) with age := 16777216 }
     Unheard 3 (capturing x) ∧ x.edge ≠ some 9 ∧ x.sample = false ∧ x.prescale = 3 + 1 ∧ 16777216 ≤ x.age ∧
       ((9 : Stamp).toNat + 16777216 - (9 : Stamp).toNat) % 16777216 < 2 * 4) ∧
    (let x := { channelIn .duty 1 (.low 9 4) with age := 16777216 }
     Unheard 3 (capturing x) ∧ x.edge ≠ some 9 ∧ x.sample = false ∧ 16777216 ≤ x.age ∧
       ((9 : Stamp).toNat + 16777216 - (9 : Stamp).toNat) % 16777216 ≤ 4) :=
  ⟨⟨by unfold Unheard; decide +kernel, by decide⟩, by unfold Unheard; decide +kernel, by decide⟩

theorem witness_CompletedMeasurements_edges :
    (channelIn .frequency 4 .waitEdge).edge ≠ some 10 ∧ (channelIn .frequency 4 .waitEdge).sample = false ∧
      ({ channelIn .duty 1 (.high 9) with sample := true } : Capture).sample = true ∧ (9 : Stamp) ≠ 10 ∧
      2 + 1 < (channelIn .frequency 4 (.counting 2 9)).prescale ∧
      (channelIn .frequency 4 .waitEdge).mode = .frequency ∧ (channelIn .duty 1 .waitEdge).mode = .duty ∧
      Capture.powerOn.mode = .off ∧ ({ channelIn .duty 1 (.high 9) with edge := some 10 } : Capture).edge = some 10 := by
  decide

theorem witness_CaptureTimeouts :
    (let x := { channelIn .frequency 4 (.counting 2 9) with timer := some 0, age := 16777216, status := .ok }
     (∀ n : ActId, (capturing x).actuators[n].cfg.feedback.map FeedbackConfig.channel ≠ some 3) ∧
       x.timer = some 0 ∧ x.phase ≠ .waitEdge ∧ 16777216 ≤ x.age) ∧
    (Capture.powerOn.timer ≠ some 0 ∧ Capture.powerOn.phase = .waitEdge ∧
      ({ channelIn .frequency 4 (.counting 2 9) with age := 16777215 } : Capture).age < 16777216) ∧
    (let x := { channelIn .frequency 4 (.counting 2 9) with timer := some 0, status := .ok }
     let a := { tracked { value := 0, status := .ok } with state := .holding, command := 100 }
     let s := withActuator 2 a (capturing x)
     s.captures[(3 : CaptureId)].timer = some 0 ∧ s.captures[(3 : CaptureId)].status ≠ .noSignal ∧
       reportTakers 3 false s = [.actuator 2] ∧
       s.actuators[(2 : ActId)].cfg.feedback = some { channel := 3, tolerance := 50, time := 2 } ∧
       s.actuators[(2 : ActId)].lostTimer = none ∧
       s.actuators[(2 : ActId)].feedback = some { value := 0, status := .ok } ∧
       (∀ g : GroupId, s.executors[g].state = .idle)) :=
  ⟨by decide +kernel, by decide, by decide +kernel⟩

/-- A measurement that completes at the valve's one channel, with the feedback that it brings and without a change of it. -/
theorem witness_CaptureTimeouts_completed :
    (let x := channelIn .frequency 4 (.counting 3 16777215)
     let a := { tracked { value := 0, status := .ok } with state := .holding, command := 100 }
     let s := withActuator 2 a (capturing x)
     reportTakers 3 true s = [.actuator 2] ∧ (∀ g : GroupId, s.executors[g].state = .idle) ∧ x.sample = false ∧
       x.edge ≠ some 7 ∧ x.prescale = 3 + 1 ∧
       2 * 4 ≤ ((7 : Stamp).toNat + 16777216 - (16777215 : Stamp).toNat) % 16777216 ∧
       a.feedback ≠ some { value := 10000, status := .ok }) := by decide +kernel

/-! ### The governor -/

/-- Settings at both ends of their ranges. -/
def rawSettings : RawGovernor :=
  { kp := 255, ki := 0, dmin := 0, dmax := 10000, dstep := 2000, holdTime := 1, fallback := 10000 }

theorem witness_GovernorSettingsReplaced :
    ListeningInTime q1.master held ∧ State.reset.govHolder ≠ some q1.master ∧ held.govHolder = some q1.master ∧
      (rawSettings.dmin.toNat ≤ rawSettings.dmax.toNat ∧ rawSettings.dmax.toNat ≤ 10000 ∧
        1 ≤ rawSettings.dstep.toNat ∧ rawSettings.dstep.toNat ≤ 2000 ∧ 1 ≤ rawSettings.holdTime.toNat ∧
        rawSettings.holdTime.toNat ≤ 600 ∧ rawSettings.fallback.toNat ≤ 10000) ∧
      ¬ (({ rawSettings with dstep := 2001 } : RawGovernor).dstep.toNat ≤ 2000) :=
  ⟨inTime rfl rfl, by decide +kernel⟩

theorem witness_GovernorModeChanges :
    ListeningInTime q1.master held ∧ held.govHolder = some q1.master ∧ held.governor.mode = .off ∧
      (let s : State := { held with governor := { Governor.powerOn with mode := .hold, holdTimer := some 0 } }
       ListeningInTime q1.master s ∧ s.govHolder = some q1.master ∧ s.governor.mode ≠ .off ∧
         s.governor.holdTimer = some 0 ∧ s.governor.mode = .hold) :=
  ⟨inTime rfl rfl, rfl, rfl, inTime rfl rfl, rfl, by decide, rfl, rfl⟩

/-- The stations of section 6.2.1 are of this kind: two entries FRESH with readings. -/
def regulatingState : State :=
  { held with governor := regulating, stations := stationState.stations }

theorem witness_RegulatingEvaluation :
    regulatingState.governor.mode = .regulate ∧ (∀ n : ActId, regulatingState.actuators[n].follow = none) ∧
      ∃ k : StationId, regulatingState.stations[k].enabled = true ∧ regulatingState.stations[k].state = .fresh := by
  decide +kernel

theorem witness_EvaluationWithoutStation :
    (∀ n : ActId, held.actuators[n].follow = none) ∧
      (∀ k : StationId, ¬ (held.stations[k].enabled = true ∧ held.stations[k].state = .fresh)) ∧
      held.governor.mode = .off ∧ ({ Governor.powerOn with mode := .hold } : Governor).mode = .hold ∧
      regulating.mode = .regulate ∧ ({ Governor.powerOn with mode := .fallback } : Governor).mode = .fallback ∧
      (∃ k : StationId, regulatingState.stations[k].enabled = true ∧ regulatingState.stations[k].state = .fresh) := by
  decide +kernel

/-- Section 6.3.3's kind of entry: the clamp does not act for e = −40, and acts for e = 2000 at Kp 255. -/
theorem witness_EvaluationWithoutStation_bumpless :
    (let g : Governor :=
       { regulating with mode := .fallback, integral := 384000, holdTime := 30, fallback := 5000 }
     GovernorOk g ∧ g.mode = .fallback ∧ (g.dmin : Int) ≤ g.demand - (-((g.kp : Int) * (-40))).tdiv 8 ∧
       (g.demand : Int) - (-((g.kp : Int) * (-40))).tdiv 8 ≤ g.dmax) ∧
    (let g : Governor := { regulating with mode := .hold, holdTimer := some 1, kp := 255 }
     GovernorOk g ∧ g.mode = .hold ∧ ¬ ((g.demand : Int) - (-((g.kp : Int) * 2000)).tdiv 8 ≤ g.dmax)) := by
  unfold GovernorOk; decide +kernel

theorem followingOk : ActuatorOk { running with follow := some 639 } := by
  simp [ActuatorOk, ConfigOk, StateFits, CommandOk, SlewOk, running, pump, Actuator.powerOn, ActConfig.powerOn, rateStepOf]

/-- One pump that follows, and empty entries that do not, with and without an eligible station. -/
theorem witness_FollowersRetargeted :
    (let s := fun g t => withActuator 2 { running with follow := some 639 } { held with governor := g, stations := t }
     let held4000 : Governor := { Governor.powerOn with mode := .hold, demand := 4000 }
     (∀ g t, ActuatorsOk (s g t) ∧ ∀ n, Unattended n (s g t)) ∧
       (s held4000 State.reset.stations).governor.mode ≠ .off ∧
       (s regulating stationState.stations).governor.mode = .regulate ∧
       stationState.stations[(1 : StationId)].state = .fresh ∧
       (s held4000 State.reset.stations).actuators[(2 : ActId)].follow = some 639 ∧
       (s held4000 State.reset.stations).actuators[(3 : ActId)].follow = none) ∧
    OutputFollows { running with follow := some 639 }
      (outputFor { running with follow := some 639 } OutputChannel.powerOn) :=
  ⟨⟨fun _ _ => ⟨actuatorsOk_with (actuatorsOk_empty rfl) followingOk,
      fun n g _ => by simp [withActuator, held, State.reset, Executor.powerOn]⟩, by decide +kernel⟩, outputFor_follows _ _⟩

/-! ### Stations -/

/-- An entry's configuration at both ends of its ranges. -/
def rawStation : RawStation := { entry := 7, enabled := 1, address := 17, setpoint := 10000, staleTime := 60 }

/-- The address is another's, it is free, and it is the entry's own. -/
theorem witness_ConfigureStationAccepted :
    (let s : State := { stationState with govHolder := some .m1 }
     ListeningInTime q1.master s ∧ s.govHolder = some q1.master ∧ index? 8 rawStation.entry = some 7 ∧
       flag? rawStation.enabled = some true ∧ 1 ≤ rawStation.address.toNat ∧ (247 : Byte).toNat ≤ 247 ∧
       rawStation.setpoint.toNat ≤ 10000 ∧ 1 ≤ (1 : Byte).toNat ∧ rawStation.staleTime.toNat ≤ 60 ∧
       (∃ j : StationId, j ≠ 7 ∧ s.stations[j].enabled = true ∧ s.stations[j].address = rawStation.address.toNat) ∧
       (¬ ∃ j : StationId, j ≠ 7 ∧ s.stations[j].enabled = true ∧ s.stations[j].address = 247) ∧
       (s.stations[(1 : StationId)].enabled = true ∧ s.stations[(1 : StationId)].address = 17 ∧
         ¬ ∃ j : StationId, j ≠ 1 ∧ s.stations[j].enabled = true ∧ s.stations[j].address = 17) ∧
       ¬ (s.stations[(7 : StationId)].enabled = true)) :=
  ⟨inTime rfl rfl, by decide +kernel⟩

/-- The station table with five bytes of a frame of sequence 42 taken. -/
def fiveTaken : State :=
  { stationState with
    receiver :=
      { stationState.receiver with
        assembler := .body [(17, false), (42, false), (2, false), (0xF8, true), (0, false)] } }

/-- The check passes and fails; the address is held and is not; the sequence is new and is the last. -/
theorem witness_StationFrameTaken :
    fiveTaken.receiver.assembler = .body [(17, false), (42, false), (2, false), (0xF8, true), (0, false)] ∧
      fiveTaken.receiver.sampler = .idle ∧ fiveTaken.receiver.decided = none ∧ crc8 [17, 42, 2, 0xF8, 0] = 0x68 ∧
      (¬ crc8 [17, 42, 2, 0xF8, 0] = 0x67) ∧ StationsOk fiveTaken ∧
      (fiveTaken.stations[(1 : StationId)].enabled = true ∧ fiveTaken.stations[(1 : StationId)].address = (17 : Byte).toNat) ∧
      (∀ k : StationId, ¬ (fiveTaken.stations[k].enabled = true ∧ fiveTaken.stations[k].address = (21 : Byte).toNat)) ∧
      fiveTaken.stations[(1 : StationId)].reading.map Reading.sequence ≠ some (42 : Byte) ∧
      fiveTaken.stations[(1 : StationId)].reading.map Reading.sequence = some (41 : Byte) :=
  ⟨rfl, rfl, rfl, by decide +kernel, by decide +kernel, by unfold StationsOk StationOk; decide +kernel,
    by decide +kernel⟩

/-- The sampler in each of its states, with an event that it has decided and without; bodies of 1 and 4 bytes; counts 0 and
175; a stale timer at 0; and bauds at both ends of the range. -/
theorem witness_StationLineEvents :
    State.reset.receiver.sampler = .markWait ∧ State.reset.receiver.decided = none ∧
      stationState.receiver.sampler = .idle ∧
      (after (.stationStopBitLow 175) stationState).receiver.sampler = .lowWatch ∧
      (let r := sampleStation { stationState.receiver with input := { level := true, ahead := [false] } }
       r.sampler = .character .start ∧ r.decided = none) ∧
      (after .stationBreak stationState).receiver.assembler = .address ∧
      1 ≤ [((17 : Byte), false)].length ∧ [((17 : Byte), false), (42, false), (2, false), (0xF8, true)].length ≤ 4 ∧
      ({ stationState.receiver with decided := some .brk } : StationReceiver).decided = some .brk ∧
      (({ stationState.stations[(1 : StationId)] with staleTimer := some 0 } : Station).staleTimer = some 0 ∧
        stationState.stations[(1 : StationId)].state ≠ .stale ∧
        stationState.stations[(1 : StationId)].staleTimer ≠ some 0) ∧
      ListeningInTime q1.master held ∧ held.govHolder = some q1.master ∧ 1200 ≤ (1200 : Half).toNat ∧
      (38400 : Half).toNat ≤ 38400 ∧ (9600 : Half).toNat = held.receiver.baud ∧
      (38400 : Half).toNat ≠ held.receiver.baud :=
  ⟨rfl, rfl, rfl, by decide +kernel, by decide +kernel, by decide +kernel, by decide, by decide, rfl, by decide +kernel,
    inTime rfl rfl, rfl, by decide⟩

/-- A receiver and a port in the states of the clauses, and a reception of eight samples 7. -/
theorem witness_ReceiversSampleTheirLines :
    stationState.receiver.sampler = .idle ∧ stationState.receiver.lowCount = 0 ∧ stationState.receiver.decided = none ∧
      State.reset.receiver.sampler = .markWait ∧
      (let c : Reception := { samples := 16 * 8 + 6, highs := 0, bits := List.replicate 7 true, noisy := false }
       1 ≤ 8 ∧ 8 < stationStopBit ∧ c.samples = 16 * 8 + 6 ∧ c.highs = 0) ∧
      (let p : Port := { Port.powerOn with receiver := .idle }
       p.receiver = .idle ∧ p.input.level = true ∧ p.phase = .listen ∧
         ({ p with phase := .turnaround } : Port).phase = .turnaround ∧
         ({ p with phase := .responding } : Port).phase = .responding) ∧
      Port.powerOn.receiver = .waitHigh := by decide +kernel

/-! ### Links -/

theorem witness_ReadsAnswerWhatIsHeld :
    Listening q1.master State.reset ∧ index? 128 127 = some 127 ∧ index? 5 4 = some 4 ∧ index? 16 15 = some 15 ∧
      index? 8 7 = some 7 ∧ 128 ≤ (128 : Byte).toNat ∧ 5 ≤ (5 : Byte).toNat ∧ 16 ≤ (16 : Byte).toNat ∧
      8 ≤ (8 : Byte).toNat ∧ (0 : Byte) ≠ 1 ∧ (3 : Byte) ≠ 2 :=
  ⟨rfl, by decide⟩

/-- The port of Master 1 in RESPONDING with its response sent to the end. -/
def sent : State :=
  setPort .m1
    { port .m1 (after (.readClaims q1) held) with phase := .responding, lineTimer := some 0 } (after (.readClaims q1) held)

/-- Settings at both ends of their ranges, and a port at the end of its response. -/
theorem witness_LinkSettingsTakeEffect :
    Listening q1.master held ∧
      (let r : RawLink := { baud := 115200, parity := 0, silence := 1 }
       1200 ≤ r.baud.toNat ∧ r.baud.toNat ≤ 115200 ∧ r.parity.toNat ≤ 1 ∧ 1 ≤ r.silence.toNat ∧ r.silence.toNat ≤ 120) ∧
      (¬ 1200 ≤ (1199 : BitVec 24).toNat) ∧
      ((port .m1 sent).phase = .responding ∧ (port .m1 sent).lineTimer = some 0 ∧ (port .m1 sent).fifo = []) :=
  ⟨rfl, by decide, by decide, by decide +kernel⟩

/-- The same port with settings pending and a request's frame and one more entry waiting; and with a lead and a length. -/
theorem witness_LinkSettingsTakeEffect_waiting :
    (let clean : Byte → FifoEntry := fun b => { byte := b, marks := .clean, overrun := false }
     let p : Port :=
       { port .m1 sent with
         pendingLine := some { baud := 1200, even := false, silence := 120 }
         fifo := (requestFrame q2.tag 0x10 [0x01]).map clean ++ [clean 0xD2] }
     p.phase = .responding ∧ p.lineTimer = some 0 ∧ p.assembler = .hunt ∧ p.fifo ≠ [] ∧ p.pendingLine.isSome = true ∧
       (Instr.claim ⟨.m1, q2.tag⟩ 0x01).wellFormed = true ∧
       requestBytes (.claim ⟨.m1, q2.tag⟩ 0x01) = some (0x10, [0x01]) ∧
       requestOf (.claim ⟨.m1, q2.tag⟩ 0x01) = some ⟨.m1, q2.tag⟩ ∧
       ({ p with fifo := [clean 0xD2, clean 3] } : Port).fifo = [clean 0xD2, clean 3] ∧ 3 ≤ (3 : Byte).toNat ∧
       (60 : Byte).toNat ≤ 60) := by
  decide +kernel

theorem witness_AttentionRequests : Listening q1.master held := rfl

theorem witness_NoRequestAndPortTimers :
    Listening q1.master held ∧ parseRequest q1 0x13 [] = .unknown ∧ parseRequest q1 0x10 [] = .badLength ∧
      (port .m1 (setPort .m1 { Port.powerOn with assembler := .length false, interByte := some 0 } held)).interByte = some 0 ∧
      Port.powerOn.interByte ≠ some 0 ∧ Port.powerOn.lineTimer ≠ some 0 ∧ Port.powerOn.silenceTimer ≠ some 0 ∧
      (let p : Port := { port .m1 (after (.readClaims q1) held) with lineTimer := some 0 }
       p.phase = .turnaround ∧ p.lineTimer = some 0 ∧ p.response.isSome = true) :=
  ⟨rfl, by decide, by decide, by decide +kernel, by decide, by decide, by decide, by decide +kernel⟩

/-- A port that sends, at the start of its response and at the last of its stop bit. -/
theorem witness_NoRequestAndPortTimers_sending :
    (let p := port .m1 sent
     p.phase = .responding ∧ p.phase ≠ .listen ∧ (port .m1 held).phase ≠ .responding ∧
       p.response.map (fun r => (responseFrame r).length) = some 14 ∧
       0 + 14 * (11 * 3333) = 14 * (11 * 3333) ∧ 0 < 1 ∧ (14 * (11 * 3333) - 1) + 1 = 14 * (11 * 3333)) := by
  decide +kernel

/-- A port in each phase; 15 and 16 entries that wait; and an errored character in LISTEN. -/
theorem witness_CharactersStoredAndErrored :
    (port .m1 sent).phase = .responding ∧
      (let e : FifoEntry := { byte := 0, marks := .clean, overrun := false }
       let p : Port := { Port.powerOn with phase := .turnaround, fifo := List.replicate 15 e }
       p.phase = .turnaround ∧ p.fifo.length < 16 ∧ p.decided ≠ some (0, .clean) ∧
         ({ p with decided := some (0, .clean) } : Port).decided = some (0, .clean) ∧
         16 ≤ ({ p with fifo := List.replicate 16 e } : Port).fifo.length) ∧
      State.reset.port1.phase = .listen ∧ State.reset.port1.fifo = [] ∧
      (entryOf true false 0 { Marks.clean with parity := true }).marks.parity = true :=
  ⟨by decide +kernel, by decide, rfl, rfl, rfl⟩

/-- A clean character in LISTEN, in each state of the assembler; and a check byte that does not agree. -/
theorem witness_CharactersStoredAndErrored_clean :
    (let e := entryOf true false 0x01 { Marks.clean with noise := true }
     (e.overrun || e.marks.brk || e.marks.framing || e.marks.parity) = false) ∧
    State.reset.port1.decided ≠ some (0x01, .clean) ∧ State.reset.port1.assembler = .hunt ∧
    ({ Port.powerOn with assembler := .length false } : Port).assembler = .length false ∧ 3 ≤ (3 : Byte).toNat ∧
    (60 : Byte).toNat ≤ 60 ∧ (2 : Byte).toNat < 3 ∧ 60 < (0xD2 : Byte).toNat ∧
    ({ Port.powerOn with assembler := .body 3 [3, 0x12, 0] false } : Port).assembler = .body 3 [3, 0x12, 0] false ∧
    ({ Port.powerOn with assembler := .check 3 [3, 0x12, 0, 1] (some 0) true } : Port).assembler =
      .check 3 [3, 0x12, 0, 1] (some 0) true ∧
    crc16 [3, 0x12, 0, 1] ≠ join2 0 0 := by decide +kernel

/-- On an idle line, and inside a character that began after the frame. -/
theorem witness_EveryRequestAnsweredOnce :
    requestOf (.claim q1 0x01) = some q1 ∧ Listening q1.master State.reset ∧
      requestBytes (.claim q1 0x01) = some (0x10, [0x01]) ∧ (port q1.master State.reset).input.level = true ∧
      (port q1.master State.reset).receiver = .waitHigh ∧
      ({ Port.powerOn with receiver := .character .start } : Port).receiver = .character .start :=
  ⟨rfl, rfl, rfl, rfl, rfl, rfl⟩

theorem witness_RequestsReadAsWritten :
    (Instr.writeProfile q1 63 (List.replicate 16 0xFFFF)).wellFormed = true ∧
      requestOf (.writeProfile q1 63 (List.replicate 16 0xFFFF)) = some q1 ∧
      requestBytes (.writeProfile q1 63 [0xFFFE]) = some (0x24, [63, 0xFF, 0xFE]) := ⟨by decide, rfl, rfl⟩

theorem witness_FrameReceivedAsItsCommand :
    (let s : State := { held with port1 := { Port.powerOn with receiver := .idle } }
     (Instr.claim q1 0x01).wellFormed = true ∧ requestOf (.claim q1 0x01) = some q1 ∧
       requestBytes (.claim q1 0x01) = some (0x10, [0x01]) ∧ Listening q1.master s ∧
       (port q1.master s).assembler = .hunt ∧ (port q1.master s).fifo = [] ∧ (port q1.master s).interByte = none ∧
       (port q1.master s).overrunPending = false ∧ (port q1.master s).receiver = .idle ∧
       (port q1.master s).decided = none) :=
  ⟨rfl, rfl, rfl, rfl, rfl, rfl, rfl, rfl, rfl, rfl⟩

/-! ### Invariants: states that have them and take a step -/

/-- A step of a state whose queue holds a de-assertion. -/
theorem steps (s : State) (h : s.pending = [.tripDeassertion]) : ∃ t, step s = .next t := by
  unfold step; rw [h]; exact ⟨_, rfl⟩

/-- The state with a de-assertion waiting. -/
def queued (s : State) : State := { s with pending := [.tripDeassertion] }

theorem witness_StepKeepsActuators :
    ActuatorsOk (queued (withActuator 2 running held)) ∧ ∃ t, step (queued (withActuator 2 running held)) = .next t :=
  ⟨actuatorsOk_with (actuatorsOk_empty rfl) runningOk, steps _ rfl⟩

theorem witness_StepKeepsOutputs :
    (let s := queued { State.reset with outputs := Vector.replicate 16 (outputFor Actuator.powerOn OutputChannel.powerOn) }
     OutputsFollow s ∧ ∃ t, step s = .next t) :=
  ⟨fun n => by simpa [queued, State.reset] using outputFor_follows Actuator.powerOn OutputChannel.powerOn, steps _ rfl⟩

theorem witness_StepKeepsTrip :
    TripHeld (queued (tripped held)) ∧ (tripped held).ptrip.asserted = true ∧ ∃ t, step (queued (tripped held)) = .next t :=
  ⟨fun _ => by decide +kernel, rfl, steps _ rfl⟩

theorem witness_StepKeepsDispatch :
    DispatchOk (queued (chained dwell5 (waitingOn .timer) held)) ∧
      ∃ t, step (queued (chained dwell5 (waitingOn .timer) held)) = .next t :=
  ⟨dispatchOk_chained dwell5 (waitingOn .timer) (by decide), steps _ rfl⟩

theorem witness_StepKeepsPressure :
    PressureOk (queued stationState) ∧ StationsOk (queued stationState) ∧ ∃ t, step (queued stationState) = .next t :=
  ⟨⟨by unfold GovernorOk; decide +kernel, fun _ => by decide +kernel⟩,
    by unfold StationsOk StationOk; decide +kernel, steps _ rfl⟩

theorem witness_StepKeepsPorts :
    (let s := queued (after (.readClaims q1) held)
     PortsOk s ∧ ∃ t, step s = .next t) :=
  ⟨fun m => by cases m <;> exact ⟨by decide +kernel, by first | exact ⟨rfl, rfl, rfl⟩ | exact ⟨rfl, rfl, by decide⟩,
    by decide +kernel⟩, steps _ rfl⟩

end Sys2Proof.Tests
end

section
/-! SUPPORT. What the requests of the profile table (R56, R57) and WRITE CURSOR (R60) answer, and the statements about
them. -/

namespace Sys2Proof.Machine

/-! ### Profile rows (R56, R57) -/

/-- A number of rows after a row, with row 63 followed by row 0 (R56, R57). -/
theorem mod64_add (r : RowId) (k : Nat) : mod64 ((r.val : Int) + k) = ⟨(r.val + k) % 64, by omega⟩ :=
  Fin.ext (by simp only [mod64]; omega)

/-- The values of `n` rows from row `r` on, with wraparound (R57). -/
def rowsFrom (t : Table Half 64) (r : RowId) (n : Nat) : List Half :=
  (List.range n).map fun k => t[(⟨(r.val + k) % 64, by omega⟩ : RowId)]

theorem length_rowsFrom (t : Table Half 64) (r : RowId) (n : Nat) : (rowsFrom t r n).length = n := by simp [rowsFrom]

theorem getElem_rowsFrom (t : Table Half 64) (r : RowId) (n k : Nat) (h : k < (rowsFrom t r n).length) :
    (rowsFrom t r n)[k] = t[(⟨(r.val + k) % 64, by omega⟩ : RowId)] := by simp [rowsFrom]

theorem length_flatMap_halfBytes (vs : List Half) : (vs.flatMap halfBytes).length = 2 * vs.length := by
  induction vs with
  | nil => rfl
  | cons v vs ih =>
    have two : (halfBytes v).length = 2 := rfl
    rw [List.flatMap_cons, List.length_append, ih, two, List.length_cons]
    omega

/-- The k-th pair of bytes of a list of two-byte fields is the k-th field (R183). -/
theorem join2_flatMap_halfBytes (vs : List Half) (k : Nat) (h : k < vs.length) :
    join2 ((vs.flatMap halfBytes).getD (2 * k) 0) ((vs.flatMap halfBytes).getD (2 * k + 1) 0) = vs[k] := by
  induction vs generalizing k with
  | nil => exact absurd h (by simp)
  | cons v vs ih =>
    cases k with
    | zero => exact join2_byte2 v
    | succ k => exact ih k (by simpa using h)

theorem writeProfileOwner_refuses {first : Byte} {vs : List Half} (h1 : 1 ≤ vs.length) (h16 : vs.length ≤ 16)
    (hf : 64 ≤ first.toNat) (s : State) : writeProfileOwner first vs s = (s, .refuse .outOfRange []) := by
  rw [writeProfileOwner, if_neg (by omega), index?_eq_none.2 hf]; rfl

theorem writeProfileOwner_accepts {first : Byte} {vs : List Half} {r : RowId} (h1 : 1 ≤ vs.length)
    (h16 : vs.length ≤ 16) (hr : index? 64 first = some r) (s : State) :
    writeProfileOwner first vs s = ({ s with profile := writeRows s.profile r vs }, .ok []) := by
  rw [writeProfileOwner, if_neg (by omega), hr]

theorem readProfileOwner_refuses {first count : Byte} (h : 64 ≤ first.toNat ∨ count.toNat = 0 ∨ 16 < count.toNat)
    (s : State) : readProfileOwner first count s = (s, .refuse .outOfRange []) := by
  unfold readProfileOwner
  cases hr : index? 64 first with
  | none => rfl
  | some r =>
    have hcount : count.toNat = 0 ∨ 16 < count.toNat :=
      h.resolve_left fun hf => by simp [index?_eq_none.2 hf] at hr
    exact if_pos hcount

theorem readProfileOwner_accepts {first count : Byte} {r : RowId} (hr : index? 64 first = some r)
    (h1 : 1 ≤ count.toNat) (h16 : count.toNat ≤ 16) (s : State) :
    readProfileOwner first count s = (s, .ok (first :: (rowsFrom s.profile r count.toNat).flatMap halfBytes)) := by
  have hcount : ¬ (count.toNat = 0 ∨ 16 < count.toNat) := by omega
  simp only [readProfileOwner, hr, if_neg hcount, rowsFrom, List.bind_eq_flatMap, List.pure_def, List.flatMap_assoc,
    List.flatMap_singleton, List.flatMap_map, halfBytes, mod64_add]

theorem exec_writeProfile {q : Req} {s : State} (h : Listening q.master s) (first : Byte) (vs : List Half) :
    exec (.writeProfile q first vs) s =
      .next (respond q 0x24 (writeProfileOwner first vs (acceptFrame q.master s))) :=
  congrArg Host.Outcome.next (answer_listening h _ _)

theorem exec_readProfile {q : Req} {s : State} (h : Listening q.master s) (first count : Byte) :
    exec (.readProfile q first count) s =
      .next (respond q 0x25 (readProfileOwner first count (acceptFrame q.master s))) :=
  congrArg Host.Outcome.next (answer_listening h _ _)

/-- Settles O11: a WRITE PROFILE stores its values by `get_writeRows`, and a READ PROFILE answers the two-byte fields of
`rowsFrom`, which `join2_flatMap_halfBytes` reads back. -/
theorem profileRows : Obligations.ProfileRows := by
  unfold Obligations.ProfileRows
  intro q first s hl
  refine ⟨fun vs h1 h16 => ⟨fun hf => ?_, fun r hr => ?_⟩, fun count => ⟨fun hc => ?_, fun r hr h1 h16 => ?_⟩⟩
  · rw [exec_writeProfile hl, writeProfileOwner_refuses h1 h16 hf]
  · refine ⟨writeRows s.profile r vs, ?_, get_writeRows s.profile r vs (by omega)⟩
    rw [exec_writeProfile hl, writeProfileOwner_accepts h1 h16 hr, acceptFrame_profile]
  · rw [exec_readProfile hl, readProfileOwner_refuses hc]
  · refine ⟨(rowsFrom s.profile r count.toNat).flatMap halfBytes, ?_, ?_, fun k hk => ?_⟩
    · rw [exec_readProfile hl, readProfileOwner_accepts hr h1 h16, acceptFrame_profile]
    · rw [length_flatMap_halfBytes, length_rowsFrom]
    · rw [join2_flatMap_halfBytes _ k (by rwa [length_rowsFrom]), getElem_rowsFrom]

/-! ### Cursors (R60) -/

/-- A code other than those of C1 and C2 names no cursor that can be written (R59, R187). -/
theorem base?_unwritable {b : Byte} (h1 : b ≠ 1) (h2 : b ≠ 2) : base? b = none ∨ base? b = some .c0 := by
  have n1 : b.toNat ≠ 1 := fun e => h1 (BitVec.eq_of_toNat_eq e)
  have n2 : b.toNat ≠ 2 := fun e => h2 (BitVec.eq_of_toNat_eq e)
  unfold base?
  split <;> simp_all

theorem holdsGroup_iff {m : Master} {g : GroupId} {s : State} :
    holdsGroup m g s = true ↔ s.groupHolders[g] = some m := beq_iff_eq

theorem heldGroup_outOfRange {group : Byte} (h : index? 5 group = none) (m : Master) (s : State) :
    heldGroup m group s = .error .outOfRange := by
  rw [heldGroup, h]

theorem heldGroup_notHolder {group : Byte} {g : GroupId} {m : Master} {s : State} (hg : index? 5 group = some g)
    (h : s.groupHolders[g] ≠ some m) : heldGroup m group s = .error .notHolder := by
  rw [heldGroup, hg]; exact if_neg (mt holdsGroup_iff.1 h)

theorem heldGroup_held {group : Byte} {g : GroupId} {m : Master} {s : State} (hg : index? 5 group = some g)
    (h : s.groupHolders[g] = some m) : heldGroup m group s = .ok g := by
  rw [heldGroup, hg]; exact if_pos (holdsGroup_iff.2 h)

section HeldGroup

variable {m : Master} {group : Byte} {g : GroupId} {s : State}

theorem writeCursorOwner_group_refused {c : RefusalCode} (h : heldGroup m group s = .error c) (cursor value : Byte) :
    writeCursorOwner m group cursor value s = (s, .refuse c []) := by
  rw [writeCursorOwner, h]; rfl

theorem writeCursorOwner_cursor_refused (h : heldGroup m group s = .ok g) {cursor : Byte} (h1 : cursor ≠ 1)
    (h2 : cursor ≠ 2) (value : Byte) : writeCursorOwner m group cursor value s = (s, .refuse .outOfRange []) := by
  rcases base?_unwritable h1 h2 with hb | hb <;> rw [writeCursorOwner, h, hb] <;> rfl

theorem writeCursorOwner_value_refused (h : heldGroup m group s = .ok g) {value : Byte} (hv : index? 64 value = none)
    (cursor : Byte) : writeCursorOwner m group cursor value s = (s, .refuse .outOfRange []) := by
  rw [writeCursorOwner, h, hv]
  rcases base? cursor with _ | (_ | _ | _) <;> rfl

theorem writeCursorOwner_accepts (h : heldGroup m group s = .ok g) {cursor value : Byte} {r : RowId}
    (hc : cursor = 1 ∨ cursor = 2) (hv : index? 64 value = some r) :
    writeCursorOwner m group cursor value s =
      (putExecutor g
        (if cursor = 1 then { s.executors[g] with c1 := r } else { s.executors[g] with c2 := r }) s, .ok []) := by
  rcases hc with rfl | rfl <;> rw [writeCursorOwner, h, hv] <;> rfl

end HeldGroup

theorem exec_writeCursor {q : Req} {s : State} (h : ListeningInTime q.master s) (group cursor value : Byte) :
    exec (.writeCursor q group cursor value) s =
      .next (respond q 0x34 (writeCursorOwner q.master group cursor value (acceptFrame q.master s))) :=
  congrArg Host.Outcome.next (answerAtClaims_listening h.1 h.2 _ _)

/-- Settles O12: one case for each check of R60, in its order, and the acceptance. -/
theorem writeCursorChecksAndEffect : Obligations.WriteCursorChecksAndEffect := by
  unfold Obligations.WriteCursorChecksAndEffect
  intro q group cursor value s hl
  rw [exec_writeCursor hl]
  congr 2
  cases hg : index? 5 group with
  | none => exact writeCursorOwner_group_refused (heldGroup_outOfRange hg _ _) _ _
  | some g =>
    by_cases hh : s.groupHolders[g] = some q.master
    · have held : heldGroup q.master group (acceptFrame q.master s) = .ok g :=
        heldGroup_held hg (by rwa [acceptFrame_groupHolders])
      dsimp only
      rw [if_neg (not_not.2 hh)]
      by_cases hc : cursor ≠ 1 ∧ cursor ≠ 2
      · rw [if_pos hc]
        exact writeCursorOwner_cursor_refused held hc.1 hc.2 _
      · rw [if_neg hc]
        cases hv : index? 64 value with
        | none => exact writeCursorOwner_value_refused held hv _
        | some r => exact writeCursorOwner_accepts held (by tauto) hv
    · dsimp only
      rw [if_pos hh]
      exact writeCursorOwner_group_refused (heldGroup_notHolder hg (by rwa [acceptFrame_groupHolders])) _ _

end Sys2Proof.Machine
end

section
/-! SUPPORT. What the endings of chains from outside leave (R98, R100, R108), one group after another, and the statements
about CLAIM and RELEASE (R105, R107). -/

namespace Sys2Proof.Machine

/-! ### Removed ramps (R38, R98) -/

theorem chainRampsRemoved_congr {ended : GroupId → Bool} {s s' t t' : State} (h : ChainRampsRemoved ended s t)
    (ha : s'.actuators = s.actuators) (ho : s'.outputs = s.outputs) (hb : t'.actuators = t.actuators)
    (hp : t'.outputs = t.outputs) : ChainRampsRemoved ended s' t' := by
  unfold ChainRampsRemoved at h ⊢
  rwa [ha, ho, hb, hp]

theorem chainRampsRemoved_none {ended : GroupId → Bool} (h : ∀ g, ended g = false) (s : State) :
    ChainRampsRemoved ended s s := by
  intro n
  dsimp only
  rw [if_neg]
  · exact ⟨rfl, rfl⟩
  · rintro ⟨⟨g, hg, -⟩, -⟩
    exact absurd hg (by simp [h g])

/-- An entry that the first chain ends touch has no ramp left for the later ones. -/
theorem chainRampsRemoved_trans {e f : GroupId → Bool} {s t u : State} (h : ChainRampsRemoved e s t)
    (k : ChainRampsRemoved f t u) : ChainRampsRemoved (fun g => e g || f g) s u := by
  intro n
  have hn := h n
  have kn := k n
  dsimp only at hn kn ⊢
  by_cases first : (∃ g, e g = true ∧ memberOf g s.actuators[n] = true) ∧
      ∃ r, s.actuators[n].ramp = some r ∧ (r.origin = .move ∨ r.origin = .follow)
  · obtain ⟨⟨g, hg, hm⟩, hr⟩ := first
    rw [if_pos ⟨⟨g, hg, hm⟩, hr⟩] at hn
    have gone : t.actuators[n].ramp = none := by rw [hn]
    rw [if_neg (by rintro ⟨-, r, some_r, -⟩; rw [gone] at some_r; cases some_r)] at kn
    rw [if_pos ⟨⟨g, by simp [hg], hm⟩, hr⟩, kn.1]
    exact hn
  · rw [if_neg first] at hn
    rw [hn.1, hn.2] at kn
    have union : ((∃ g, (e g || f g) = true ∧ memberOf g s.actuators[n] = true) ∧
        ∃ r, s.actuators[n].ramp = some r ∧ (r.origin = .move ∨ r.origin = .follow)) ↔
        (∃ g, f g = true ∧ memberOf g s.actuators[n] = true) ∧
          ∃ r, s.actuators[n].ramp = some r ∧ (r.origin = .move ∨ r.origin = .follow) := by
      simp only [Bool.or_eq_true, or_and_right, exists_or]
      exact or_iff_right first
    simpa only [union] using kn

theorem port_removeChainRamps (m : Master) (g : GroupId) (s : State) : port m (removeChainRamps g s) = port m s :=
  foldl_keeps (P := fun t => port m t = port m s) _ _ _ (fun n t h => by split <;> simpa using h) rfl

/-! ### Chain ends one after another (R98, R100) -/

theorem unbound_unbound (e f : GroupId → Bool) (x : Slot) :
    Unbound f (Unbound e x) = Unbound (fun g => e g || f g) x := by
  obtain ⟨state, record⟩ := x
  cases state with
  | free => rfl
  | written w => rfl
  | bound w g => cases he : e g <;> simp [Unbound, he]

theorem unbound_none {ended : GroupId → Bool} (h : ∀ g, ended g = false) (x : Slot) : Unbound ended x = x := by
  unfold Unbound
  split <;> simp [h]

/-- A chain end before COMPLETE touches ACT as the removal of the group's ramps does (R98, step 2). -/
theorem endChain_plant {o : ChainOutcome} (h : o ≠ .complete) (g : GroupId) (s : State) :
    (endChain g o s).actuators = (removeChainRamps g s).actuators ∧
      (endChain g o s).outputs = (removeChainRamps g s).outputs := by
  unfold endChain
  dsimp only
  rw [if_neg h]
  split <;> simp [unbindSlots]

/-- The starter's CHAIN_END is the one flag that a chain end sets (R98, step 5). -/
theorem flagSet_endChain (m : Master) (f : Attention) (g : GroupId) (o : ChainOutcome) (s : State) :
    flagSet m f (endChain g o s) =
      (flagSet m f s || decide (s.executors[g].starter = some m ∧ .chainEnd g = f)) := by
  have hp : port m (if o = .complete then s else removeChainRamps g s) = port m s := by
    split
    · rfl
    · exact port_removeChainRamps m g s
  have hx : (if o = .complete then s else removeChainRamps g s).executors = s.executors := by
    split
    · rfl
    · exact removeChainRamps_executors g s
  unfold endChain
  dsimp only
  split
  next n told =>
    have starter : s.executors[g].starter = some n := by simpa [unbindSlots, endedExecutor, hx] using told
    rw [flagSet_setFlag, starter]
    simp [flagSet, hp, eq_comm (a := m)]
  next untold =>
    have starter : s.executors[g].starter = none := by simpa [unbindSlots, endedExecutor, hx] using untold
    rw [starter]
    simp [flagSet, hp]

/-- The chains of the groups `ended` have ended between `s` and `t` with outcome `o`, their ramps removed as for an outcome
other than COMPLETE, and nothing else has happened (R98, R100). -/
structure ChainsEnded (ended : GroupId → Bool) (o : ChainOutcome) (s t : State) : Prop where
  around : Around s t
  executors : ∀ g : GroupId, t.executors[g] = if ended g then Ended o s.executors[g] else s.executors[g]
  slots : ∀ k : SlotId, t.slots[k] = Unbound ended s.slots[k]
  ramps : ChainRampsRemoved ended s t
  flags : ∀ m f, flagSet m f t =
    (flagSet m f s || decide (∃ g, ended g = true ∧ s.executors[g].starter = some m ∧ .chainEnd g = f))

theorem chainsEnded_none {ended : GroupId → Bool} (h : ∀ g, ended g = false) (o : ChainOutcome) (s : State) :
    ChainsEnded ended o s s where
  around := .refl s
  executors g := by simp [h]
  slots k := (unbound_none h _).symm
  ramps := chainRampsRemoved_none h s
  flags m f := by simp [h]

theorem ChainsEnded.congr {e f : GroupId → Bool} {o : ChainOutcome} {s t : State} (h : ChainsEnded e o s t)
    (same : ∀ g, e g = f g) : ChainsEnded f o s t := funext same ▸ h

theorem ChainsEnded.trans {e f : GroupId → Bool} {o : ChainOutcome} {s t u : State} (h : ChainsEnded e o s t)
    (k : ChainsEnded f o t u) : ChainsEnded (fun g => e g || f g) o s u where
  around := h.around.trans k.around
  executors g := by
    rw [k.executors, h.executors]
    cases e g <;> cases f g <;> rfl
  slots i := by rw [k.slots, h.slots, unbound_unbound]
  ramps := chainRampsRemoved_trans h.ramps k.ramps
  flags m a := by
    have starter : ∀ g : GroupId, t.executors[g].starter = s.executors[g].starter := fun g => by
      rw [h.executors]; split <;> rfl
    rw [k.flags, h.flags, Bool.or_assoc, ← Bool.decide_or]
    simp only [starter, Bool.or_eq_true, or_and_right, exists_or]

theorem chainsEnded_endChain {o : ChainOutcome} (h : o ≠ .complete) (g : GroupId) (s : State) :
    ChainsEnded (· == g) o s (endChain g o s) where
  around := around_endChain g o s
  executors k := by
    rw [endChain_executors, get_put]
    by_cases e : k = g <;> simp [e]
  slots := endChain_slots g o s
  ramps :=
    chainRampsRemoved_congr (removeChainRamps_removed g s) rfl rfl (endChain_plant h g s).1 (endChain_plant h g s).2
  flags m f := by simp [flagSet_endChain]

theorem chainsEnded_endIfRunning {o : ChainOutcome} (h : o ≠ .complete) (g : GroupId) (s : State) :
    ChainsEnded (fun k => k == g && decide (s.executors[k].state ≠ .idle)) o s (endIfRunning g o s) := by
  unfold endIfRunning
  split
  case isTrue idle =>
    exact chainsEnded_none (fun k => by by_cases e : k = g <;> simp_all) o s
  case isFalse running =>
    exact (chainsEnded_endChain h g s).congr fun k => by by_cases e : k = g <;> simp_all

/-- Chains ended from outside one group after another: each named group's chain ends where it runs or is halted. -/
theorem chainsEnded_foldl {o : ChainOutcome} (h : o ≠ .complete) (which : GroupId → Bool) (gs : List GroupId) (s : State) :
    ChainsEnded (fun k => decide (k ∈ gs) && which k && decide (s.executors[k].state ≠ .idle)) o s
      (gs.foldl (fun t g => if which g then endIfRunning g o t else t) s) := by
  induction gs generalizing s with
  | nil => exact chainsEnded_none (fun _ => rfl) o s
  | cons g gs ih =>
    have first : ChainsEnded (fun k => decide (k = g) && which k && decide (s.executors[k].state ≠ .idle)) o s
        (if which g then endIfRunning g o s else s) := by
      cases hw : which g with
      | false => exact chainsEnded_none (fun k => by by_cases e : k = g <;> simp [e, hw]) o s
      | true =>
        refine (chainsEnded_endIfRunning h g s).congr fun k => ?_
        by_cases e : k = g <;> simp [e, hw]
    refine (first.trans (ih _)).congr fun k => ?_
    rw [first.executors k]
    by_cases e : k = g
    · subst e
      generalize s.executors[k] = x
      cases which k <;> by_cases idle : x.state = .idle <;> simp [idle, Ended]
    · simp [e]

/-! ### Sets of resources and their holders (R104, R184) -/

theorem validSet_of {set : Byte} (h : 0 < set.toNat) (k : set.toNat < 64) : validSet set = true := by
  simp [validSet, h, k]

theorem any_allResources {p : Resource → Bool} : allResources.any p = true ↔ ∃ r, p r = true := by simp [allResources]

theorem holderOf_congr {s t : State} (hg : t.groupHolders = s.groupHolders) (hv : t.govHolder = s.govHolder)
    (r : Resource) : holderOf r t = holderOf r s := by
  unfold holderOf
  rw [hg, hv]

theorem holderOf_setFlag (r : Resource) (m : Master) (f : Attention) (s : State) :
    holderOf r (setFlag m f s) = holderOf r s := holderOf_congr (by simp) (by simp) r

/-- What a flag leaves alone, a flag set under a condition leaves alone. -/
theorem ite_setFlag_keeps {α : Type} {m : Master} {a : Attention} (p : State → α) (hp : ∀ s, p (setFlag m a s) = p s)
    (c : Prop) [Decidable c] (s : State) : p (if c then setFlag m a s else s) = p s := by
  split
  · exact hp s
  · rfl

theorem flagSet_ite_setFlag (m n : Master) (f a : Attention) (c : Prop) [Decidable c] (s : State) :
    flagSet m f (if c then setFlag n a s else s) = (flagSet m f s || decide (c ∧ m = n ∧ a = f)) := by
  by_cases h : c
  · rw [if_pos h, flagSet_setFlag]; simp [h]
  · rw [if_neg h]; simp [h]

theorem flagSet_mapHolders (m : Master) (a : Attention) (f : Resource → Option Master → Option Master) (s : State) :
    flagSet m a (mapHolders f s) = flagSet m a s := by simp [flagSet]

/-- A change of holders and a flag come to the same in either order. -/
theorem setFlag_mapHolders (m : Master) (a : Attention) (f : Resource → Option Master → Option Master) (s : State) :
    setFlag m a (mapHolders f s) = mapHolders f (setFlag m a s) := by
  cases m <;> rfl

/-! ### CLAIM (R105) -/

/-- The holders after a CLAIM that is taken. -/
def claimed (m : Master) (set : Byte) (r : Resource) (h : Option Master) : Option Master :=
  if set.getLsbD r.val then some m else h

/-- The state that a CLAIM leaves that is taken. -/
def afterClaim (m : Master) (set : Byte) (s : State) : State :=
  mapHolders (claimed m set)
    (if ∃ r : Resource, set.getLsbD r.val = true ∧ holderOf r s = none then setFlag m.other .claimsChanged s else s)

theorem holderOf_afterClaim (m : Master) (set : Byte) (s : State) (r : Resource) :
    holderOf r (afterClaim m set s) = claimed m set r (holderOf r s) := by
  rw [afterClaim, holderOf_mapHolders, ite_setFlag_keeps (holderOf r) (holderOf_setFlag r _ _)]

theorem claimOwner_refuses {m : Master} {set : Byte} {s : State} (hv : validSet set = true)
    (h : ∃ r : Resource, (set.getLsbD r.val && decide (holderOf r s = some m.other)) = true) :
    claimOwner m set s =
      (s, .refuse .heldByOther [setOf fun r => set.getLsbD r.val && decide (holderOf r s = some m.other)]) := by
  unfold claimOwner
  rw [if_neg (not_not.2 hv)]
  simp only [names, Bool.beq_eq_decide_eq]
  exact if_pos (any_allResources.2 h)

theorem claimOwner_takes {m : Master} {set : Byte} {s : State} (hv : validSet set = true)
    (h : ∀ r : Resource, (set.getLsbD r.val && decide (holderOf r s = some m.other)) = false) :
    claimOwner m set s =
      (afterClaim m set s, .ok [setOf fun r => decide (claimed m set r (holderOf r s) = some m)]) := by
  have none_barred : ¬ ∃ r : Resource, (set.getLsbD r.val && decide (holderOf r s = some m.other)) = true :=
    fun ⟨r, e⟩ => Bool.noConfusion ((h r).symm.trans e)
  unfold claimOwner afterClaim
  rw [if_neg (not_not.2 hv)]
  simp only [names, any_allResources, holderOf_mapHolders, Bool.beq_eq_decide_eq]
  rw [if_neg none_barred, apply_ite (mapHolders (claimed m set)), ← setFlag_mapHolders]
  simp only [Bool.and_eq_true, decide_eq_true_eq]
  rfl

theorem exec_claim {q : Req} {s : State} (h : ListeningInTime q.master s) (set : Byte) :
    exec (.claim q set) s = .next (respond q 0x10 (claimOwner q.master set (acceptFrame q.master s))) :=
  congrArg Host.Outcome.next (answerAtClaims_listening h.1 h.2 _ _)

/-- Settles O7: the set is refused whole or every holder in it is replaced. -/
theorem claimTakenWhole : Obligations.ClaimTakenWhole := by
  unfold Obligations.ClaimTakenWhole
  intro q set s hl h0 h64 u barred
  have hv := validSet_of h0 h64
  have same : ∀ r, holderOf r s = holderOf r u := fun r => (holderOf_acceptFrame r q.master s).symm
  simp only [barred, same, exec_claim hl]
  constructor
  · intro other
    exact ⟨_, getLsbD_setOf _, setOf_lt _, by rw [claimOwner_refuses hv other]⟩
  · intro free
    refine ⟨_, _, by rw [claimOwner_takes hv free], holderOf_afterClaim _ _ _, fun r => ?_, setOf_lt _, rfl⟩
    rw [getLsbD_setOf, holderOf_afterClaim]

/-! ### RELEASE (R107, R108) -/

/-- The holders after the claims of master `m` on the resources of which `which` says so have ended. -/
def unclaimed (m : Master) (which : Resource → Bool) (r : Resource) (h : Option Master) : Option Master :=
  if which r && decide (h = some m) then none else h

/-- CLM first, then the chains of the groups whose claim has ended (R107, R108, R111). -/
theorem chainsEnded_endClaims (m : Master) (which : Resource → Bool) (s : State) :
    ChainsEnded
      (fun g => which ⟨g.val, by omega⟩ && decide (s.groupHolders[g] = some m) && decide (s.executors[g].state ≠ .idle))
      .cancelled (mapHolders (unclaimed m which) s) (endClaims m which s) := by
  have e : endClaims m which s = allGroups.foldl (fun t g =>
      if which ⟨g.val, by omega⟩ && decide (s.groupHolders[g] = some m) then endIfRunning g .cancelled t else t)
      (mapHolders (unclaimed m which) s) := by
    simp only [endClaims, Bool.beq_eq_decide_eq]
    rfl
  rw [e]
  refine (chainsEnded_foldl (by decide) _ allGroups _).congr fun g => ?_
  simp only [allGroups, List.mem_finRange, decide_true, Bool.true_and]
  rfl

theorem holderOf_endClaims (m : Master) (which : Resource → Bool) (s : State) (r : Resource) :
    holderOf r (endClaims m which s) = unclaimed m which r (holderOf r s) := by
  have around := (chainsEnded_endClaims m which s).around
  rw [holderOf_congr around.groupHolders around.govHolder, holderOf_mapHolders]

/-- The state that a RELEASE of a valid set leaves. -/
def afterRelease (m : Master) (set : Byte) (s : State) : State :=
  if ∃ r : Resource, (set.getLsbD r.val && decide (holderOf r s = some m)) = true then
    setFlag m.other .claimsChanged (endClaims m (names set) s)
  else endClaims m (names set) s

theorem releaseOwner_eq {m : Master} {set : Byte} {s : State} (hv : validSet set = true) :
    releaseOwner m set s =
      (afterRelease m set s, .ok [setOf fun r => set.getLsbD r.val && decide (holderOf r s ≠ some m)]) := by
  unfold releaseOwner afterRelease
  rw [if_neg (not_not.2 hv)]
  simp only [names, any_allResources, bne, Bool.beq_eq_decide_eq, decide_not]

/-- Of what the flag for the other master leaves alone, a RELEASE leaves what the endings of the claims leave. -/
theorem afterRelease_keeps {α : Type} {m : Master} (p : State → α) (hp : ∀ s, p (setFlag m.other .claimsChanged s) = p s)
    (set : Byte) (s : State) : p (afterRelease m set s) = p (endClaims m (names set) s) :=
  ite_setFlag_keeps p hp _ _

theorem holderOf_afterRelease (m : Master) (set : Byte) (s : State) (r : Resource) :
    holderOf r (afterRelease m set s) = unclaimed m (names set) r (holderOf r s) := by
  rw [afterRelease_keeps (holderOf r) (holderOf_setFlag r _ _), holderOf_endClaims]

theorem exec_release {q : Req} {s : State} (h : ListeningInTime q.master s) (set : Byte) :
    exec (.release q set) s = .next (respond q 0x11 (releaseOwner q.master set (acceptFrame q.master s))) :=
  congrArg Host.Outcome.next (answerAtClaims_listening h.1 h.2 _ _)

/-- Settles O8: the chains end by `chainsEnded_endClaims`, and the flag for the other master touches nothing else. -/
theorem releaseEndsClaims : Obligations.ReleaseEndsClaims := by
  unfold Obligations.ReleaseEndsClaims
  intro q set s hl h0 h64 freed ended
  have hv := validSet_of h0 h64
  have same : ∀ r, holderOf r (acceptFrame q.master s) = holderOf r s := fun r => holderOf_acceptFrame r q.master s
  have chains : ChainsEnded ended .cancelled (mapHolders (unclaimed q.master (names set)) (acceptFrame q.master s))
      (endClaims q.master (names set) (acceptFrame q.master s)) :=
    (chainsEnded_endClaims q.master (names set) (acceptFrame q.master s)).congr fun g => by
      simp only [acceptFrame_groupHolders, acceptFrame_executors]; rfl
  refine ⟨afterRelease q.master set (acceptFrame q.master s), _, by simp only [exec_release hl, releaseOwner_eq hv, same],
    fun r => ?holders, getLsbD_setOf _, setOf_lt _, fun g => ?executors, fun k => ?slots, fun g hg m hm => ?told, ?ramps,
    ?governor, ?profile, ?stations, ?flag⟩
  case holders => rw [holderOf_afterRelease, same]; rfl
  case executors => rw [afterRelease_keeps State.executors (by simp), chains.executors]; simp
  case slots => rw [afterRelease_keeps State.slots (by simp), chains.slots]; simp
  case told =>
    have starter : ∃ k : GroupId, ended k = true ∧
        (mapHolders (unclaimed q.master (names set)) (acceptFrame q.master s)).executors[k].starter = some m ∧
        Attention.chainEnd k = .chainEnd g := ⟨g, hg, by simpa using hm, rfl⟩
    rw [afterRelease, flagSet_ite_setFlag, chains.flags, decide_eq_true starter]
    simp
  case ramps =>
    exact chainRampsRemoved_congr chains.ramps (by simp) (by simp)
      (afterRelease_keeps State.actuators (by simp) ..) (afterRelease_keeps State.outputs (by simp) ..)
  case governor => rw [afterRelease_keeps State.governor (by simp), chains.around.governor]; simp
  case profile => rw [afterRelease_keeps State.profile (by simp), chains.around.profile]; simp
  case stations => rw [afterRelease_keeps State.stations (by simp), chains.around.stations]; simp
  case flag =>
    rw [afterRelease, flagSet_ite_setFlag, chains.flags, flagSet_mapHolders, flagSet_acceptFrame]
    simp [same, freed]

end Sys2Proof.Machine
end

section
/-! SUPPORT. What a regulating evaluation leaves where no pump follows (R117 to R121), and the statement about it. -/

namespace Sys2Proof.Machine

/-! ### The demand where no pump follows (R40) -/

theorem retarget_unfollowed {n : ActId} {s : State} (h : s.actuators[n].follow = none) (demand : Nat) :
    retarget n demand s = s := by
  simp only [retarget, h]

theorem handDemand_unfollowed {s : State} (h : ∀ n : ActId, s.actuators[n].follow = none) : handDemand s = s :=
  List.foldl_fixed' (fun n => retarget_unfollowed (h n) _) allActuators

@[simp] theorem putGovernor_actuators (g : Governor) (s : State) : (putGovernor g s).actuators = s.actuators := by
  unfold putGovernor
  dsimp only
  split <;> rfl

/-- Without followers the evaluation changes the governor and nothing else but the attention for its mode (R117, R127). -/
theorem evaluateGovernor_unfollowed {s : State} (hm : s.governor.mode ≠ .off)
    (hf : ∀ n : ActId, s.actuators[n].follow = none) :
    evaluateGovernor s = putGovernor (evaluate s.stations { s.governor with evalTimer := evalInterval }) s := by
  unfold evaluateGovernor
  dsimp only
  rw [if_neg hm, handDemand_unfollowed (by simpa using hf)]

/-! ### The controlling entry among the eligible (R118, R119) -/

theorem stationError_eq (x : Station) :
    stationError x = ((x.reading.map Reading.dp).getD 0 : Int) - (x.setpoint : Int) := by
  unfold stationError
  cases x.reading with
  | none => simp
  | some r => rfl

theorem length_eligibleEntries (t : Table Station 8) :
    (eligibleEntries t).length = (List.finRange 8).countP fun j : StationId => t[j].enabled && t[j].state == .fresh :=
  List.countP_eq_length_filter.symm

/-- `controllingEntry_some` of all entries: where one is eligible, one controls. -/
theorem exists_controllingEntry {t : Table Station 8} (h : ∃ k : StationId, eligibleStation t[k] = true) :
    ∃ k : StationId, controllingEntry t (eligibleEntries t) = some k ∧ eligibleStation t[k] = true ∧
      (∀ j : StationId, eligibleStation t[j] = true → stationError t[k] ≤ stationError t[j]) ∧
      ∀ j : StationId, eligibleStation t[j] = true → stationError t[j] = stationError t[k] → k ≤ j := by
  obtain ⟨i, hi⟩ := h
  have nonempty : eligibleEntries t ≠ [] := List.ne_nil_of_mem (mem_eligibleEntries.2 hi)
  obtain ⟨k, hk⟩ := Option.ne_none_iff_exists'.1 (mt controllingEntry_none.1 nonempty)
  have choice := controllingEntry_some (eligibleEntries_sorted t) hk
  simp only [mem_eligibleEntries] at choice
  exact ⟨k, hk, choice⟩

/-! ### Clamps as integers (section 5.3) and the integral (R121) -/

theorem clampInt_toInt (lo hi : Nat) (x : Int) :
    (clampInt lo hi x : Int) = if x < lo then (lo : Int) else if (hi : Int) < x then (hi : Int) else x := by
  unfold clampInt
  split <;> (try split) <;> omega

/-- Raw stands at a limit past which the integral change would push it (R121). -/
def WindsUp (g : Governor) (e : Int) : Prop :=
  ((g.dmax : Int) ≤ rawOutput g e ∧ 0 < integralChange g e) ∨ (rawOutput g e ≤ g.dmin ∧ integralChange g e < 0)

theorem nextIntegral_of_windsUp {g : Governor} {e : Int} (h : WindsUp g e) : nextIntegral g e = g.integral := by
  unfold nextIntegral
  dsimp only
  rcases h with high | low
  · exact if_pos high
  · rw [if_pos low, ite_self]

theorem nextIntegral_of_not_windsUp {g : Governor} {e : Int} (h : ¬ WindsUp g e) :
    nextIntegral g e = clampIntegral g ((g.integral : Int) + integralChange g e) := by
  obtain ⟨high, low⟩ := not_or.1 h
  unfold nextIntegral
  dsimp only
  rw [if_neg high, if_neg low]

/-! ### The evaluation (R117 to R121) -/

/-- In REGULATE, with entry `k` controlling and no follower, an evaluation is the arithmetic of R120 and R121 with `k`'s
clamped error. -/
theorem evaluateGovernor_regulate {s : State} {k : StationId} (hm : s.governor.mode = .regulate)
    (hf : ∀ n : ActId, s.actuators[n].follow = none)
    (hk : controllingEntry s.stations (eligibleEntries s.stations) = some k) :
    evaluateGovernor s =
      { s with
        governor := regulate k (clampAbs errorBound (stationError s.stations[k]))
          { s.governor with evalTimer := evalInterval, eligible := some (eligibleEntries s.stations).length } } := by
  have he : evaluate s.stations { s.governor with evalTimer := evalInterval } =
      regulate k (clampAbs errorBound (stationError s.stations[k]))
        { s.governor with evalTimer := evalInterval, eligible := some (eligibleEntries s.stations).length } := by
    simp only [evaluate, hk, evaluateWith, hm]
  rw [evaluateGovernor_unfollowed (by simp [hm]) hf, he]
  exact putGovernor_same rfl

/-- Settles O38: `exists_controllingEntry` gives the entry, and `evaluateGovernor_regulate` what follows from its error. -/
theorem regulatingEvaluation : Obligations.RegulatingEvaluation := by
  unfold Obligations.RegulatingEvaluation
  intro s hm hf he
  simp only [← eligibleStation_iff, ← stationError_eq] at he ⊢
  obtain ⟨k, hk, eligible, smallest, lowest⟩ := exists_controllingEntry he
  refine ⟨k, _, eligible, smallest, lowest, congrArg Host.Outcome.next (evaluateGovernor_regulate hm hf hk), rfl,
    ?demand, ?stands, ?moves, ?frame⟩
  case demand => exact (stepDemand_moves _ _).trans (by rw [clampInt_toInt]; rfl)
  case stands => exact nextIntegral_of_windsUp
  case moves =>
    intro h
    exact (congrArg Nat.cast (nextIntegral_of_not_windsUp h)).trans (clampInt_toInt _ _ _)
  case frame => rw [← length_eligibleEntries]; rfl

end Sys2Proof.Machine
end

section
/-! SUPPORT. What each change of one actuator entry keeps of the entry (R6, R7, R9, R31, R33, R39): one lemma for each
operation of ACT on an entry by itself. -/

namespace Sys2Proof.Machine

/-! ### Entries within Chapters 1 and 2 -/

/-- The timers, the feedback and the fault fields play no part in it. -/
theorem ActuatorOk.congr {a b : Actuator} (h : ActuatorOk a) (cfg : b.cfg = a.cfg) (state : b.state = a.state)
    (command : b.command = a.command) (ramp : b.ramp = a.ramp) (accumulator : b.accumulator = a.accumulator)
    (follow : b.follow = a.follow) : ActuatorOk b := by
  unfold ActuatorOk StateFits CommandOk SlewOk at *
  rwa [cfg, state, command, ramp, accumulator, follow]

theorem ActuatorOk.supervise {a : Actuator} (h : ActuatorOk a) : ActuatorOk (supervise a) :=
  h.congr (by simp) (by simp) (by simp) (by simp) (by simp) (by simp)

/-- An entry out of service is as it must be with no ramp, no follow step and command 0 (R7, R31). -/
theorem actuatorOk_outOfService {a : Actuator} (cfg : ConfigOk a.cfg) (state : a.state = .outOfService)
    (command : a.command = 0) (ramp : a.ramp = none) (accumulator : a.accumulator = 0) (follow : a.follow = none) :
    ActuatorOk a := by
  refine ⟨cfg, ?_, ?_, ?_⟩
  · unfold StateFits; split <;> simp [state]
  · unfold CommandOk; simp [state, command]
  · unfold SlewOk; simp [state, ramp, accumulator, follow]

theorem configOk_powerOn : ConfigOk ActConfig.powerOn := by
  unfold ConfigOk; decide

theorem actuatorOk_powerOn : ActuatorOk Actuator.powerOn :=
  actuatorOk_outOfService configOk_powerOn rfl rfl rfl rfl rfl

/-- Out of service there is no ramp and nothing follows (R31, R39). -/
theorem ActuatorOk.of_outOfService {a : Actuator} (h : ActuatorOk a) (state : a.state = .outOfService) :
    a.command = 0 ∧ a.ramp = none ∧ a.accumulator = 0 ∧ a.follow = none := by
  obtain ⟨-, -, command, -, ramp, follow⟩ := h
  unfold CommandOk at command
  cases hr : a.ramp <;> cases hf : a.follow <;> simp_all

/-- What a RUNNING pump's, a HOLDING or a MOVING valve's entry comes to where its command and ramp are as they may be. -/
theorem ActuatorOk.command_mem {a : Actuator} (h : ActuatorOk a)
    (state : a.state = .running ∨ a.state = .holding ∨ a.state = .moving ∨ a.state = .stopping .rampDown) :
    a.cfg.min ≤ a.command ∧ a.command ≤ a.cfg.max := by
  obtain ⟨-, -, command, -⟩ := h
  unfold CommandOk at command
  rcases state with e | e | e | e <;> simpa [e] using command

theorem ActuatorOk.follow_running {a : Actuator} (h : ActuatorOk a) {step : Nat} (hf : a.follow = some step) :
    a.state = .running ∧ 6 ≤ step ∧ step ≤ rateStepOf a.cfg.maxRate := by
  obtain ⟨-, -, -, -, -, follow⟩ := h
  simpa [hf] using follow

/-- A ramp of a chain is a pump's that runs or a valve's that moves (R9, R10). -/
theorem ActuatorOk.removeRamp {a : Actuator} (h : ActuatorOk a) (hr : chainRamp a = true) :
    ActuatorOk (removeRamp a) := by
  have mem := h.command_mem
  obtain ⟨cfg, fits, command, acc, ramp, follow⟩ := h
  unfold chainRamp at hr
  unfold Machine.removeRamp ActuatorOk StateFits CommandOk SlewOk at *
  cases e : a.ramp with
  | none => simp [e] at hr
  | some r => 
    simp only [e, Bool.or_eq_true, beq_iff_eq] at hr ramp
    have state : a.state = .running ∨ a.state = .moving := by
      rcases ramp.2.2.2.2 with x | x | x | x <;> simp_all
    rcases state with e | e <;> cases k : a.cfg.kind <;> cases hf : a.follow <;> simp_all

/-- A START at a STOPPED pump (R13). -/
theorem ActuatorOk.startEntry {a : Actuator} (h : ActuatorOk a) (hs : a.state = .stopped) (running : Bool) :
    ActuatorOk (startEntry running a) := by
  obtain ⟨cfg, fits, command, acc, ramp, follow⟩ := h
  have := cfg.1
  unfold Machine.startEntry ActuatorOk StateFits CommandOk SlewOk at *
  cases hr : a.ramp <;> cases hf : a.follow <;> cases k : a.cfg.kind <;> cases running <;> simp_all

/-- A landing on a target within the limits (R36). -/
theorem ActuatorOk.landRamp {a : Actuator} (h : ActuatorOk a) {t : Nat} (lo : a.cfg.min ≤ t) (hi : t ≤ a.cfg.max)
    (hs : a.state = .running ∨ a.state = .holding ∨ a.state = .moving ∨ (a.state = .stopping .rampDown ∧ t = a.cfg.min) ∨
      (a.state = .faulted ∧ a.cfg.kind = .valve)) : ActuatorOk (landRamp t a) := by
  obtain ⟨cfg, fits, command, acc, ramp, follow⟩ := h
  unfold Machine.landRamp ActuatorOk StateFits CommandOk SlewOk at *
  rcases hs with e | e | e | ⟨e, rfl⟩ | ⟨e, v⟩ <;> cases hf : a.follow <;> cases k : a.cfg.kind <;> simp_all

/-- A follow step goes at any state (R39). -/
theorem ActuatorOk.unfollow {a : Actuator} (h : ActuatorOk a) : ActuatorOk { a with follow := none } := by
  obtain ⟨cfg, fits, command, acc, ramp, -⟩ := h
  exact ⟨cfg, fits, command, acc, ramp, trivial⟩

theorem ActuatorOk.followEntry {a : Actuator} (h : ActuatorOk a) (hs : a.state = .running) (rate : Int) :
    ActuatorOk (followEntry rate a) := by
  obtain ⟨cfg, fits, command, acc, ramp, -⟩ := h
  exact ⟨cfg, fits, command, acc, ramp, hs, rateStep_mem cfg.2.2.1 cfg.2.2.2.1 rate⟩

/-- A MOVE at a RUNNING pump or at a HOLDING or MOVING valve (R34, R80). -/
theorem ActuatorOk.requestMove {a : Actuator} (h : ActuatorOk a)
    (hs : a.state = .running ∨ a.state = .holding ∨ a.state = .moving) (target rate : Int) (permits : Bool) :
    ActuatorOk (requestRamp .move target (rateStep a rate) permits a).1 := by
  have mem := clampTarget_mem h.1.1 target
  have rates := rateStep_mem h.1.2.2.1 h.1.2.2.2.1 rate
  unfold requestRamp
  dsimp only
  split
  · exact h.landRamp mem.1 mem.2 (by tauto)
  · split
    · exact h
    · have inside := h.command_mem (by tauto)
      obtain ⟨cfg, fits, command, acc, ramp, follow⟩ := h
      unfold ActuatorOk StateFits CommandOk SlewOk at *
      rcases hs with e | e | e <;> cases hf : a.follow <;> cases k : a.cfg.kind <;> simp_all

/-- The demand handed to a RUNNING pump (R40). -/
theorem ActuatorOk.requestFollow {a : Actuator} (h : ActuatorOk a) {step : Nat} (hf : a.follow = some step) (target : Int) :
    ActuatorOk (requestRamp .follow target step true a).1 := by
  have mem := clampTarget_mem h.1.1 target
  obtain ⟨hs, rates⟩ := h.follow_running hf
  rw [requestRamp_follow hs]
  obtain ⟨cfg, fits, command, acc, ramp, follow⟩ := h
  unfold ActuatorOk StateFits CommandOk SlewOk at *
  by_cases e : clampTarget a target = a.command <;> cases k : a.cfg.kind <;> simp_all

/-- A STOP at a RUNNING pump (R15, R83). -/
theorem ActuatorOk.stopEntry {a : Actuator} (h : ActuatorOk a) (hs : a.state = .running) (rate : Int) :
    ActuatorOk (stopEntry rate a) := by
  have mem : clampTarget { a with state := .stopping .rampDown, follow := none } a.cfg.min = a.cfg.min :=
    clampInt_of_mem (le_refl _) h.1.1
  have rates := rateStep_mem h.1.2.2.1 h.1.2.2.2.1 rate
  have inside := h.command_mem (by tauto)
  have order := h.1.1
  obtain ⟨cfg, fits, command, acc, ramp, follow⟩ := h
  unfold Machine.stopEntry requestRamp Machine.landRamp
  rw [mem]
  unfold ActuatorOk StateFits CommandOk SlewOk at *
  by_cases e : a.cfg.min = a.command <;> cases k : a.cfg.kind <;> simp_all

/-- A slew expiry at an entry with a ramp (R35, R36): the command stays between the command and the target. -/
theorem ActuatorOk.stepRamp {a : Actuator} (h : ActuatorOk a) {r : Ramp} (hr : a.ramp = some r) :
    ActuatorOk (stepRamp r a).1 := by
  obtain ⟨-, fits, -, -, ramp, -⟩ := id h
  rw [hr] at ramp
  obtain ⟨lo, hi, -, -, states⟩ := ramp
  by_cases reach : distance r.target a.command ≤ (a.accumulator + r.rateStep) / 64
  · rw [stepRamp_lands reach]
    exact h.landRamp lo hi (by tauto)
  · rw [stepRamp_moves (by omega)]
    have inside : a.cfg.min ≤ a.command ∧ a.command ≤ a.cfg.max := by
      obtain ⟨-, -, command, -⟩ := h
      unfold CommandOk at command
      rcases states with x | x | x | x <;> simp_all
    have moved : a.cfg.min ≤ (if a.command < r.target then a.command + (a.accumulator + r.rateStep) / 64
        else a.command - (a.accumulator + r.rateStep) / 64) ∧
        (if a.command < r.target then a.command + (a.accumulator + r.rateStep) / 64
        else a.command - (a.accumulator + r.rateStep) / 64) ≤ a.cfg.max := by
      have := @lt_distance ((a.accumulator + r.rateStep) / 64) r.target a.command
      split <;> omega
    have under : (a.accumulator + r.rateStep) % 64 < 64 := Nat.mod_lt _ (by decide)
    obtain ⟨cfg, fits, command, acc, ramp, follow⟩ := h
    unfold ActuatorOk StateFits CommandOk SlewOk at *
    rcases states with x | x | x | x <;> cases k : a.cfg.kind <;> simp_all

/-- The safe action of a FAULTED entry with nothing in motion (R22), also where it sets out anew (R30). -/
theorem ActuatorOk.requestSafe {a : Actuator} (h : ActuatorOk a) (hs : a.state = .faulted) (hk : a.cfg.kind = .valve)
    (target rate : Int) : ActuatorOk (requestRamp .safe target (rateStep a rate) true a).1 := by
  have mem := clampTarget_mem h.1.1 target
  have rates := rateStep_mem h.1.2.2.1 h.1.2.2.2.1 rate
  unfold requestRamp
  dsimp only
  split
  · exact h.landRamp mem.1 mem.2 (by tauto)
  · rw [if_neg (by simp)]
    obtain ⟨cfg, fits, command, acc, ramp, follow⟩ := h
    unfold ActuatorOk StateFits CommandOk SlewOk at *
    cases hf : a.follow <;> simp_all

/-- The fault procedure at an entry in service (R21, R22). -/
theorem ActuatorOk.faultEntry {a : Actuator} (h : ActuatorOk a) (hh : healthy a = true) (code : FaultCode) :
    ActuatorOk (faultEntry code a) := by
  have hs : a.state ≠ .outOfService ∧ a.state ≠ .faulted := by simpa [healthy, inService] using hh
  obtain ⟨cfg, fits, command, acc, -, -⟩ := h
  have still : a.cfg.kind = .valve → ActuatorOk
      { a with
        commandAtFault := a.command, fault := code, follow := none, ramp := none, accumulator := 0, proofTimer := none,
        deviationTimer := none, lostTimer := none, state := .faulted } := by
    intro k
    refine ⟨cfg, ?_, ?_, ?_⟩
    · unfold StateFits; simp [k]
    · unfold StateFits CommandOk at *
      simp only [k] at fits
      rcases fits with x | x | x | x <;> simp_all
    · unfold SlewOk; simp
  unfold Machine.faultEntry safeAction
  dsimp only
  split
  next _ _ k =>
    refine ⟨cfg, ?_, ?_, ?_⟩
    · unfold StateFits; simp [k]
    · unfold CommandOk; simp [k]
    · unfold SlewOk; simp
  next _ _ k _ => exact (still k).requestSafe rfl k _ _
  next _ _ not_pump _ =>
    refine still ?_
    cases k : a.cfg.kind with
    | none => unfold StateFits at fits; simp_all
    | pump => exact absurd k not_pump
    | valve => rfl

/-- A STOPPED pump at command 0 and a HOLDING valve within its limits, with no ramp and nothing that follows, are as they may
be. -/
theorem actuatorOk_still {a : Actuator} (cfg : ConfigOk a.cfg) (ramp : a.ramp = none) (accumulator : a.accumulator = 0)
    (follow : a.follow = none)
    (state : (a.cfg.kind = .pump ∧ a.state = .stopped ∧ a.command = 0) ∨
      (a.cfg.kind = .valve ∧ a.state = .holding ∧ a.cfg.min ≤ a.command ∧ a.command ≤ a.cfg.max)) : ActuatorOk a := by
  refine ⟨cfg, ?_, ?_, by simp only [SlewOk, ramp, accumulator, follow]; rcases state with x | x <;> simp [x]⟩
  · unfold StateFits; rcases state with x | x <;> simp [x]
  · unfold CommandOk; rcases state with x | x <;> simp [x]

/-- The entry brought into service (R11). -/
theorem ActuatorOk.serviceEntry {a : Actuator} (h : ActuatorOk a) (hs : a.state = .outOfService)
    (hk : a.cfg.kind ≠ .none) : ActuatorOk (serviceEntry a) := by
  obtain ⟨-, -, -, follow⟩ := h.of_outOfService hs
  have order := h.1.1
  unfold Machine.serviceEntry
  dsimp only
  split
  next k => exact actuatorOk_still h.1 rfl rfl follow (.inl ⟨k, rfl, rfl⟩)
  next k =>
    have valve : a.cfg.kind = .valve := by cases e : a.cfg.kind <;> simp_all
    refine actuatorOk_still h.1 rfl rfl follow (.inr ⟨valve, rfl, ?_⟩)
    dsimp only
    split
    · exact clampNat_mem order _
    · exact ⟨le_refl _, order⟩

/-- The entry cleared of its fault (R26). -/
theorem ActuatorOk.clearedEntry {a : Actuator} (h : ActuatorOk a) (hs : a.state = .faulted) : ActuatorOk (clearedEntry a) := by
  have follow : a.follow = none := by
    cases e : a.follow with
    | none => rfl
    | some q => exact absurd (h.follow_running e).1 (by simp [hs])
  have kind : a.cfg.kind ≠ .none := by
    obtain ⟨-, fits, -⟩ := h
    intro k
    simp [StateFits, k, hs] at fits
  unfold Machine.clearedEntry
  dsimp only
  split
  next k => exact actuatorOk_still h.1 rfl rfl follow (.inl ⟨k, rfl, rfl⟩)
  next k =>
    have valve : a.cfg.kind = .valve := by cases e : a.cfg.kind <;> simp_all
    exact actuatorOk_still h.1 rfl rfl follow (.inr ⟨valve, rfl, clampNat_mem h.1.1 _⟩)

theorem actuatorOk_serviceExit {a : Actuator} (h : ConfigOk a.cfg) : ActuatorOk (serviceExit a) :=
  actuatorOk_outOfService h rfl rfl rfl rfl rfl

/-- The proof of a pump arrives (R13). -/
theorem ActuatorOk.started {a : Actuator} (h : ActuatorOk a) (hs : a.state = .starting) (t : Option Nat) :
    ActuatorOk { a with state := .running, proofTimer := t } := by
  obtain ⟨cfg, fits, command, acc, ramp, follow⟩ := h
  have := cfg.1
  unfold ActuatorOk StateFits CommandOk SlewOk at *
  cases hr : a.ramp <;> cases hf : a.follow <;> cases k : a.cfg.kind <;> simp_all

/-- The proof of a pump drops in DROP_WAIT (R15). -/
theorem ActuatorOk.stopped {a : Actuator} (h : ActuatorOk a) (hs : a.state = .stopping .dropWait) (t : Option Nat) :
    ActuatorOk { a with state := .stopped, command := 0, proofTimer := t } := by
  obtain ⟨cfg, fits, command, acc, ramp, follow⟩ := h
  unfold ActuatorOk StateFits CommandOk SlewOk at *
  cases hr : a.ramp <;> cases hf : a.follow <;> cases k : a.cfg.kind <;> simp_all

/-- An entry across a panel reset (R30). -/
theorem ActuatorOk.reset {a : Actuator} (h : ActuatorOk a) (captures : Table Capture 16) :
    ActuatorOk (resetActuator captures a) := by
  have still : ActuatorOk
      { a with
        state := resetService a.state, ramp := none, accumulator := 0, follow := none
        proofTimer := resetProofTimer a, deviationTimer := none, lostTimer := none
        feedback := resetFeedback captures a, slewTimer := slewInterval } := by
    obtain ⟨cfg, fits, command, acc, ramp, follow⟩ := h
    unfold ActuatorOk StateFits CommandOk SlewOk at *
    cases k : a.cfg.kind <;> rcases e : a.state with _ | _ | _ | _ | (_ | _) | _ | _ | _ <;> simp_all [resetService]
  refine ActuatorOk.supervise ?_
  unfold resumeSafe
  split
  · rename_i safe
    exact still.requestSafe safe.1 safe.2.1 _ _
  · exact still

/-! ### Configurations (R3, R4) -/

theorem range?_eq_some {lo hi n k : Nat} : range? lo hi n = some k ↔ (lo ≤ n ∧ n ≤ hi) ∧ n = k := by
  unfold range?; split <;> simp_all

theorem commonConfig?_ok {kind : Kind} {r : RawActuator} {c : ActConfig} (h : commonConfig? kind r = some c) :
    ConfigOk c := by
  simp only [commonConfig?, Option.bind_eq_some_iff, range?_eq_some] at h
  obtain ⟨g, -, min, ⟨hmin, rfl⟩, max, ⟨hmax, rfl⟩, maxRate, ⟨hmaxRate, rfl⟩, rate, ⟨hrate, rfl⟩, scope, -, p, -, f, -, h⟩ := h
  split at h
  · cases h
    unfold ConfigOk
    dsimp only
    omega
  · cases h

/-- A record that passes the range checks has its limits and rates in order (R3, R4). -/
theorem actWrite?_ok {r : RawActuator} {w : ActWrite} (h : actWrite? r = some w) : ConfigOk w.cfg := by
  unfold actWrite? at h
  split at h
  · cases h; exact configOk_powerOn
  · simp only [pumpConfig?, Option.bind_eq_some_iff, Option.map_eq_some_iff] at h
    obtain ⟨c, ⟨c', hc, d, -, t, -, rfl⟩, p, -, l, -, rfl⟩ := h
    have := commonConfig?_ok hc
    exact this
  · simp only [valveConfig?, Option.bind_eq_some_iff, Option.map_eq_some_iff] at h
    obtain ⟨c, ⟨c', hc, a, -, v, -, rfl⟩, p, -, l, -, rfl⟩ := h
    have := commonConfig?_ok hc
    exact this
  · cases h

end Sys2Proof.Machine
end

section
/-! SUPPORT. What every step keeps, as a relation between two states: one lemma for each elementary change that the machine is
made of. -/

namespace Sys2Proof.Machine

/-! ### The relation -/

/-- Every property of Safety but the ports' is kept from `s` to `t`. -/
structure Keeps (s t : State) : Prop where
  actuators : ActuatorsOk s → ActuatorsOk t
  outputs : OutputsFollow s → OutputsFollow t
  trip : TripHeld s → TripHeld t
  dispatch : DispatchOk s → DispatchOk t
  pressure : PressureOk s → PressureOk t
  stations : StationsOk s → StationsOk t

theorem Keeps.refl (s : State) : Keeps s s := ⟨id, id, id, id, id, id⟩

theorem Keeps.trans {s t u : State} (h : Keeps s t) (k : Keeps t u) : Keeps s u :=
  ⟨k.actuators ∘ h.actuators, k.outputs ∘ h.outputs, k.trip ∘ h.trip, k.dispatch ∘ h.dispatch, k.pressure ∘ h.pressure,
    k.stations ∘ h.stations⟩

/-- The fields that these properties speak of are the same. -/
structure SameCore (s t : State) : Prop where
  groupHolders : t.groupHolders = s.groupHolders
  slots : t.slots = s.slots
  executors : t.executors = s.executors
  actuators : t.actuators = s.actuators
  outputs : t.outputs = s.outputs
  ptrip : t.ptrip.asserted = s.ptrip.asserted
  stations : t.stations = s.stations
  governor : t.governor = s.governor

theorem SameCore.keeps {s t : State} (h : SameCore s t) : Keeps s t := by
  obtain ⟨holders, slots, executors, actuators, outputs, ptrip, stations, governor⟩ := h
  constructor <;>
    simp only [ActuatorsOk, OutputsFollow, TripHeld, DispatchOk, StartersHold, SlotsBelong, PressureOk, FollowersOk,
      StationsOk, holders, slots, executors, actuators, outputs, ptrip, stations, governor] <;> exact id

theorem keeps_setPort (m : Master) (p : Port) (s : State) : Keeps s (setPort m p s) :=
  SameCore.keeps (by constructor <;> simp)

theorem keeps_setFlag (m : Master) (f : Attention) (s : State) : Keeps s (setFlag m f s) := keeps_setPort ..

theorem keeps_setFlagBoth (f : Attention) (s : State) : Keeps s (setFlagBoth f s) :=
  (keeps_setFlag ..).trans (keeps_setFlag ..)

theorem keeps_freeCount (s : State) (k : Nat) : Keeps s { s with freeCount := k } :=
  SameCore.keeps ⟨rfl, rfl, rfl, rfl, rfl, rfl, rfl, rfl⟩

theorem keeps_pending (s : State) (is : List Instr) : Keeps s { s with pending := is } :=
  SameCore.keeps ⟨rfl, rfl, rfl, rfl, rfl, rfl, rfl, rfl⟩

theorem keeps_receiver (s : State) (r : StationReceiver) : Keeps s { s with receiver := r } :=
  SameCore.keeps ⟨rfl, rfl, rfl, rfl, rfl, rfl, rfl, rfl⟩

theorem keeps_putCapture (c : CaptureId) (x : Capture) (s : State) : Keeps s (putCapture c x s) :=
  SameCore.keeps ⟨rfl, rfl, rfl, rfl, rfl, rfl, rfl, rfl⟩

theorem keeps_putInput (d : InputId) (x : InputFilter) (s : State) : Keeps s (putInput d x s) :=
  SameCore.keeps ⟨rfl, rfl, rfl, rfl, rfl, rfl, rfl, rfl⟩

theorem keeps_foldl {α : Type} (act : State → α → State) (xs : List α) (s : State) (h : ∀ x t, Keeps t (act t x)) :
    Keeps s (xs.foldl act s) :=
  foldl_keeps (P := Keeps s) act xs s (fun x t k => k.trans (h x t)) (.refl s)

theorem keeps_takeInOpenOrder {α : Type} (act : α → State → State) (xs : List α) (s : State)
    (h : ∀ x t, Keeps t (act x t)) : Keeps s (takeInOpenOrder act xs s) :=
  takeInOpenOrder_keeps (P := Keeps s) act xs s (fun t k e => e.trans (keeps_freeCount t k)) (fun x _ t e => e.trans (h x t))
    (.refl s)

/-! ### Changes of the plant -/

/-- What a change of an entry from `a` to `b` in state `s` has to do with every property: it keeps the entry as it may be, and
it brings no actuator into service while PTRIP is asserted and lets none follow while the governor is OFF. -/
structure EntryKeeps (s : State) (a b : Actuator) : Prop where
  ok : ActuatorOk a → ActuatorOk b
  healthy : healthy b = true → healthy a = true ∨ s.ptrip.asserted = false
  follow : b.follow ≠ none → a.follow ≠ none ∨ s.governor.mode ≠ .off

theorem EntryKeeps.refl (s : State) (a : Actuator) : EntryKeeps s a a := ⟨id, .inl, .inl⟩

theorem healthy_iff {a : Actuator} : healthy a = true ↔ a.state ≠ .outOfService ∧ a.state ≠ .faulted := by
  simp [healthy, inService]

/-- Where neither the state nor the follow step comes anew, the entry alone matters. -/
theorem EntryKeeps.of_same {s : State} {a b : Actuator} (ok : ActuatorOk a → ActuatorOk b) (state : b.state = a.state)
    (follow : b.follow = a.follow) : EntryKeeps s a b :=
  ⟨ok, fun h => .inl (by simpa [Machine.healthy, inService, state] using h), fun h => .inl (by rwa [follow] at h)⟩

/-- The entry's timers, feedback and fault fields play no part. -/
theorem EntryKeeps.of_timers {s : State} {a b : Actuator} (cfg : b.cfg = a.cfg) (state : b.state = a.state)
    (command : b.command = a.command) (ramp : b.ramp = a.ramp) (accumulator : b.accumulator = a.accumulator)
    (follow : b.follow = a.follow) : EntryKeeps s a b :=
  .of_same (fun h => h.congr cfg state command ramp accumulator follow) state follow

theorem keeps_plant {s : State} {as : Table Actuator 16} {os : Table OutputChannel 16}
    (entries : ∀ n : ActId, EntryKeeps s s.actuators[n] as[n])
    (outputs : ∀ n : ActId, OutputFollows s.actuators[n] s.outputs[n] → OutputFollows as[n] os[n]) :
    Keeps s { s with actuators := as, outputs := os } where
  actuators h n := (entries n).ok (h n)
  outputs h n := outputs n (h n)
  trip h asserted := by
    obtain ⟨sick, idle⟩ := h asserted
    refine ⟨fun n => ?_, idle⟩
    cases e : healthy as[n] with
    | false => rfl
    | true =>
      rcases (entries n).healthy e with x | x
      · rw [sick n] at x; cases x
      · exact absurd asserted (by simp [x])
  dispatch h := h
  pressure h := by
    refine ⟨h.1, fun off n => ?_⟩
    by_contra follows
    rcases (entries n).follow follows with x | x
    · exact x (h.2 off n)
    · exact x off
  stations h := h

theorem keeps_putActuator {n : ActId} {a : Actuator} {s : State} (h : EntryKeeps s s.actuators[n] a) :
    Keeps s (putActuator n a s) := by
  refine keeps_plant (fun k => ?_) (fun k follows => ?_)
  · by_cases e : k = n
    · subst e
      rw [put_self]
      exact ⟨fun x => (h.ok x).supervise, fun x => h.healthy (by rwa [healthy_supervise] at x),
        fun x => h.follow (by rwa [supervise_follow] at x)⟩
    · rw [put_other _ e]
      exact .refl ..
  · by_cases e : k = n
    · subst e
      rw [put_self, put_self]
      have := outputFor_follows a s.outputs[k]
      simpa [OutputFollows, releases_supervise, runsOutput_supervise] using this
    · rwa [put_other _ e, put_other _ e]

/-- Timers of the entries, positions and periods of the channels. -/
theorem keeps_plant_time {s : State} {as : Table Actuator 16} {os : Table OutputChannel 16}
    (entries : ∀ n : ActId, as[n].cfg = s.actuators[n].cfg ∧ as[n].state = s.actuators[n].state ∧
      as[n].command = s.actuators[n].command ∧ as[n].ramp = s.actuators[n].ramp ∧
      as[n].accumulator = s.actuators[n].accumulator ∧ as[n].follow = s.actuators[n].follow)
    (outputs : ∀ n : ActId, os[n].condition = s.outputs[n].condition ∧ os[n].runOutput = s.outputs[n].runOutput ∧
      os[n].pendingDuty = s.outputs[n].pendingDuty ∧ nextPeriod os[n] = nextPeriod s.outputs[n]) :
    Keeps s { s with actuators := as, outputs := os } := by
  refine keeps_plant (fun n => ?_) (fun n follows => ?_)
  · obtain ⟨h1, h2, h3, h4, h5, h6⟩ := entries n
    exact .of_timers h1 h2 h3 h4 h5 h6
  · obtain ⟨h1, h2, h3, -, -, -⟩ := entries n
    obtain ⟨o1, o2, o3, o4⟩ := outputs n
    unfold OutputFollows releases runsOutput at *
    rwa [h1, h2, h3, o1, o2, o3, o4]

/-! ### Changes of claims, chains and slots -/

theorem keeps_dispatch {s : State} {hs : Table (Option Master) 5} {ks : Table Slot 128} {xs : Table Executor 5}
    (agree : DispatchOk s → DispatchOk { s with groupHolders := hs, slots := ks, executors := xs })
    (busy : ∀ g : GroupId, xs[g].state ≠ .idle → s.executors[g].state ≠ .idle ∨ s.ptrip.asserted = false) :
    Keeps s { s with groupHolders := hs, slots := ks, executors := xs } where
  actuators h := h
  outputs h := h
  trip h asserted := by
    obtain ⟨sick, idle⟩ := h asserted
    refine ⟨sick, fun g => ?_⟩
    by_contra runs
    rcases busy g runs with x | x
    · exact x (idle g)
    · exact absurd asserted (by simp [x])
  dispatch := agree
  pressure h := h
  stations h := h

/-- Chain records that keep their starters and whether they are IDLE. -/
theorem keeps_executors {s : State} {xs : Table Executor 5}
    (h : ∀ g : GroupId, xs[g].starter = s.executors[g].starter ∧ (xs[g].state = .idle ↔ s.executors[g].state = .idle)) :
    Keeps s { s with executors := xs } := by
  refine keeps_dispatch (s := s) (hs := s.groupHolders) (ks := s.slots) (fun ok => ⟨fun g runs => ?_, fun k => ?_⟩)
    fun g runs => .inl (mt (h g).2.2 runs)
  · have := ok.1 g (mt (h g).2.2 runs)
    simpa only [(h g).1] using this
  · have := ok.2 k
    dsimp only at this ⊢
    split at this <;> simp_all

theorem keeps_putExecutor {g : GroupId} {x : Executor} {s : State} (starter : x.starter = s.executors[g].starter)
    (state : x.state = .idle ↔ s.executors[g].state = .idle) : Keeps s (putExecutor g x s) := by
  refine keeps_executors fun k => ?_
  by_cases e : k = g
  · subst e; rw [put_self]; exact ⟨starter, state⟩
  · rw [put_other _ e]; exact ⟨rfl, Iff.rfl⟩

/-- Steps 3 and 4 of a chain end (R98): the group's slots are unbound and its chain record is IDLE. -/
theorem keeps_chainRecordEnded (g : GroupId) (o : ChainOutcome) (s : State) :
    Keeps s (putExecutor g (endedExecutor o (unbindSlots (· == g) s).executors[g]) (unbindSlots (· == g) s)) := by
  have other : ∀ k : GroupId, (put s.executors g (endedExecutor o s.executors[g]))[k].state ≠ .idle →
      k ≠ g ∧ (put s.executors g (endedExecutor o s.executors[g]))[k] = s.executors[k] := by
    intro k runs
    by_cases e : k = g
    · subst e; rw [put_self] at runs; exact absurd rfl runs
    · exact ⟨e, put_other _ e _⟩
  have fields : putExecutor g (endedExecutor o (unbindSlots (· == g) s).executors[g]) (unbindSlots (· == g) s) =
      { s with
        groupHolders := s.groupHolders, slots := (unbindSlots (· == g) s).slots
        executors := put s.executors g (endedExecutor o s.executors[g]) } := by
    simp only [putExecutor, unbindSlots]
  rw [fields]
  refine keeps_dispatch (fun ok => ⟨fun k runs => ?_, fun k => ?_⟩) fun k runs => .inl ?_
  · obtain ⟨-, same⟩ := other k runs
    dsimp only at runs ⊢
    rw [same] at runs ⊢
    exact ok.1 k runs
  · have belongs := ok.2 k
    have slot := unbindSlots_at (· == g) s k
    dsimp only
    rw [slot]
    generalize s.slots[k] = x at belongs ⊢
    obtain ⟨state, record⟩ := x
    cases state with
    | free => simpa [Unbound] using belongs
    | written w => trivial
    | bound w k =>
      by_cases e : k = g
      · simp [Unbound, e]
      · simpa [Unbound, e] using belongs
  · obtain ⟨-, same⟩ := other k runs
    rwa [same] at runs

/-! ### Changes of the governor and the stations -/

theorem keeps_governor {s : State} {g : Governor} (ok : GovernorOk s.governor → GovernorOk g)
    (off : g.mode = .off → s.governor.mode = .off) : Keeps s { s with governor := g } where
  actuators h := h
  outputs h := h
  trip h := h
  dispatch h := h
  pressure h := ⟨ok h.1, fun e => h.2 (off e)⟩
  stations h := h

theorem keeps_stations {s : State} {t : Table Station 8} (h : StationsOk s → StationsOk { s with stations := t }) :
    Keeps s { s with stations := t } where
  actuators h := h
  outputs h := h
  trip h := h
  dispatch h := h
  pressure h := h
  stations := h

end Sys2Proof.Machine
end

section
/-! SUPPORT. Chain ends, faults, chain execution and the reports of ACT keep what every step keeps (Chapters 1 and 4). -/

namespace Sys2Proof.Machine

/-! ### Chain ends (R98) -/

theorem entryKeeps_removeRamp {s : State} {a : Actuator} (h : chainRamp a = true) : EntryKeeps s a (removeRamp a) where
  ok ok := ok.removeRamp h
  healthy := by
    simp only [healthy_iff, removeRamp]
    by_cases e : a.state = .moving
    · simp [e]
    · simp only [if_neg e]; exact .inl
  follow := .inl

theorem keeps_removeChainRamps (g : GroupId) (s : State) : Keeps s (removeChainRamps g s) :=
  keeps_foldl _ _ _ fun n t => by
    split
    next h => exact keeps_putActuator (entryKeeps_removeRamp (by simp_all))
    next => exact .refl t

theorem keeps_tellStarter (g : GroupId) (o : Option Master) (t : State) :
    Keeps t (match o with | some m => setFlag m (.chainEnd g) t | none => t) := by
  split
  · exact keeps_setFlag ..
  · exact .refl t

theorem keeps_endChain (g : GroupId) (o : ChainOutcome) (s : State) : Keeps s (endChain g o s) := by
  have ramps : Keeps s (if o = .complete then s else removeChainRamps g s) := by
    split
    · exact .refl s
    · exact keeps_removeChainRamps g s
  have record := keeps_chainRecordEnded g o (if o = .complete then s else removeChainRamps g s)
  unfold endChain
  exact (ramps.trans record).trans (keeps_tellStarter ..)

theorem keeps_endIfRunning (g : GroupId) (o : ChainOutcome) (s : State) : Keeps s (endIfRunning g o s) := by
  unfold endIfRunning
  split
  · exact .refl s
  · exact keeps_endChain g o s

/-! ### Faults (R21 to R24) -/

theorem keeps_firstFault {n : ActId} {s : State} (h : healthy s.actuators[n] = true) (code : FaultCode) :
    Keeps s (firstFault code n s) := by
  obtain ⟨state, -, -, -, follow, -⟩ := faultEntry_taken code s.actuators[n]
  refine (keeps_putActuator ⟨fun ok => ok.faultEntry h code, fun e => ?_, fun e => ?_⟩).trans (keeps_setFlagBoth ..)
  · exact absurd state (healthy_iff.1 e).2
  · exact absurd follow e

theorem keeps_furtherFault (n : ActId) (s : State) : Keeps s (furtherFault n s) :=
  (keeps_putActuator (a := { s.actuators[n] with furtherFault := true }) (.of_timers rfl rfl rfl rfl rfl rfl)).trans
    (keeps_setFlagBoth ..)

theorem keeps_tripFault (code : FaultCode) (n : ActId) (s : State) : Keeps s (tripFault code n s) := by
  unfold tripFault
  split
  next h => exact keeps_firstFault h code
  next =>
    split
    · exact keeps_furtherFault n s
    · exact .refl s

theorem keeps_groupTrip (g : GroupId) (n : ActId) (s : State) : Keeps s (groupTrip g n s) :=
  (keeps_foldl _ _ _ fun k t => by
    split
    · exact keeps_tripFault ..
    · exact .refl t).trans (keeps_endIfRunning ..)

/-! ### Beginning a step (R77 to R89) -/

/-- The chain of a group runs or is halted. -/
def Runs (g : GroupId) (s : State) : Prop := s.executors[g].state ≠ .idle

/-- A chain record changed but for its state and starter. -/
theorem keeps_stepRecord {g : GroupId} {x : Executor} {s : State} (starter : x.starter = s.executors[g].starter)
    (state : x.state = s.executors[g].state) : Keeps s (putExecutor g x s) :=
  keeps_putExecutor starter (by rw [state])

/-- A chain record that runs on, or halts, or runs again (R76, R93, R95). -/
theorem keeps_runningRecord {g : GroupId} {x : Executor} {s : State} (h : Runs g s)
    (starter : x.starter = s.executors[g].starter) (state : x.state ≠ .idle) : Keeps s (putExecutor g x s) :=
  keeps_putExecutor starter (iff_of_false state h)

theorem keeps_waitFor (g : GroupId) (w : Waiting) (t : Option Nat) (s : State) : Keeps s (waitFor g w t s) :=
  keeps_stepRecord rfl rfl

theorem setCursor_record (x : Executor) (b : BaseCursor) (r : RowId) :
    (setCursor x b r).starter = x.starter ∧ (setCursor x b r).state = x.state := by
  cases b <;> exact ⟨rfl, rfl⟩

theorem updateCursor_record (x : Executor) (o : Operand) :
    (updateCursor x o).starter = x.starter ∧ (updateCursor x o).state = x.state := by
  unfold updateCursor
  split
  · exact setCursor_record ..
  · exact ⟨rfl, rfl⟩

theorem applyCursor_record (x : Executor) (c : CursorName) (action : CursorAction) (v : Half) :
    (applyCursor x c action v).starter = x.starter ∧ (applyCursor x c action v).state = x.state := by
  cases action <;> exact setCursor_record ..

theorem keeps_acceptStep (g : GroupId) (d : Descriptor) (s : State) : Keeps s (acceptStep g d s) :=
  keeps_stepRecord (updateCursor_record ..).1 (updateCursor_record ..).2

theorem keeps_afterLanding (g : GroupId) (n : ActId) (x : Int) (s : State) : Keeps s (afterLanding g n x s).1 := by
  unfold afterLanding
  split
  · exact .refl s
  · exact keeps_waitFor ..

/-- What the checks of R77 say of the actuator of a step that they accept. -/
theorem acceptanceFailure_none {g : GroupId} {op : Op} {s : State} (h : acceptanceFailure g op s = none) {n : ActId}
    (hn : op.actuator = some n) : healthy s.actuators[n] = true ∧ suits op s.actuators[n] = true := by
  unfold acceptanceFailure at h
  simp only [hn] at h
  split at h
  · cases h
  · split at h
    · cases h
    · simp_all

theorem acceptanceFailure_follow {g : GroupId} {n : ActId} {s : State} (h : acceptanceFailure g (.follow n) s = none) :
    s.governor.mode ≠ .off := by
  intro off
  unfold acceptanceFailure at h
  simp only [Op.actuator, if_pos off] at h
  split at h
  · cases h
  · split at h <;> cases h

/-- A ramp request leaves the entry in service and its follow step as they were (R34). -/
theorem requestRamp_frame (o : RampOrigin) (target : Int) (step : Nat) (p : Bool) (a : Actuator) :
    (requestRamp o target step p a).1.follow = a.follow ∧
      (healthy (requestRamp o target step p a).1 = true ↔ healthy a = true) := by
  simp only [healthy_iff]
  unfold requestRamp landRamp
  dsimp only
  split
  · split <;> simp_all
  · split
    · simp
    · refine ⟨rfl, ?_⟩
      dsimp only
      split <;> simp_all

theorem keeps_beginMove {g : GroupId} {n : ActId} {s : State} (h : healthy s.actuators[n] = true)
    (hs : s.actuators[n].state = .running ∨ s.actuators[n].state = .holding ∨ s.actuators[n].state = .moving)
    (x rate : Int) (w : Bool) : Keeps s (beginMove g n x rate w s).1 := by
  have request : Keeps s (putActuator n (requestRamp .move x (rateStep { s.actuators[n] with follow := none } rate)
      (permits { s.actuators[n] with follow := none } s) { s.actuators[n] with follow := none }).1 s) := by
    have frame := fun step => requestRamp_frame .move x step (permits { s.actuators[n] with follow := none } s)
      { s.actuators[n] with follow := none }
    refine keeps_putActuator ⟨fun ok => ok.unfollow.requestMove hs x rate _, fun _ => .inl h, fun e => ?_⟩
    exact absurd (frame _).1 e
  unfold beginMove
  dsimp only
  generalize requestRamp .move x _ _ _ = r at request ⊢
  obtain ⟨b, c⟩ := r
  cases c <;> dsimp only at request ⊢
  · split
    · exact request.trans (keeps_afterLanding ..)
    · exact request
  · split
    · exact request.trans (keeps_waitFor ..)
    · exact request
  · split
    · exact keeps_firstFault h _
    · exact (keeps_firstFault h _).trans (keeps_groupTrip ..)

theorem keeps_beginStart {g : GroupId} {n : ActId} {s : State} (h : healthy s.actuators[n] = true)
    (hs : s.actuators[n].state = .stopped) : Keeps s (beginStart g n s).1 := by
  have start : ∀ b, Keeps s (putActuator n (startEntry b s.actuators[n]) s) := fun b =>
    keeps_putActuator ⟨fun ok => ok.startEntry hs b, fun _ => .inl h, .inl⟩
  unfold beginStart
  dsimp only
  split
  · exact start _
  · exact (start _).trans (keeps_waitFor ..)

theorem keeps_beginStop {g : GroupId} {n : ActId} {s : State} (h : healthy s.actuators[n] = true)
    (hs : s.actuators[n].state = .running) (rate : Int) : Keeps s (beginStop g n rate s).1 := by
  refine Keeps.trans (t := putActuator n (stopEntry rate s.actuators[n]) s) (keeps_putActuator ?_) (keeps_waitFor ..)
  exact ⟨fun ok => ok.stopEntry hs rate, fun _ => .inl h, fun e => absurd (requestRamp_frame ..).1 e⟩

theorem keeps_beginFollow {n : ActId} {s : State} (h : healthy s.actuators[n] = true)
    (hs : s.actuators[n].state = .running) (on : s.governor.mode ≠ .off) (rate : Int) :
    Keeps s (beginFollow n rate s).1 :=
  keeps_putActuator ⟨fun ok => ok.followEntry hs rate, fun _ => .inl h, fun _ => .inr on⟩

theorem keeps_beginStep {g : GroupId} {op : Op} {s : State} (h : acceptanceFailure g op s = none) (r : Retained) :
    Keeps s (beginStep g op r s).1 := by
  have accepted := fun n => acceptanceFailure_none h (n := n)
  cases op with
  | move n rate wait =>
    obtain ⟨well, suited⟩ := accepted n rfl
    exact keeps_beginMove well (by simpa [suits, or_assoc] using suited) _ _ _
  | start n =>
    obtain ⟨well, suited⟩ := accepted n rfl
    exact keeps_beginStart well (by simpa [suits] using suited)
  | stop n =>
    obtain ⟨well, suited⟩ := accepted n rfl
    exact keeps_beginStop well (by simpa [suits] using suited) _
  | follow n =>
    obtain ⟨well, suited⟩ := accepted n rfl
    exact keeps_beginFollow well (by simpa [suits] using suited) (acceptanceFailure_follow h) _
  | dwell => exact keeps_waitFor ..
  | awaitInput d level t =>
    dsimp only [beginStep]
    split
    · exact .refl s
    · exact keeps_waitFor ..
  | awaitMeas => exact keeps_waitFor ..
  | cursor => exact keeps_stepRecord (applyCursor_record ..).1 (applyCursor_record ..).2

/-- The chain of a step that begins runs on, unless a group trip has ended it (R80). -/
theorem runs_waitFor {g k : GroupId} {w : Waiting} {t : Option Nat} {s : State} (h : Runs k s) :
    Runs k (waitFor g w t s) := by
  unfold Runs waitFor at *
  rw [putExecutor_executors, get_put]
  split
  · rename_i e; subst e; exact h
  · exact h

theorem runs_beginStep {g : GroupId} {op : Op} {r : Retained} {s : State} (h : Runs g s)
    (live : (beginStep g op r s).2 ≠ .ended) : Runs g (beginStep g op r s).1 := by
  have plant : ∀ n a, Runs g (putActuator n a s) := fun _ _ => h
  cases op with
  | move n rate wait =>
    simp only [beginStep, beginMove] at live ⊢
    split at live
    · unfold afterLanding
      split
      · split
        · exact h
        · exact runs_waitFor h
      · exact h
    · split
      · exact runs_waitFor h
      · exact h
    · split
      · exact h
      · simp_all
  | start n =>
    simp only [beginStep, beginStart]
    split
    · exact h
    · exact runs_waitFor h
  | stop n => exact runs_waitFor h
  | follow n => exact h
  | dwell => exact runs_waitFor h
  | awaitInput d level t =>
    dsimp only [beginStep]
    split
    · exact h
    · exact runs_waitFor h
  | awaitMeas => exact runs_waitFor h
  | cursor c action =>
    unfold Runs at *
    simp only [beginStep, putExecutor_executors]
    rw [put_self, (applyCursor_record ..).2]
    exact h

/-! ### Completion, failure and the run (R76, R90 to R93) -/

/-- What is left of a step keeps what every step keeps, and where it names a slot to go on with, the chain runs. -/
structure GoesOn (g : GroupId) (s : State) (p : State × Option SlotId) : Prop where
  keeps : Keeps s p.1
  runs : ∀ k, p.2 = some k → Runs g p.1

theorem GoesOn.after {g : GroupId} {s t : State} {p : State × Option SlotId} (h : GoesOn g t p) (k : Keeps s t) :
    GoesOn g s p := ⟨k.trans h.keeps, h.runs⟩

theorem goesOn_stop {g : GroupId} {s t : State} (h : Keeps s t) : GoesOn g s (t, none) := ⟨h, fun _ e => nomatch e⟩

theorem goesOn_next {g : GroupId} {s t : State} (h : Keeps s t) (runs : Runs g t) (k : SlotId) :
    GoesOn g s (t, some k) := ⟨h, fun _ _ => runs⟩

theorem goesOn_completeStep {g : GroupId} {s : State} (h : Runs g s) : GoesOn g s (completeStep g s) := by
  unfold completeStep
  split
  · exact goesOn_stop (.refl s)
  · split
    · exact goesOn_stop (keeps_endChain ..)
    · exact goesOn_next (.refl s) h _

theorem keeps_haltChain {g : GroupId} {s : State} (h : Runs g s) (accepted : Bool) : Keeps s (haltChain g accepted s) := by
  have halted : Keeps s (putExecutor g
      { s.executors[g] with state := .halted, waiting := none, timer := none, currentAccepted := some accepted } s) :=
    keeps_runningRecord h rfl (by simp)
  unfold haltChain
  dsimp only
  split
  · exact halted.trans (keeps_setFlag ..)
  · exact halted

theorem runs_putExecutor {g : GroupId} {x : Executor} {s : State} (h : x.state ≠ .idle) : Runs g (putExecutor g x s) := by
  unfold Runs; rwa [putExecutor_executors, put_self]

theorem goesOn_failStep {g : GroupId} {s : State} (h : Runs g s) (reason : FailReason) (stage : FailStage)
    (accepted : Bool) : GoesOn g s (failStep g reason stage accepted s) := by
  unfold failStep
  split
  · exact goesOn_stop (.refl s)
  next k _ =>
    have record : Keeps s (putExecutor g
        { s.executors[g] with
          lastFailure := some { slot := k, reason := reason, stage := stage }, waiting := none, timer := none } s) :=
      keeps_stepRecord rfl rfl
    have runs : Runs g (putExecutor g
        { s.executors[g] with
          lastFailure := some { slot := k, reason := reason, stage := stage }, waiting := none, timer := none } s) :=
      runs_putExecutor h
    dsimp only
    split
    · exact goesOn_stop (record.trans (keeps_haltChain runs _))
    · split
      · exact goesOn_stop (record.trans (keeps_endChain ..))
      · exact goesOn_next record runs _
    · exact goesOn_stop (record.trans (keeps_endChain ..))
    · exact goesOn_next record runs _
    · exact goesOn_stop (record.trans (keeps_endChain ..))

theorem goesOn_settleStep {g : GroupId} {s : State} {p : State × Progress} (h : Keeps s p.1)
    (runs : p.2 ≠ .ended → Runs g p.1) : GoesOn g s (settleStep g p) := by
  obtain ⟨t, progress⟩ := p
  cases progress with
  | waits => exact goesOn_stop h
  | completes => exact (goesOn_completeStep (runs (by simp))).after h
  | fails r => exact (goesOn_failStep (runs (by simp)) ..).after h
  | ended => exact goesOn_stop h

/-- The checks of R77 do not look at the chain record. -/
theorem acceptanceFailure_putExecutor (g k : GroupId) (op : Op) (x : Executor) (s : State) :
    acceptanceFailure g op (putExecutor k x s) = acceptanceFailure g op s := rfl

theorem goesOn_takeSlot {g : GroupId} {s : State} (h : Runs g s) (k : SlotId) : GoesOn g s (takeSlot g k s) := by
  have record : Keeps s (putExecutor g
      { s.executors[g] with
        state := .active, current := some k, waiting := none, timer := none, currentAccepted := none } s) :=
    keeps_runningRecord h rfl (by simp)
  have runs : Runs g (putExecutor g
      { s.executors[g] with
        state := .active, current := some k, waiting := none, timer := none, currentAccepted := none } s) :=
    runs_putExecutor (by simp)
  unfold takeSlot
  dsimp only
  generalize putExecutor g _ s = t at record runs ⊢
  split
  · exact (goesOn_failStep runs ..).after record
  next accepted =>
    have accepts := keeps_acceptStep g s.slots[k].record t
    have begins := runs_putExecutor (g := g) (s := t)
      (x := { updateCursor t.executors[g] s.slots[k].record.operand with
        retained := some (fetch t.profile t.executors[g] s.slots[k].record), stepCount := t.executors[g].stepCount + 1 })
      (by dsimp only; rw [(updateCursor_record ..).2]; exact runs)
    exact (goesOn_settleStep (keeps_beginStep (s := acceptStep g _ t) accepted _) (runs_beginStep begins)).after
      (record.trans accepts)

theorem keeps_runFrom (fuel : Nat) {g : GroupId} {s : State} (h : Runs g s) (k : SlotId) :
    Keeps s (runFrom fuel g k s) := by
  induction fuel generalizing k s with
  | zero => exact .refl s
  | succ fuel ih =>
    have taken := goesOn_takeSlot h k
    unfold runFrom
    split
    next e => rw [e] at taken; exact taken.keeps
    next e => rw [e] at taken; exact taken.keeps.trans (ih (taken.runs _ rfl) _)

theorem GoesOn.proceed {g : GroupId} {s : State} {p : State × Option SlotId} (h : GoesOn g s p) : Keeps s (proceed g p) := by
  obtain ⟨t, next⟩ := p
  cases next with
  | none => exact h.keeps
  | some k => exact h.keeps.trans (keeps_runFrom _ (h.runs k rfl) k)

theorem keeps_completeAndProceed {g : GroupId} {s : State} (h : Runs g s) : Keeps s (completeAndProceed g s) :=
  (goesOn_completeStep h).proceed

theorem keeps_failAndProceed {g : GroupId} {s : State} (h : Runs g s) (reason : FailReason) :
    Keeps s (failAndProceed g reason s) := (goesOn_failStep h ..).proceed

/-! ### Reports (R25) -/

theorem runs_of_active {g : GroupId} {s : State} (h : s.executors[g].state = .active) : Runs g s := by
  unfold Runs; rw [h]; decide

theorem runs_of_waitsOn {g : GroupId} {n : ActId} {w : Waiting} {s : State} (h : waitsOn g n w s = true) : Runs g s := by
  unfold waitsOn at h
  exact runs_of_active (by simp_all)

theorem keeps_reportLanded (n : ActId) (s : State) : Keeps s (reportLanded n s) := by
  unfold reportLanded
  split
  · exact .refl s
  · split
    next waits =>
      refine (goesOn_settleStep (keeps_afterLanding ..) fun _ => ?_).proceed
      unfold afterLanding
      split
      · exact runs_of_waitsOn waits
      · exact runs_waitFor (runs_of_waitsOn waits)
    next => exact .refl s

theorem keeps_reportFeedback (n : ActId) (s : State) : Keeps s (reportFeedback n s) := by
  unfold reportFeedback
  split
  · exact .refl s
  · split
    next waits => exact keeps_completeAndProceed (runs_of_waitsOn (Bool.and_eq_true _ _ ▸ waits).1)
    next => exact .refl s

theorem keeps_reportStarted (n : ActId) (s : State) : Keeps s (reportStarted n s) := by
  unfold reportStarted
  split
  · exact .refl s
  · split
    next waits => exact keeps_completeAndProceed (runs_of_waitsOn waits)
    next => exact .refl s

theorem keeps_reportStopped (n : ActId) (s : State) : Keeps s (reportStopped n s) := by
  unfold reportStopped
  split
  · exact .refl s
  · split
    next waits => exact keeps_completeAndProceed (runs_of_waitsOn waits)
    next => exact .refl s

theorem keeps_reportFault (n : ActId) (code : FaultCode) (s : State) : Keeps s (reportFault n code s) := by
  unfold reportFault
  split
  · exact .refl s
  · split
    next waits => exact keeps_failAndProceed (runs_of_waitsOn waits) _
    next =>
      split
      next waits => exact keeps_failAndProceed (runs_of_waitsOn waits) _
      next =>
        split
        next waits =>
          rcases Bool.or_eq_true _ _ ▸ waits with w | w <;> exact keeps_failAndProceed (runs_of_waitsOn w) _
        next => exact .refl s

theorem keeps_reportSafeLanding (a : Actuator) (n : ActId) (s : State) : Keeps s (reportSafeLanding a n s) := by
  unfold reportSafeLanding
  split
  · exact keeps_reportLanded ..
  · exact .refl s

theorem keeps_reportSafeLandings (u s : State) : Keeps s (reportSafeLandings u s) :=
  keeps_foldl _ _ _ fun n t => by
    split
    · exact keeps_reportSafeLanding ..
    · exact .refl t

theorem keeps_raiseFault (code : FaultCode) (n : ActId) (s : State) : Keeps s (raiseFault code n s) := by
  unfold raiseFault
  split
  next h =>
    have first := keeps_firstFault h code
    dsimp only
    split
    · exact (first.trans (keeps_groupTrip ..)).trans (keeps_reportSafeLandings ..)
    · exact (first.trans (keeps_reportFault ..)).trans (keeps_reportSafeLanding ..)
  next => exact .refl s

/-! ### Resuming (R95, R96) -/

theorem keeps_retryChain {g : GroupId} {s : State} (h : Runs g s) : Keeps s (retryChain g s) := by
  have record : Keeps s (putExecutor g { s.executors[g] with state := .active, currentAccepted := none } s) :=
    keeps_runningRecord h rfl (by simp)
  have runs : Runs g (putExecutor g { s.executors[g] with state := .active, currentAccepted := none } s) :=
    runs_putExecutor (by simp)
  unfold retryChain
  dsimp only
  generalize putExecutor g _ s = t at record runs ⊢
  split
  · refine record.trans (GoesOn.proceed ?_)
    unfold retryAccepted
    split
    · dsimp only
      split
      · exact goesOn_failStep runs ..
      next accepted => exact goesOn_settleStep (keeps_beginStep accepted _) (runs_beginStep runs)
    · exact goesOn_stop (.refl t)
  · exact record.trans (goesOn_next (.refl t) runs _).proceed
  · exact record

theorem keeps_skipChain {g : GroupId} {s : State} (h : Runs g s) : Keeps s (skipChain g s) :=
  have record : Keeps s (putExecutor g { s.executors[g] with state := .active, currentAccepted := none } s) :=
    keeps_runningRecord h rfl (by simp)
  ((goesOn_completeStep (runs_putExecutor (by simp))).after record).proceed

end Sys2Proof.Machine
end

section
/-! SUPPORT. The validation walk of RUN CHAIN (R72, R73): what it has found at every moment, and what a refusal says. -/

namespace Sys2Proof.Machine

section Walk

variable (m : Master) (g : GroupId) (start : SlotId) (s : State)

/-- What the walk has found while it stands below the slots of `path`: the slots `seen`, of which those that are not on the path
are done, with every link of theirs done too and along it a smaller number. -/
structure Walked (path seen : List SlotId) : Prop where
  nodup : seen.Nodup
  few : seen.length ≤ 32
  pathNodup : path.Nodup
  pathSeen : path ⊆ seen
  fit : ∀ j ∈ seen, Leads s start j ∧ s.slots[j].state = .written m ∧ invalidForm g s.slots[j].record s = false
  links : ∀ j ∈ seen, j ∉ path → ∀ l ∈ linksOf s.slots[j].record, l ∈ seen ∧ l ∉ path
  ranked : ∃ rank : SlotId → Nat, ∀ j ∈ seen, j ∉ path → ∀ l ∈ linksOf s.slots[j].record, rank l < rank j

/-- What a refusal of the walk says of the slot that it names (R73). -/
def RefusalSays (c : RefusalCode) (j : SlotId) : Prop :=
  Leads s start j ∧
    ((c = .chainTooLong ∧ ∃ js : List SlotId, js.Nodup ∧ js.length = 33 ∧ j ∈ js ∧ ∀ i ∈ js, Leads s start i) ∨
      (c = .unwrittenSlot ∧ s.slots[j].state = .free) ∨
      (c = .foreignSlot ∧ slotWriter s.slots[j].state = some m.other) ∨
      (c = .bound ∧ ∃ h, s.slots[j].state = .bound m h) ∨
      (c = .invalidForm ∧ s.slots[j].state = .written m ∧ invalidForm g s.slots[j].record s = true) ∨
      (c = .chainLoop ∧ ∃ l ∈ linksOf s.slots[j].record, Leads s l j))

/-- What an answer of the walk says that was asked for the slots `ks` with `seen` found before. -/
def WalkSays (path seen ks : List SlotId) : Except (RefusalCode × SlotId) (List SlotId) → Prop
  | .ok acc => Walked m g start s path acc ∧ seen ⊆ acc ∧ ∀ k ∈ ks, k ∈ acc ∧ k ∉ path
  | .error (c, j) => RefusalSays m g start s c j

/-- One link of slot `k` followed below the path that leads to it (R72). -/
def followLink (fuel : Nat) (path : List SlotId) (k : SlotId) (acc : List SlotId) (l : SlotId) :
    Except (RefusalCode × SlotId) (List SlotId) :=
  if l ∈ k :: path then .error (.chainLoop, k)
  else if l ∈ acc then .ok acc
  else walk m g s fuel (k :: path) acc l

variable {m g start s}

/-- The walk examines its slot and follows the links of it in turn. -/
theorem walk_succ (fuel : Nat) (path seen : List SlotId) (k : SlotId) :
    walk m g s (fuel + 1) path seen k =
      match unfitSlot m g seen.length s.slots[k] s with
      | some c => .error (c, k)
      | none => (linksOf s.slots[k].record).foldlM (followLink m g s fuel path k) (k :: seen) := by
  rw [walk]; rfl

theorem ne_master {w m : Master} (h : w ≠ m) : w = m.other := by
  cases w <;> cases m <;> first | rfl | exact absurd rfl h

/-- A slot that passes the checks of R73. -/
theorem unfitSlot_none {n : Nat} {x : Slot} (h : unfitSlot m g n x s = none) :
    n < 32 ∧ x.state = .written m ∧ invalidForm g x.record s = false := by
  unfold unfitSlot at h
  split at h
  · cases h
  · refine ⟨by omega, ?_⟩
    split at h
    · cases h
    · split at h
      · cases h
      · split at h
        · cases h
        · simp_all
    · split at h <;> cases h

/-- A slot that fails one of the checks of R73. -/
theorem refusalSays_unfitSlot {path seen : List SlotId} {k : SlotId} {c : RefusalCode} (w : Walked m g start s path seen)
    (new : k ∉ seen) (leads : Leads s start k) (h : unfitSlot m g seen.length s.slots[k] s = some c) :
    RefusalSays m g start s c k := by
  refine ⟨leads, ?_⟩
  unfold unfitSlot at h
  split at h
  next long =>
    cases h
    have := w.few
    refine .inl ⟨rfl, k :: seen, List.nodup_cons.2 ⟨new, w.nodup⟩, by rw [List.length_cons]; omega, List.mem_cons_self, ?_⟩
    intro i hi
    rcases List.mem_cons.1 hi with rfl | hi
    · exact leads
    · exact (w.fit i hi).1
  next =>
    split at h
    next e => cases h; exact .inr (.inl ⟨rfl, e⟩)
    next w e =>
      split at h
      next other => cases h; exact .inr (.inr (.inl ⟨rfl, by rw [e, ne_master other]; rfl⟩))
      next own =>
        obtain rfl : w = m := not_not.1 own
        split at h
        next invalid => cases h; exact .inr (.inr (.inr (.inr (.inl ⟨rfl, e, invalid⟩))))
        next => cases h
    next w b e =>
      split at h
      next other => cases h; exact .inr (.inr (.inl ⟨rfl, by rw [e, ne_master other]; rfl⟩))
      next own =>
        obtain rfl : w = m := not_not.1 own
        cases h
        exact .inr (.inr (.inr (.inl ⟨rfl, b, e⟩)))

/-- A fit slot that is not done yet comes onto the path. -/
theorem Walked.enter {path seen : List SlotId} {k : SlotId} (w : Walked m g start s path seen) (new : k ∉ seen)
    (leads : Leads s start k) (fit : unfitSlot m g seen.length s.slots[k] s = none) :
    Walked m g start s (k :: path) (k :: seen) := by
  obtain ⟨short, written, valid⟩ := unfitSlot_none fit
  have before : ∀ j ∈ k :: seen, j ∉ k :: path → j ∈ seen ∧ j ∉ path := by
    intro j hj hp
    rw [List.mem_cons, not_or] at hp
    exact ⟨(List.mem_cons.1 hj).resolve_left hp.1, hp.2⟩
  refine ⟨List.nodup_cons.2 ⟨new, w.nodup⟩, by rw [List.length_cons]; omega,
    List.nodup_cons.2 ⟨fun h => new (w.pathSeen h), w.pathNodup⟩, List.cons_subset_cons _ w.pathSeen, ?_, ?_, ?_⟩
  · intro j hj
    rcases List.mem_cons.1 hj with rfl | hj
    · exact ⟨leads, written, valid⟩
    · exact w.fit j hj
  · intro j hj hp l hl
    obtain ⟨hj, hp⟩ := before j hj hp
    obtain ⟨hs, hn⟩ := w.links j hj hp l hl
    refine ⟨List.mem_cons_of_mem _ hs, ?_⟩
    rw [List.mem_cons, not_or]
    exact ⟨fun e => new (e ▸ hs), hn⟩
  · obtain ⟨rank, h⟩ := w.ranked
    exact ⟨rank, fun j hj hp => h j (before j hj hp).1 (before j hj hp).2⟩

/-- A slot of which every link is done is done. -/
theorem Walked.leave {path seen : List SlotId} {k : SlotId} (w : Walked m g start s (k :: path) seen)
    (done : ∀ l ∈ linksOf s.slots[k].record, l ∈ seen ∧ l ∉ k :: path) : Walked m g start s path seen := by
  have links : ∀ j ∈ seen, j ∉ path → ∀ l ∈ linksOf s.slots[j].record, l ∈ seen ∧ l ∉ k :: path := by
    intro j hj hp l hl
    by_cases e : j = k
    · subst e; exact done l hl
    · exact w.links j hj (by simp [e, hp]) l hl
  refine ⟨w.nodup, w.few, (List.nodup_cons.1 w.pathNodup).2, fun i hi => w.pathSeen (List.mem_cons_of_mem _ hi), w.fit,
    fun j hj hp l hl => ?_, ?_⟩
  · obtain ⟨hs, hn⟩ := links j hj hp l hl
    exact ⟨hs, fun h => hn (List.mem_cons_of_mem _ h)⟩
  · obtain ⟨rank, h⟩ := w.ranked
    refine ⟨fun j => if j = k then (seen.map rank).sum + 1 else rank j, fun j hj hp l hl => ?_⟩
    obtain ⟨hs, hn⟩ := links j hj hp l hl
    have hl' : l ≠ k := fun e => hn (by simp [e])
    dsimp only
    rw [if_neg hl']
    by_cases e : j = k
    · rw [if_pos e]
      exact Nat.lt_succ_of_le (List.single_le_sum (by simp) _ (List.mem_map_of_mem hs))
    · rw [if_neg e]
      exact h j hj (by simp [e, hp]) l hl

/-- The walk from a slot that is not done yet (R72). -/
theorem walkSays_walk (fuel : Nat) (path seen : List SlotId) (k : SlotId) (limit : path.length + fuel = 33)
    (w : Walked m g start s path seen) (new : k ∉ seen) (leads : Leads s start k) (below : ∀ i ∈ path, Leads s i k) :
    WalkSays m g start s path seen [k] (walk m g s fuel path seen k) := by
  induction fuel generalizing path seen k with
  | zero =>
    have := (w.pathNodup.subperm w.pathSeen).length_le
    have := w.few
    omega
  | succ fuel ih =>
    rw [walk_succ]
    split
    next c unfit => exact refusalSays_unfitSlot w new leads unfit
    next fit =>
      have entered := w.enter new leads fit
      have under : ∀ i ∈ k :: path, Leads s i k := fun i hi => by
        rcases List.mem_cons.1 hi with rfl | hi
        · exact Relation.ReflTransGen.refl
        · exact below i hi
      have all : ∀ (ls acc : List SlotId), ls ⊆ linksOf s.slots[k].record → Walked m g start s (k :: path) acc →
          WalkSays m g start s (k :: path) acc ls (ls.foldlM (followLink m g s fuel path k) acc) := by
        intro ls
        induction ls with
        | nil => exact fun acc _ w => ⟨w, fun _ h => h, by simp⟩
        | cons l ls ihl =>
          intro acc sub w
          have hl : l ∈ linksOf s.slots[k].record := sub List.mem_cons_self
          rw [List.foldlM_cons]
          by_cases loop : l ∈ k :: path
          · rw [followLink, if_pos loop]
            exact ⟨leads, .inr (.inr (.inr (.inr (.inr ⟨rfl, l, hl, under l loop⟩))))⟩
          have first : WalkSays m g start s (k :: path) acc [l] (followLink m g s fuel path k acc l) := by
            rw [followLink, if_neg loop]
            split
            next done => exact ⟨w, fun _ h => h, by simpa [done] using loop⟩
            next new =>
              exact ih (k :: path) acc l (by rw [List.length_cons]; omega) w new (leads_link leads hl)
                fun i hi => leads_link (under i hi) hl
          generalize followLink m g s fuel path k acc l = r at first ⊢
          cases r with
          | error e => exact first
          | ok acc' =>
            obtain ⟨w', grows, done⟩ := first
            have rest := ihl acc' (fun i hi => sub (List.mem_cons_of_mem _ hi)) w'
            change WalkSays m g start s (k :: path) acc (l :: ls) (ls.foldlM (followLink m g s fuel path k) acc')
            generalize ls.foldlM (followLink m g s fuel path k) acc' = r at rest ⊢
            cases r with
            | error e => exact rest
            | ok acc'' =>
              obtain ⟨w'', grows', done'⟩ := rest
              refine ⟨w'', fun i hi => grows' (grows hi), fun i hi => ?_⟩
              rcases List.mem_cons.1 hi with rfl | hi
              · obtain ⟨hin, hoff⟩ := done i List.mem_cons_self
                exact ⟨grows' hin, hoff⟩
              · exact done' i hi
      have found := all _ _ (fun _ h => h) entered
      generalize (linksOf s.slots[k].record).foldlM (followLink m g s fuel path k) (k :: seen) = r at found ⊢
      cases r with
      | error e => exact found
      | ok acc =>
        obtain ⟨w', grows, done⟩ := found
        refine ⟨w'.leave done, fun i hi => grows (List.mem_cons_of_mem _ hi), fun i hi => ?_⟩
        obtain rfl : i = k := by simpa using hi
        exact ⟨grows List.mem_cons_self, fun h => new (w.pathSeen h)⟩

/-- The reachable set of a start slot, or the refusal of the chain (R72, R73). -/
theorem walkSays_reachable (m : Master) (g : GroupId) (k : SlotId) (s : State) :
    WalkSays m g k s [] [] [k] (reachable m g k s) :=
  walkSays_walk 33 [] [] k rfl ⟨.nil, by simp, .nil, fun _ h => h, by simp, by simp, 0, by simp⟩ (by simp)
    Relation.ReflTransGen.refl (by simp)

theorem reachable_ok {k : SlotId} {ks : List SlotId} (h : reachable m g k s = .ok ks) :
    Walked m g k s [] ks ∧ k ∈ ks := by
  have answer := walkSays_reachable m g k s
  rw [h] at answer
  obtain ⟨w, -, found⟩ := answer
  exact ⟨w, (found k List.mem_cons_self).1⟩

theorem reachable_error {k j : SlotId} {c : RefusalCode} (h : reachable m g k s = .error (c, j)) :
    RefusalSays m g k s c j := by
  have answer := walkSays_reachable m g k s
  rwa [h] at answer

end Walk

end Sys2Proof.Machine
end

section
/-! SUPPORT. The field side, the governor and the station line keep what every step keeps (Chapters 1, 2, 6, 7 and 8). -/

namespace Sys2Proof.Machine

theorem keeps_ite {c : Prop} [Decidable c] {s t u : State} (h : Keeps s t) (k : Keeps s u) :
    Keeps s (if c then t else u) := by
  split
  · exact h
  · exact k

/-! ### Discrete inputs (R13 to R17, R165) -/

theorem keeps_takeProof (n : ActId) (level : Bool) (s : State) : Keeps s (takeProof n level s) := by
  unfold takeProof
  dsimp only
  split
  next e =>
    refine Keeps.trans (t := putActuator n { s.actuators[n] with state := .running, proofTimer := none } s)
      (keeps_putActuator ⟨fun ok => ok.started e _, fun _ => .inl ?_, .inl⟩) (keeps_reportStarted ..)
    rw [healthy_iff, e]; decide
  · exact keeps_raiseFault ..
  · exact keeps_raiseFault ..
  next e =>
    refine Keeps.trans (t := putActuator n { s.actuators[n] with state := .stopped, command := 0, proofTimer := none } s)
      (keeps_putActuator ⟨fun ok => ok.stopped e _, fun _ => .inl ?_, .inl⟩) (keeps_reportStopped ..)
    rw [healthy_iff, e]; decide
  · exact .refl s

theorem runs_of_awaitsInput {g : GroupId} {d : InputId} {level : Bool} {s : State} (h : awaitsInput g d level s = true) :
    Runs g s := by
  unfold awaitsInput at h
  exact runs_of_active (by simp_all)

theorem keeps_takeInputUse (d : InputId) (level : Bool) (u : InputUse) (s : State) :
    Keeps s (takeInputUse d level u s) := by
  cases u with
  | proof n => exact keeps_takeProof ..
  | permissive n =>
    dsimp only [takeInputUse, takePermissive]
    split
    · exact keeps_raiseFault ..
    · exact .refl s
  | wait g =>
    dsimp only [takeInputUse]
    split
    next waits => exact keeps_completeAndProceed (runs_of_awaitsInput waits)
    next => exact .refl s

theorem keeps_handInputChange (d : InputId) (level : Bool) (s : State) : Keeps s (handInputChange d level s) :=
  keeps_takeInOpenOrder _ _ _ fun u t => keeps_takeInputUse d level u t

theorem keeps_changeInput (d : InputId) (level : Bool) (s : State) : Keeps s (changeInput d level s) := by
  unfold changeInput
  dsimp only
  split
  · exact .refl s
  · exact (keeps_putInput ..).trans (keeps_handInputChange ..)

theorem keeps_judgeInput (d : InputId) (s : State) : Keeps s (judgeInput d s) := by
  unfold judgeInput
  dsimp only
  split
  · exact keeps_changeInput ..
  · exact .refl s

theorem keeps_changeRaw (d : InputId) (level : Bool) (s : State) : Keeps s (changeRaw d level s) := by
  unfold changeRaw
  dsimp only
  split
  · exact .refl s
  · exact (keeps_putInput ..).trans (keeps_judgeInput ..)

/-! ### Acts on one actuator each -/

/-- Acts on actuators, each of which touches its own entry and channel alone and looks at nothing else of the plant, taken one
after another: every actuator of the list stands as its own act leaves it, and every other as it stood. -/
theorem foldl_own {act : State → ActId → State}
    (own : ∀ t k n, n ≠ k → (act t k).actuators[n] = t.actuators[n] ∧ (act t k).outputs[n] = t.outputs[n])
    (same : ∀ t u (k : ActId), u.actuators[k] = t.actuators[k] → u.outputs[k] = t.outputs[k] →
      (act u k).actuators[k] = (act t k).actuators[k] ∧ (act u k).outputs[k] = (act t k).outputs[k])
    (xs : List ActId) (hx : xs.Nodup) (s : State) (n : ActId) :
    (xs.foldl act s).actuators[n] = (if n ∈ xs then (act s n).actuators[n] else s.actuators[n]) ∧
      (xs.foldl act s).outputs[n] = if n ∈ xs then (act s n).outputs[n] else s.outputs[n] := by
  induction xs generalizing s with
  | nil => exact ⟨rfl, rfl⟩
  | cons k xs ih =>
    obtain ⟨hk, hx⟩ := List.nodup_cons.1 hx
    obtain ⟨rest, rest'⟩ := ih hx (act s k)
    rw [List.foldl_cons, rest, rest']
    by_cases e : n = k
    · subst e
      rw [if_neg hk, if_neg hk, if_pos List.mem_cons_self, if_pos List.mem_cons_self]
      exact ⟨rfl, rfl⟩
    · obtain ⟨o, o'⟩ := own s k n e
      obtain ⟨r, r'⟩ := same s (act s k) n o o'
      simp only [List.mem_cons, e, false_or]
      split
      · exact ⟨r, r'⟩
      · exact ⟨o, o'⟩

/-- An entry replaced, and its channel with it, touch no other actuator. -/
theorem putActuator_other {n k : ActId} (h : n ≠ k) (a : Actuator) (s : State) :
    (putActuator k a s).actuators[n] = s.actuators[n] ∧ (putActuator k a s).outputs[n] = s.outputs[n] :=
  ⟨put_other _ h _, put_other _ h _⟩

theorem putActuator_self (n : ActId) (a : Actuator) (s : State) :
    (putActuator n a s).actuators[n] = supervise a ∧ (putActuator n a s).outputs[n] = outputFor a s.outputs[n] :=
  ⟨put_self .., put_self ..⟩

theorem tripFault_other (code : FaultCode) {n k : ActId} (h : n ≠ k) (s : State) :
    (tripFault code k s).actuators[n] = s.actuators[n] ∧ (tripFault code k s).outputs[n] = s.outputs[n] := by
  unfold tripFault
  split
  · exact putActuator_other h ..
  · split
    · exact putActuator_other h { s.actuators[k] with furtherFault := true } s
    · exact ⟨rfl, rfl⟩

theorem tripFault_congr (code : FaultCode) {n : ActId} {s t : State} (ha : t.actuators[n] = s.actuators[n])
    (ho : t.outputs[n] = s.outputs[n]) :
    (tripFault code n t).actuators[n] = (tripFault code n s).actuators[n] ∧
      (tripFault code n t).outputs[n] = (tripFault code n s).outputs[n] := by
  unfold tripFault firstFault furtherFault
  rw [ha]
  split
  · simp only [setFlagBoth_actuators, setFlagBoth_outputs, putActuator_self, ho, and_self]
  · split
    · simp only [setFlagBoth_actuators, setFlagBoth_outputs, putActuator_self, ho, and_self]
    · exact ⟨ha, ho⟩

/-- A trip that reaches every actuator of a list does to each what it does to it alone (R23, R28). -/
theorem foldl_tripFault (code : FaultCode) (xs : List ActId) (hx : xs.Nodup) (s : State) (n : ActId) :
    (xs.foldl (fun t k => tripFault code k t) s).actuators[n] =
        (if n ∈ xs then (tripFault code n s).actuators[n] else s.actuators[n]) ∧
      (xs.foldl (fun t k => tripFault code k t) s).outputs[n] =
        if n ∈ xs then (tripFault code n s).outputs[n] else s.outputs[n] :=
  foldl_own (fun t _ _ h => tripFault_other code h t) (fun _ _ _ ha ho => tripFault_congr code ha ho) xs hx s n

/-- After a trip fault an actuator is OUT_OF_SERVICE or FAULTED (R21, R24). -/
theorem tripFault_sick (code : FaultCode) (n : ActId) (s : State) :
    healthy (tripFault code n s).actuators[n] = false := by
  rw [← Bool.not_eq_true, healthy_iff]
  unfold tripFault
  split
  · exact fun well => well.2 (firstFault_taken code n s).1
  next sick =>
    rw [healthy_iff] at sick
    split
    · have entry : (furtherFault n s).actuators[n] = supervise { s.actuators[n] with furtherFault := true } :=
        (putActuator_self n _ s).1
      rw [entry, supervise_state]
      exact sick
    · exact sick

/-! ### The plant trip (R27 to R29) -/

theorem keeps_ptrip {s : State} {x : TripFilter} (h : x.asserted = true → s.ptrip.asserted = true) :
    Keeps s { s with ptrip := x } where
  actuators h := h
  outputs h := h
  trip held asserted := held (h asserted)
  dispatch h := h
  pressure h := h
  stations h := h

/-- The removal of a chain's ramps brings no actuator into service. -/
theorem healthy_of_rampsRemoved {ended : GroupId → Bool} {s t : State} (h : ChainRampsRemoved ended s t) (n : ActId) :
    healthy t.actuators[n] = true ↔ healthy s.actuators[n] = true := by
  have hn := h n
  dsimp only at hn
  split at hn
  · rw [healthy_iff, healthy_iff, hn]
    dsimp only
    split <;> simp_all
  · rw [hn.1]

/-- The actuators after the faults of a plant trip (R28). -/
def tripped (s : State) : State := allActuators.foldl (fun t n => tripFault .plantTrip n t) s

/-- The chains after the ends of a plant trip (R28). -/
def chainsTripped (s : State) : State := allGroups.foldl (fun t g => endIfRunning g .tripped t) s

theorem keeps_tripped (s : State) : Keeps s (tripped s) := keeps_foldl _ _ _ fun n t => keeps_tripFault _ n t

theorem keeps_chainsTripped (s : State) : Keeps s (chainsTripped s) :=
  keeps_foldl _ _ _ fun g t => keeps_endIfRunning g _ t

theorem chainsEnded_chainsTripped (s : State) :
    ChainsEnded (fun g => decide (s.executors[g].state ≠ .idle)) .tripped s (chainsTripped s) :=
  (chainsEnded_foldl (by decide) (fun _ => true) allGroups s).congr fun g => by simp [allGroups]

theorem idle_chainsTripped (s : State) (g : GroupId) : (chainsTripped s).executors[g].state = .idle := by
  rw [(chainsEnded_chainsTripped s).executors]
  split
  · rfl
  next idle => simpa using idle

theorem mem_allActuators (n : ActId) : n ∈ allActuators := List.mem_finRange n

theorem sick_tripped (s : State) (n : ActId) : healthy (tripped s).actuators[n] = false := by
  have fold := (foldl_tripFault .plantTrip allActuators (List.nodup_finRange 16) s n).1
  rw [if_pos (mem_allActuators n)] at fold
  exact (congrArg healthy fold).trans (tripFault_sick ..)

/-- A trip assertion as its parts (R28): the executors are all IDLE at its end, so that no safe landing has a taker. -/
theorem assertTrip_eq {s : State} (h : s.ptrip.asserted = false) :
    assertTrip s =
      setFlagBoth .trip (chainsTripped (tripped { s with ptrip := { asserted := true, raw := false, age := 0 } })) := by
  have landings : ∀ u v, reportSafeLandings u (setFlagBoth .trip (chainsTripped v)) = setFlagBoth .trip (chainsTripped v) :=
    fun u v => reportSafeLandings_unattended fun n _ _ g _ => by
      rw [setFlagBoth_executors]; exact idle_chainsTripped v g
  rw [← landings { s with ptrip := { asserted := true, raw := false, age := 0 } }]
  unfold assertTrip chainsTripped tripped
  rw [if_neg (by simp [h])]

theorem Keeps.of_ptrip {s t : State} {x : TripFilter} (h : Keeps { s with ptrip := x } t) (held : TripHeld t) :
    Keeps s t :=
  ⟨h.actuators, h.outputs, fun _ => held, h.dispatch, h.pressure, h.stations⟩

theorem keeps_assertTrip (s : State) : Keeps s (assertTrip s) := by
  cases h : s.ptrip.asserted with
  | true =>
    unfold assertTrip
    rw [if_pos h]
    exact .refl s
  | false =>
    rw [assertTrip_eq h]
    have after := ((keeps_tripped { s with ptrip := { asserted := true, raw := false, age := 0 } }).trans
      (keeps_chainsTripped _)).trans (keeps_setFlagBoth .trip _)
    refine after.of_ptrip fun _ => ⟨fun n => ?_, fun g => by rw [setFlagBoth_executors]; exact idle_chainsTripped _ g⟩
    rw [setFlagBoth_actuators, ← Bool.not_eq_true, healthy_of_rampsRemoved (chainsEnded_chainsTripped _).ramps,
      Bool.not_eq_true]
    exact sick_tripped _ n

theorem keeps_deassertTrip (s : State) : Keeps s (deassertTrip s) := by
  unfold deassertTrip
  split
  · exact keeps_ptrip fun h => nomatch h
  · exact .refl s

theorem keeps_changeTripRaw (level : Bool) (s : State) : Keeps s (changeTripRaw level s) := by
  unfold changeTripRaw
  split
  · exact .refl s
  · exact keeps_ptrip id

/-! ### Timers and periods of the plant (R35, R149) -/

/-- A slew expiry leaves the entry in service and its follow step as they were (R35). -/
theorem landRamp_frame (t : Nat) (a : Actuator) :
    (landRamp t a).follow = a.follow ∧ (healthy (landRamp t a) = true ↔ healthy a = true) := by
  simp only [healthy_iff]
  unfold landRamp
  dsimp only
  split <;> simp_all

theorem stepRamp_frame (r : Ramp) (a : Actuator) :
    (stepRamp r a).1.follow = a.follow ∧ (healthy (stepRamp r a).1 = true ↔ healthy a = true) := by
  unfold stepRamp
  dsimp only
  split
  · exact landRamp_frame ..
  · exact ⟨rfl, by simp [healthy_iff]⟩

theorem keeps_slewTick (n : ActId) (s : State) : Keeps s (slewTick n s) := by
  unfold slewTick
  dsimp only
  split
  next =>
    refine keeps_plant_time (os := s.outputs) (fun k => ?_) fun k => ⟨rfl, rfl, rfl, rfl⟩
    by_cases e : k = n
    · subst e; rw [put_self]; exact ⟨rfl, rfl, rfl, rfl, rfl, rfl⟩
    · rw [put_other _ e]; exact ⟨rfl, rfl, rfl, rfl, rfl, rfl⟩
  next r hr =>
    have restarted : ActuatorOk s.actuators[n] → ActuatorOk { s.actuators[n] with slewTimer := slewInterval } :=
      fun ok => ok.congr rfl rfl rfl rfl rfl rfl
    obtain ⟨follow, well⟩ := stepRamp_frame r { s.actuators[n] with slewTimer := slewInterval }
    have moved : Keeps s (putActuator n (stepRamp r { s.actuators[n] with slewTimer := slewInterval }).1 s) :=
      keeps_putActuator ⟨fun ok => (restarted ok).stepRamp hr, fun h => .inl (healthy_iff.2 (healthy_iff.1 (well.1 h))),
        fun h => .inl (follow ▸ h)⟩
    split
    next e => rw [e] at moved; exact moved.trans (keeps_reportLanded ..)
    next e => rwa [e] at moved

theorem keeps_proofExpiry (n : ActId) (s : State) : Keeps s (proofExpiry n s) := by
  unfold proofExpiry
  dsimp only
  split
  · exact keeps_raiseFault ..
  · exact keeps_raiseFault ..
  · exact .refl s

theorem keeps_deviationExpiry (n : ActId) (s : State) : Keeps s (deviationExpiry n s) := by
  unfold deviationExpiry
  split
  · exact keeps_raiseFault ..
  · exact .refl s

theorem keeps_lostExpiry (n : ActId) (s : State) : Keeps s (lostExpiry n s) := by
  unfold lostExpiry
  split
  · exact keeps_raiseFault ..
  · exact .refl s

theorem keeps_endPeriod (n : ActId) (s : State) : Keeps s (endPeriod n s) := by
  refine keeps_plant_time (as := s.actuators) (fun k => ⟨rfl, rfl, rfl, rfl, rfl, rfl⟩) fun k => ?_
  by_cases e : k = n
  · subst e; rw [put_self]; exact ⟨rfl, rfl, rfl, rfl⟩
  · rw [put_other _ e]; exact ⟨rfl, rfl, rfl, rfl⟩

/-! ### Capture channels (R154 to R160) -/

theorem keeps_takeReport (c : CaptureId) (t : ReportTaker) (s : State) : Keeps s (takeReport c t s) := by
  cases t with
  | actuator n =>
    dsimp only [takeReport]
    split
    · exact .refl s
    · exact Keeps.trans (t := putActuator n { s.actuators[n] with feedback := some (feedbackFrom s.captures[c]) } s)
        (keeps_putActuator (.of_timers rfl rfl rfl rfl rfl rfl)) (keeps_reportFeedback ..)
  | executor g =>
    dsimp only [takeReport]
    split
    next waits =>
      unfold awaitsMeasurement at waits
      exact keeps_completeAndProceed (runs_of_active (by simp_all))
    next => exact .refl s

theorem keeps_reportCapture (c : CaptureId) (completed : Bool) (s : State) : Keeps s (reportCapture c completed s) :=
  keeps_takeInOpenOrder _ _ _ fun t u => keeps_takeReport c t u

theorem keeps_counter (s : State) (stamp : Stamp) (k : Nat) : Keeps s { s with counter := stamp, freeCount := k } :=
  SameCore.keeps ⟨rfl, rfl, rfl, rfl, rfl, rfl, rfl, rfl⟩

theorem keeps_takeEdge (c : CaptureId) (rising : Bool) (stamp : Stamp) (s : State) :
    Keeps s (takeEdge c rising stamp s) := by
  unfold takeEdge
  dsimp only
  split
  · have taken := fun k x => (keeps_counter s stamp k).trans (keeps_putCapture c x _)
    split
    · exact (taken _ _).trans (keeps_reportCapture ..)
    · exact taken _ _
  · exact (keeps_counter s stamp s.freeCount).trans (keeps_putCapture c _ _)

theorem keeps_timeOutCapture (c : CaptureId) (s : State) : Keeps s (timeOutCapture c s) := by
  unfold timeOutCapture
  dsimp only
  split
  · exact (keeps_putCapture ..).trans (keeps_reportCapture ..)
  · exact keeps_putCapture ..

theorem keeps_captureExpiry (c : CaptureId) (s : State) : Keeps s (captureExpiry c s) := by
  unfold captureExpiry
  split
  · exact keeps_timeOutCapture ..
  · exact .refl s

theorem keeps_spanOverflow (c : CaptureId) (s : State) : Keeps s (spanOverflow c s) := by
  unfold spanOverflow
  split
  · exact .refl s
  · split
    · exact keeps_timeOutCapture ..
    · exact .refl s

/-! ### The governor (R115 to R131) -/

theorem GovernorOk.evalTimer {g : Governor} (h : GovernorOk g) (t : Nat) : GovernorOk { g with evalTimer := t } := h

theorem GovernorOk.regulate {g : Governor} (h : GovernorOk g) (on : g.mode ≠ .off) (k : StationId) (e : Int) :
    GovernorOk (regulate k e g) := by
  obtain ⟨h1, h2, h3, h4, h5, h6, h7, h8, h9, h10, inside, hold, off⟩ := h
  obtain ⟨d1, d2, i1, i2⟩ := inside on
  have demand := clampInt_mem h1 (rawOutput g e)
  obtain ⟨d1, d2⟩ := stepDemand_mem d1 d2 demand.1 demand.2
  obtain ⟨i1, i2⟩ := nextIntegral_mem h1 i1 i2 e
  exact ⟨h1, h2, h3, h4, h5, h6, h7, h8, h9, h10, fun _ => ⟨d1, d2, i1, i2⟩, hold, fun e => absurd e on⟩

theorem GovernorOk.enterRegulate {g : Governor} (h : GovernorOk g) (on : g.mode ≠ .off) (e : Int) :
    GovernorOk (enterRegulate e g) := by
  obtain ⟨h1, h2, h3, h4, h5, h6, h7, h8, h9, h10, inside, -, -⟩ := h
  obtain ⟨d1, d2, -, -⟩ := inside on
  obtain ⟨i1, i2⟩ := clampInt_mem (lo := g.dmin * 64) (hi := g.dmax * 64) (by omega)
    (((g.demand : Int) - proportional g e) * 64)
  exact ⟨h1, h2, h3, h4, h5, h6, h7, h8, h9, h10, fun _ => ⟨d1, d2, i1, i2⟩,
    iff_of_false (fun e => nomatch e) (fun e => nomatch e), fun e => nomatch e⟩

/-- The number of eligible entries is recorded (R117). -/
theorem GovernorOk.eligible {g : Governor} (h : GovernorOk g) (on : g.mode ≠ .off) (n : Option Nat) :
    GovernorOk { g with eligible := n } := by
  obtain ⟨h1, h2, h3, h4, h5, h6, h7, h8, h9, h10, inside, hold, -⟩ := h
  exact ⟨h1, h2, h3, h4, h5, h6, h7, h8, h9, h10, inside, hold, fun e => absurd e on⟩

theorem GovernorOk.evaluateWithout {g : Governor} (h : GovernorOk g) (on : g.mode ≠ .off) :
    GovernorOk (evaluateWithout g) := by
  have ok := h
  obtain ⟨h1, h2, h3, h4, h5, h6, h7, h8, h9, h10, inside, hold, -⟩ := h
  obtain ⟨d1, d2, i1, i2⟩ := inside on
  unfold Machine.evaluateWithout
  dsimp only
  split
  · exact ok
  · exact ⟨h1, h2, h3, h4, h5, h6, h7, h8, h9, h10, fun _ => ⟨d1, d2, i1, i2⟩, ⟨fun _ => rfl, fun _ => rfl⟩,
      fun e => nomatch e⟩
  · exact ⟨h1, h2, h3, h4, h5, h6, h7, h8, h9, h10, inside, hold, fun e => absurd e on⟩
  · obtain ⟨d1, d2⟩ := stepDemand_mem d1 d2 h3 h4
    exact ⟨h1, h2, h3, h4, h5, h6, h7, h8, h9, h10, fun _ => ⟨d1, d2, i1, i2⟩, hold, fun e => absurd e on⟩

/-- An evaluation keeps the governor, and it neither enters nor leaves OFF (R117 to R126). -/
theorem GovernorOk.evaluate {g : Governor} (h : GovernorOk g) (on : g.mode ≠ .off) (t : Table Station 8) :
    GovernorOk (evaluate t g) := by
  unfold Machine.evaluate
  split
  · unfold evaluateWith
    dsimp only
    split
    · exact h
    · exact (h.eligible on (some _)).regulate on ..
    · exact ((h.eligible on (some _)).enterRegulate on _).regulate (by simp [Machine.enterRegulate]) ..
    · exact ((h.eligible on (some _)).enterRegulate on _).regulate (by simp [Machine.enterRegulate]) ..
  · exact h.evaluateWithout on

theorem evaluate_on {g : Governor} (on : g.mode ≠ .off) (t : Table Station 8) : (evaluate t g).mode ≠ .off := by
  unfold evaluate
  split
  · unfold evaluateWith regulate enterRegulate
    dsimp only
    split <;> simp_all
  · unfold evaluateWithout
    dsimp only
    split <;> simp_all

theorem keeps_putGovernor {s : State} {g : Governor} (ok : GovernorOk s.governor → GovernorOk g)
    (off : g.mode = .off → s.governor.mode = .off) : Keeps s (putGovernor g s) := by
  have put := keeps_governor ok off
  unfold putGovernor
  dsimp only
  split
  · exact put
  · exact put.trans (keeps_setFlagBoth ..)

theorem keeps_retarget (n : ActId) (demand : Nat) (s : State) : Keeps s (retarget n demand s) := by
  unfold retarget
  dsimp only
  split
  · exact .refl s
  next step hf =>
    obtain ⟨follow, well⟩ := requestRamp_frame .follow demand step true s.actuators[n]
    have ramped : Keeps s (putActuator n (requestRamp .follow demand step true s.actuators[n]).1 s) :=
      keeps_putActuator ⟨fun ok => ok.requestFollow hf _, fun h => .inl (well.1 h), fun h => .inl (follow ▸ h)⟩
    split
    next e => rw [e] at ramped; exact ramped.trans (keeps_reportLanded ..)
    next e => rwa [e] at ramped

theorem keeps_handDemand (s : State) : Keeps s (handDemand s) := keeps_foldl _ _ _ fun n t => keeps_retarget n _ t

theorem keeps_evaluateGovernor (s : State) : Keeps s (evaluateGovernor s) := by
  unfold evaluateGovernor
  dsimp only
  split
  · exact keeps_governor (fun h => h.evalTimer _) id
  next on =>
    have evaluated : Keeps s (putGovernor (evaluate s.stations { s.governor with evalTimer := evalInterval }) s) :=
      keeps_putGovernor (fun h => (h.evalTimer evalInterval).evaluate on _) fun e => 
        absurd e (evaluate_on (g := { s.governor with evalTimer := evalInterval }) on _)
    exact evaluated.trans (keeps_handDemand _)

theorem GovernorOk.fallback {g : Governor} (h : GovernorOk g) (ht : g.holdTimer = some 0) :
    GovernorOk { g with mode := .fallback, holdTimer := none } := by
  obtain ⟨h1, h2, h3, h4, h5, h6, h7, h8, h9, h10, inside, hold, -⟩ := h
  have held : g.mode = .hold := hold.2 (by simp [ht])
  exact ⟨h1, h2, h3, h4, h5, h6, h7, h8, h9, h10, fun _ => inside (by simp [held]),
    by simp, fun e => nomatch e⟩

theorem keeps_holdExpiry (s : State) : Keeps s (holdExpiry s) := by
  unfold holdExpiry
  split
  next e => exact keeps_putGovernor (fun h => h.fallback e) fun e => nomatch e
  next => exact .refl s

theorem GovernorOk.withSettings {g : Governor} (h : GovernorOk g) {r : RawGovernor} (valid : validSettings r = true) :
    GovernorOk (withSettings r g) := by
  obtain ⟨-, -, -, -, -, -, -, -, -, -, -, hold, off⟩ := h
  simp only [validSettings, Bool.and_eq_true, decide_eq_true_eq] at valid
  obtain ⟨⟨⟨⟨⟨⟨⟨v1, v2⟩, v3⟩, v4⟩, v5⟩, v6⟩, v7⟩, v8⟩ := valid
  obtain ⟨f1, f2⟩ := clampNat_mem v3 r.fallback.toNat
  obtain ⟨d1, d2⟩ := clampNat_mem v3 g.demand
  obtain ⟨i1, i2⟩ := clampNat_mem (Nat.mul_le_mul_right 64 v3) g.integral
  exact ⟨v3, v2, f1, f2, v4, v5, v6, v7, Nat.le_of_lt_succ r.kp.isLt, Nat.le_of_lt_succ r.ki.isLt,
    fun _ => ⟨d1, d2, i1, i2⟩, hold, off⟩

theorem GovernorOk.switchedOn {g : Governor} (h : GovernorOk g) : GovernorOk (switchedOn g) := by
  obtain ⟨h1, h2, h3, h4, h5, h6, h7, h8, h9, h10, -, -, -⟩ := h
  exact ⟨h1, h2, h3, h4, h5, h6, h7, h8, h9, h10,
    fun _ => ⟨h3, h4, Nat.mul_le_mul_right 64 h3, Nat.mul_le_mul_right 64 h4⟩, ⟨fun _ => rfl, fun _ => rfl⟩,
    fun e => nomatch e⟩

theorem GovernorOk.switchedOff {g : Governor} (h : GovernorOk g) : GovernorOk (switchedOff g) := by
  obtain ⟨h1, h2, h3, h4, h5, h6, h7, h8, h9, h10, -, -, -⟩ := h
  exact ⟨h1, h2, h3, h4, h5, h6, h7, h8, h9, h10, fun e => absurd rfl e, iff_of_false (fun e => nomatch e) (fun e => nomatch e),
    fun _ => ⟨rfl, rfl⟩⟩

theorem GovernorOk.reset {g : Governor} (h : GovernorOk g) : GovernorOk (resetGovernor g) := by
  obtain ⟨h1, h2, h3, h4, h5, h6, h7, h8, h9, h10, inside, -, -⟩ := h
  unfold resetGovernor
  by_cases off : g.mode = .off
  · simp only [if_pos off]
    exact ⟨h1, h2, h3, h4, h5, h6, h7, h8, h9, h10, fun e => absurd rfl e, iff_of_false (fun e => nomatch e) (fun e => nomatch e),
      fun _ => ⟨rfl, rfl⟩⟩
  · simp only [if_neg off]
    exact ⟨h1, h2, h3, h4, h5, h6, h7, h8, h9, h10, fun _ => inside off, ⟨fun _ => rfl, fun _ => rfl⟩,
      fun _ => ⟨rfl, rfl⟩⟩

theorem GovernorOk.age {g : Governor} (h : GovernorOk g) : GovernorOk (ageGovernor g) := by
  obtain ⟨h1, h2, h3, h4, h5, h6, h7, h8, h9, h10, inside, hold, off⟩ := h
  exact ⟨h1, h2, h3, h4, h5, h6, h7, h8, h9, h10, inside, by simpa [ageGovernor, countDown] using hold, off⟩

/-- The entry of an actuator at an entry into OFF (R41, R129): it follows no more, and a FOLLOW ramp is removed. -/
def unfollowed (a : Actuator) : Actuator :=
  match a.ramp with
  | some r => if r.origin = .follow then { removeRamp a with follow := none } else { a with follow := none }
  | none => { a with follow := none }

theorem clearFollowers_eq (s : State) :
    clearFollowers s = allActuators.foldl (fun t n => putActuator n (unfollowed t.actuators[n]) t) s := by
  unfold clearFollowers
  congr 1
  funext t n
  generalize t.actuators[n] = a
  unfold unfollowed
  cases hr : a.ramp with
  | none => simp only [hr]
  | some r => by_cases h : r.origin = .follow <;> simp only [hr, h, if_true, if_false]

/-- Every actuator is unfollowed, and its channel follows it. -/
theorem clearFollowers_at (s : State) (n : ActId) :
    (clearFollowers s).actuators[n] = supervise (unfollowed s.actuators[n]) ∧
      (clearFollowers s).outputs[n] = outputFor (unfollowed s.actuators[n]) s.outputs[n] := by
  rw [clearFollowers_eq]
  have fold := foldl_own (act := fun t n => putActuator n (unfollowed t.actuators[n]) t)
    (fun t k n h => putActuator_other h _ t) (fun t u k ha ho => by simp only [putActuator_self, ha, ho, and_self])
    allActuators (List.nodup_finRange 16) s n
  rw [if_pos (mem_allActuators n), if_pos (mem_allActuators n)] at fold
  simpa only [putActuator_self] using fold

theorem unfollowed_follow (a : Actuator) : (unfollowed a).follow = none := by
  unfold unfollowed; split <;> (try split) <;> rfl

theorem entryKeeps_unfollowed (s : State) (a : Actuator) : EntryKeeps s a (unfollowed a) := by
  have bare : EntryKeeps s a { a with follow := none } :=
    ⟨fun ok => ok.unfollow, .inl, fun e => absurd rfl e⟩
  unfold unfollowed
  split
  next r hr =>
    split
    next origin =>
      have chain : chainRamp a = true := by simp [chainRamp, hr, origin]
      have removed := entryKeeps_removeRamp (s := s) chain
      exact ⟨fun ok => (removed.ok ok).unfollow, removed.healthy, fun e => absurd rfl e⟩
    next => exact bare
  next => exact bare

theorem keeps_clearFollowers (s : State) : Keeps s (clearFollowers s) := by
  rw [clearFollowers_eq]
  exact keeps_foldl _ _ _ fun n t => keeps_putActuator (entryKeeps_unfollowed t _)

theorem putGovernor_governor (g : Governor) (s : State) : (putGovernor g s).governor = g := by
  unfold putGovernor
  dsimp only
  split <;> simp

/-- The governor switched off, with its followers cleared (R129, R41). -/
theorem keeps_switchOff (s : State) : Keeps s (clearFollowers (putGovernor (switchedOff s.governor) s)) := by
  have put : ∀ P : State → Prop, (∀ t g, P t → P { t with governor := g }) → (∀ t, P t → P (setFlagBoth .govMode t)) →
      P s → P (putGovernor (switchedOff s.governor) s) := by
    intro P hg hf h
    unfold putGovernor
    dsimp only
    split
    · exact hg _ _ h
    · exact hf _ (hg _ _ h)
  have flag := fun t => keeps_setFlagBoth .govMode t
  have clear := keeps_clearFollowers (putGovernor (switchedOff s.governor) s)
  refine ⟨fun h => clear.actuators (put _ (fun _ _ h => h) (fun t => (flag t).actuators) h),
    fun h => clear.outputs (put _ (fun _ _ h => h) (fun t => (flag t).outputs) h),
    fun h => clear.trip (put _ (fun _ _ h => h) (fun t => (flag t).trip) h),
    fun h => clear.dispatch (put _ (fun _ _ h => h) (fun t => (flag t).dispatch) h),
    fun h => ⟨?_, fun _ n => ?_⟩,
    fun h => clear.stations (put _ (fun _ _ h => h) (fun t => (flag t).stations) h)⟩
  · rw [(around_clearFollowers _).governor, putGovernor_governor]
    exact h.1.switchedOff
  · rw [(clearFollowers_at _ n).1, supervise_follow, unfollowed_follow]

/-! ### Stations (R135 to R148) -/

/-- A station entry may be replaced by one that is as it may be, at an address that no other enabled entry holds. -/
theorem keeps_changeStation {s : State} {k : StationId} {x : Station}
    (h : StationsOk s → StationOk x ∧
      (x.enabled = true → ∀ j : StationId, j ≠ k → s.stations[j].enabled = true → s.stations[j].address ≠ x.address)) :
    Keeps s (changeStation k x s) := by
  have put : Keeps s (putStation k x s) := by
    refine keeps_stations fun ok => ?_
    obtain ⟨good, apart⟩ := h ok
    constructor
    · intro j
      dsimp only
      rw [get_put]
      split
      · exact good
      · exact ok.1 j
    · intro i j ne ei ej
      dsimp only at ei ej ⊢
      rw [get_put] at ei ej ⊢
      rw [get_put]
      by_cases hi : i = k
      · rw [if_pos hi] at ei ⊢
        have hj : j ≠ k := fun e => ne (hi.trans e.symm)
        rw [if_neg hj] at ej ⊢
        exact (apart ei j hj ej).symm
      · rw [if_neg hi] at ei ⊢
        by_cases hj : j = k
        · rw [if_pos hj] at ej ⊢
          exact apart ej i hi ei
        · rw [if_neg hj] at ej ⊢
          exact ok.2 i j ne ei ej
  unfold changeStation
  dsimp only
  split
  · exact put
  · exact put.trans (keeps_setFlagBoth ..)

theorem stationOk_never (x : Station) : StationOk (neverState x) := by
  unfold StationOk neverState; simp

theorem stationOk_takenFrame {x : Station} (h : x.enabled = true) (dp : Nat) (sequence : Byte) (q : Quality) :
    StationOk (takenFrame dp sequence q x) := by
  unfold StationOk takenFrame
  by_cases e : q = .bad <;> simp [h, e]

theorem StationOk.stale {x : Station} (h : StationOk x) (ht : x.staleTimer = some 0) :
    StationOk { x with state := .stale, staleTimer := none } := by
  obtain ⟨disabled, reading, timer⟩ := h
  have live : x.state = .fresh ∨ x.state = .bad := timer.2 (by simp [ht])
  unfold StationOk
  rcases live with e | e <;> simp_all

theorem StationOk.age {x : Station} (h : StationOk x) : StationOk (ageStation x) := by
  unfold StationOk ageStation countDown at *; simpa using h

theorem keeps_takeStationFrame (address sequence : Byte) (dp : Nat) (q : Quality) (s : State) :
    Keeps s (takeStationFrame address sequence dp q s) := by
  unfold takeStationFrame
  split
  · exact keeps_receiver ..
  next k found =>
    have enabled : s.stations[k].enabled = true := by
      have := List.find?_some found
      simp_all
    exact keeps_ite (keeps_receiver ..)
      (keeps_changeStation fun ok => ⟨stationOk_takenFrame enabled .., fun _ j ne ej => ok.2 j k ne ej enabled⟩)

theorem keeps_checkStationFrame (bytes : List (Byte × Bool)) (s : State) : Keeps s (checkStationFrame bytes s) := by
  unfold checkStationFrame
  split
  · split
    · exact keeps_takeStationFrame ..
    · exact keeps_receiver ..
  · exact .refl s

theorem keeps_stationByte (b : Byte) (noisy : Bool) (s : State) : Keeps s (stationByte b noisy s) := by
  unfold stationByte
  split
  · exact .refl s
  · exact keeps_receiver ..
  · split
    · exact keeps_receiver ..
    · exact Keeps.trans (t := putAssembler .hunt s) (keeps_receiver ..) (keeps_checkStationFrame ..)

theorem keeps_stationFraming (s : State) : Keeps s (stationFraming s) := by
  unfold stationFraming
  split
  · exact .refl s
  · exact Keeps.trans (t := putAssembler .hunt s) (keeps_receiver ..) (keeps_receiver ..)

theorem keeps_stationBreakEvent (s : State) : Keeps s (stationBreakEvent s) := by
  unfold stationBreakEvent
  split
  · exact Keeps.trans (t := putAssembler .address s) (keeps_receiver ..) (keeps_receiver ..)
  · exact keeps_receiver ..

theorem keeps_takeStationEvent {hand : State → State} (h : ∀ s, Keeps s (hand s)) (e : StationEvent) (may : Bool)
    (after : Sampler) (low : Nat) (s : State) : Keeps s (takeStationEvent e may after low hand s) := by
  unfold takeStationEvent
  split
  · exact (keeps_receiver s _).trans (h _)
  · split
    · exact Keeps.trans (t := putSampler after low s) (keeps_receiver ..) (h _)
    · exact .refl s

theorem keeps_stationStopLow (count : Nat) (s : State) : Keeps s (stationStopLow count s) := by
  unfold stationStopLow
  split
  · exact keeps_receiver ..
  · exact .refl s

theorem keeps_staleExpiry (k : StationId) (s : State) : Keeps s (staleExpiry k s) := by
  unfold staleExpiry
  split
  next e =>
    exact keeps_changeStation fun ok => ⟨(ok.1 k).stale e, fun enabled j ne ej => ok.2 j k ne ej enabled⟩
  next => exact .refl s

end Sys2Proof.Machine
end

section
/-! SUPPORT. The owners of requests keep what every step keeps (Chapters 1, 3, 4, 5, 6, 7 and 8). -/

namespace Sys2Proof.Machine

/-! ### CLM (R104 to R112) -/

theorem groupHolders_mapHolders (f : Resource → Option Master → Option Master) (s : State) (g : GroupId) :
    (mapHolders f s).groupHolders[g] = f ⟨g.val, by omega⟩ s.groupHolders[g] := get_each ..

theorem holderOf_group (g : GroupId) (s : State) : holderOf ⟨g.val, by omega⟩ s = s.groupHolders[g] := by
  unfold holderOf; rw [dif_pos g.isLt]

/-- Holders that stand wherever a chain runs or is halted. -/
theorem keeps_mapHolders {f : Resource → Option Master → Option Master} {s : State}
    (h : ∀ (g : GroupId) m, Runs g s → s.groupHolders[g] = some m → f ⟨g.val, by omega⟩ (some m) = some m) :
    Keeps s (mapHolders f s) := by
  have groups : Keeps s { s with groupHolders := (mapHolders f s).groupHolders } := by
    refine keeps_dispatch (ks := s.slots) (xs := s.executors) (fun ok => ⟨fun g runs => ?_, ok.2⟩) fun g runs => .inl runs
    obtain ⟨m, starter, holder⟩ := ok.1 g runs
    refine ⟨m, starter, ?_⟩
    rw [groupHolders_mapHolders, holder]
    exact h g m runs holder
  exact groups.trans (SameCore.keeps ⟨rfl, rfl, rfl, rfl, rfl, rfl, rfl, rfl⟩)

theorem keeps_claimOwner (m : Master) (set : Byte) (s : State) : Keeps s (claimOwner m set s).1 := by
  unfold claimOwner
  split
  · exact .refl s
  · dsimp only
    split
    · exact .refl s
    next free =>
      have claimed : Keeps s (mapHolders (fun r h => if names set r then some m else h) s) := by
        refine keeps_mapHolders fun g w _ holder => ?_
        split
        next named =>
          by_contra other
          refine free (List.any_eq_true.2 ⟨⟨g.val, by omega⟩, List.mem_finRange _, ?_⟩)
          have : w = m.other := ne_master fun e => other (by rw [e])
          simp [named, holderOf_group, holder, this]
        next => rfl
      exact keeps_ite (claimed.trans (keeps_setFlag ..)) claimed

/-- Chains that end leave claims, chains and slots in agreement where the claims of the others stand (R98, R108). -/
theorem dispatchOk_chainsEnded {ended : GroupId → Bool} {o : ChainOutcome} {s u t : State} (ok : DispatchOk s)
    (ends : ChainsEnded ended o u t) (slots : u.slots = s.slots) (executors : u.executors = s.executors)
    (holders : ∀ (g : GroupId) m, Runs g s → ended g = false → s.groupHolders[g] = some m → u.groupHolders[g] = some m) :
    DispatchOk t := by
  have records := ends.executors
  have bound := ends.slots
  rw [executors] at records
  rw [slots] at bound
  constructor
  · intro g runs
    rw [records] at runs ⊢
    cases e : ended g with
    | true => rw [e] at runs; exact absurd rfl runs
    | false =>
      rw [e] at runs
      obtain ⟨m, starter, holder⟩ := ok.1 g runs
      exact ⟨m, starter, by rw [ends.around.groupHolders]; exact holders g m runs e holder⟩
  · intro k
    have belongs := ok.2 k
    rw [bound]
    generalize s.slots[k] = x at belongs ⊢
    obtain ⟨state, record⟩ := x
    cases state with
    | free => simpa [Unbound] using belongs
    | written w => simp [Unbound]
    | bound w g =>
      cases e : ended g with
      | true => simp [Unbound, e]
      | false =>
        have same : t.executors[g] = s.executors[g] := by rw [records, e]; rfl
        simp only [Unbound, e, if_false, Bool.false_eq_true]
        rw [same]
        exact belongs

/-- What the ends of claims leave agrees: the chains of the groups whose claims end have ended with them (R108). -/
theorem dispatchOk_endClaims {s : State} (ok : DispatchOk s) (m : Master) (which : Resource → Bool) :
    DispatchOk (endClaims m which s) := by
  refine dispatchOk_chainsEnded ok (chainsEnded_endClaims m which s) rfl rfl fun g w runs stands holder => ?_
  rw [groupHolders_mapHolders, holder]
  unfold unclaimed
  refine if_neg fun ends => ?_
  rw [Bool.and_eq_true, decide_eq_true_eq] at ends
  rw [holder, ends.1, ends.2, decide_eq_true rfl, decide_eq_true (p := s.executors[g].state ≠ .idle) runs] at stands
  exact absurd stands (by decide)

theorem keeps_endClaims (m : Master) (which : Resource → Bool) (s : State) : Keeps s (endClaims m which s) := by
  have after : Keeps (mapHolders (fun r h => if which r && h == some m then none else h) s) (endClaims m which s) :=
    keeps_foldl _ _ _ fun g t => keeps_ite (keeps_endIfRunning ..) (.refl t)
  have agree := fun ok => dispatchOk_endClaims (s := s) ok m which
  generalize endClaims m which s = t at after agree
  exact ⟨after.actuators, after.outputs, after.trip, agree, after.pressure, after.stations⟩

theorem keeps_releaseOwner (m : Master) (set : Byte) (s : State) : Keeps s (releaseOwner m set s).1 := by
  unfold releaseOwner
  split
  · exact .refl s
  · have ended := keeps_endClaims m (names set) s
    exact keeps_ite (ended.trans (keeps_setFlag ..)) ended

/-- Changed slots that are bound no more than they were, and are cleared where they are FREE. -/
theorem keeps_slots {s : State} {ks : Table Slot 128}
    (h : ∀ k : SlotId, ks[k] = s.slots[k] ∨ (∃ m, ks[k].state = .written m) ∨ ks[k] = Slot.powerOn) :
    Keeps s { s with slots := ks } := by
  refine keeps_dispatch (hs := s.groupHolders) (xs := s.executors) (fun ok => ⟨ok.1, fun k => ?_⟩) fun g runs => .inl runs
  have belongs := ok.2 k
  dsimp only
  rcases h k with same | ⟨m, written⟩ | freed
  · rw [same]; exact belongs
  · rw [written]; trivial
  · rw [freed]; rfl

theorem keeps_freeSlotsOf (m : Master) (s : State) : Keeps s (freeSlotsOf m s) := by
  refine keeps_slots fun k => ?_
  rw [get_each]
  split
  · exact .inr (.inr rfl)
  · exact .inl rfl

theorem keeps_silenceAtOwners (m : Master) (s : State) : Keeps s (silenceAtOwners m s) := by
  have freed := ((keeps_endClaims m (fun _ => true) s).trans (keeps_freeSlotsOf m _)).trans (keeps_setFlag m .claimLost _)
  exact keeps_ite (freed.trans (keeps_setFlag ..)) freed

/-! ### DST and PRT (R49, R50, R56) -/

theorem keeps_putSlot {k : SlotId} {x : Slot} {s : State} (h : (∃ m, x.state = .written m) ∨ x = Slot.powerOn) :
    Keeps s (putSlot k x s) := by
  refine keeps_slots fun j => ?_
  rw [get_put]
  split
  · exact .inr h
  · exact .inl rfl

theorem keeps_writeDescriptorOwner (m : Master) (slot : Byte) (r : RawDescriptor) (s : State) :
    Keeps s (writeDescriptorOwner m slot r s).1 := by
  unfold writeDescriptorOwner
  split
  · exact .refl s
  · split
    · exact .refl s
    · exact keeps_putSlot (.inl ⟨m, rfl⟩)

theorem keeps_freeDescriptorOwner (m : Master) (slot : Byte) (s : State) : Keeps s (freeDescriptorOwner m slot s).1 := by
  unfold freeDescriptorOwner
  split
  · exact .refl s
  · exact keeps_putSlot (.inr rfl)

theorem keeps_writeProfileOwner (first : Byte) (values : List Half) (s : State) :
    Keeps s (writeProfileOwner first values s).1 := by
  unfold writeProfileOwner
  split
  · exact .refl s
  · split
    · exact .refl s
    · exact SameCore.keeps ⟨rfl, rfl, rfl, rfl, rfl, rfl, rfl, rfl⟩

/-! ### The group executors (R60, R71 to R74, R94 to R97) -/

/-- A slot of the reachable set of a chain is bound to the group with its writer and record kept (R53). -/
theorem bindSlots_at (g : GroupId) (ks : List SlotId) (s : State) (k : SlotId) :
    (bindSlots g ks s).slots[k] =
      if k ∈ ks then
        (match s.slots[k].state with
          | .written w => { s.slots[k] with state := .bound w g }
          | _ => s.slots[k])
      else s.slots[k] := get_each ..

/-- The start of a run (R53, R74): the slots found fit are bound, and the requester, who holds the group, is the starter. -/
theorem keeps_startRun {m : Master} {g : GroupId} {k : SlotId} {ks : List SlotId} {s : State}
    (held : s.groupHolders[g] = some m) (idle : s.executors[g].state = .idle) (untripped : s.ptrip.asserted = false)
    (fit : ∀ j ∈ ks, s.slots[j].state = .written m) :
    Keeps s (putExecutor g (startedExecutor m k (bindSlots g ks s).executors[g]) (bindSlots g ks s)) := by
  have fields : putExecutor g (startedExecutor m k (bindSlots g ks s).executors[g]) (bindSlots g ks s) =
      { s with
        groupHolders := s.groupHolders, slots := (bindSlots g ks s).slots
        executors := put s.executors g (startedExecutor m k s.executors[g]) } := by
    simp only [putExecutor, bindSlots]
  rw [fields]
  refine keeps_dispatch (fun ok => ⟨fun h runs => ?_, fun j => ?_⟩) fun h _ => .inr untripped
  · dsimp only at runs ⊢
    by_cases e : h = g
    · subst e; rw [put_self]; exact ⟨m, rfl, held⟩
    · rw [put_other _ e] at runs ⊢
      exact ok.1 h runs
  · have belongs := ok.2 j
    have slot := bindSlots_at g ks s j
    dsimp only
    rw [slot]
    have fit := fit j
    generalize s.slots[j] = x at belongs fit ⊢
    obtain ⟨state, record⟩ := x
    cases state with
    | free =>
      rw [if_neg fun h => SlotState.noConfusion (fit h)]
      exact belongs
    | written w =>
      by_cases h : j ∈ ks
      · obtain rfl : w = m := by simpa using fit h
        rw [if_pos h]
        dsimp only
        rw [put_self]
        exact ⟨(fun e => nomatch e), rfl⟩
      · rw [if_neg h]
        trivial
    | bound w h =>
      have other : h ≠ g := fun e => belongs.1 (e ▸ idle)
      rw [if_neg fun h => SlotState.noConfusion (fit h)]
      dsimp only
      rw [put_other _ other]
      exact belongs

theorem keeps_runChainOwner (m : Master) (group slot : Byte) (s : State) : Keeps s (runChainOwner m group slot s).1 := by
  unfold runChainOwner
  split
  · exact .refl s
  · split
    · exact .refl s
    next g _ _ k _ =>
      split
      · exact .refl s
      next held =>
        split
        · exact .refl s
        next idle =>
          split
          · exact .refl s
          next untripped =>
            split
            · exact .refl s
            next ks found =>
              obtain ⟨walked, -⟩ := reachable_ok found
              have started := keeps_startRun (k := k) (holdsGroup_iff.1 (not_not.1 held)) (not_not.1 idle)
                (Bool.not_eq_true _ ▸ untripped) fun j hj => (walked.fit j hj).2.1
              have runs : Runs g (putExecutor g (startedExecutor m k (bindSlots g ks s).executors[g]) (bindSlots g ks s)) :=
                runs_putExecutor fun e => nomatch e
              dsimp only
              exact (goesOn_next started runs k).proceed

theorem keeps_cancelChainOwner (m : Master) (group : Byte) (s : State) : Keeps s (cancelChainOwner m group s).1 := by
  unfold cancelChainOwner
  split
  · exact .refl s
  · split
    · exact .refl s
    · dsimp only
      exact keeps_endChain ..

theorem runs_of_halted {g : GroupId} {s : State} (h : s.executors[g].state = .halted) : Runs g s := by
  unfold Runs; rw [h]; decide

theorem keeps_resumeRetryOwner (m : Master) (group : Byte) (s : State) : Keeps s (resumeRetryOwner m group s).1 := by
  unfold resumeRetryOwner
  split
  · exact .refl s
  · split
    next halted => exact keeps_retryChain (runs_of_halted halted)
    next => exact .refl s

theorem keeps_resumeSkipOwner (m : Master) (group : Byte) (s : State) : Keeps s (resumeSkipOwner m group s).1 := by
  unfold resumeSkipOwner
  split
  · exact .refl s
  · split
    next halted => exact keeps_skipChain (runs_of_halted halted)
    next => exact .refl s

theorem keeps_setCursor (g : GroupId) (b : BaseCursor) (r : RowId) (s : State) :
    Keeps s (putExecutor g (setCursor s.executors[g] b r) s) :=
  keeps_stepRecord (setCursor_record ..).1 (setCursor_record ..).2

theorem keeps_writeCursorOwner (m : Master) (group cursor value : Byte) (s : State) :
    Keeps s (writeCursorOwner m group cursor value s).1 := by
  unfold writeCursorOwner
  split
  · exact .refl s
  · split
    · exact keeps_setCursor ..
    · exact keeps_setCursor ..
    · exact .refl s

/-! ### ACT (R4, R5, R11, R12, R26) -/

theorem keeps_configure {n : ActId} {w : ActWrite} {s : State} (out : s.actuators[n].state = .outOfService)
    (ok : ConfigOk w.cfg) : Keeps s (configure n w s) := by
  refine keeps_plant (fun k => ?_) (fun k follows => ?_)
  · by_cases e : k = n
    · subst e
      rw [put_self]
      refine ⟨fun h => ActuatorOk.supervise ?_, fun h => ?_, fun h => .inl (by rwa [supervise_follow] at h)⟩
      · obtain ⟨command, ramp, accumulator, follow⟩ := h.of_outOfService out
        exact actuatorOk_outOfService ok out command ramp accumulator follow
      · rw [healthy_supervise, healthy_iff] at h
        exact absurd out h.1
    · rw [put_other _ e]
      exact .refl ..
  · by_cases e : k = n
    · subst e
      rw [put_self, put_self]
      have := outputFor_follows { s.actuators[k] with cfg := w.cfg, feedback := configuredFeedback w.cfg s }
        (put s.outputs k { s.outputs[k] with pendingPeriod := some w.period, polarity := w.polarity })[k]
      simpa [OutputFollows, releases_supervise, runsOutput_supervise] using this
    · rwa [put_other _ e, put_other _ e, put_other _ e]

theorem keeps_configureActuatorOwner (m : Master) (r : RawActuator) (s : State) :
    Keeps s (configureActuatorOwner m r s).1 := by
  unfold configureActuatorOwner
  split
  · exact .refl s
  next n _ =>
    dsimp only
    split
    · exact .refl s
    · split
      · exact .refl s
      next out =>
        split
        · exact .refl s
        · split
          · exact .refl s
          next w accepted => exact keeps_configure (not_not.1 out) (actWrite?_ok accepted)

theorem keeps_setServiceInOwner (m : Master) (actuator : Byte) (s : State) :
    Keeps s (setServiceInOwner m actuator s).1 := by
  unfold setServiceInOwner
  split
  · exact .refl s
  next n _ =>
    dsimp only
    split
    · exact .refl s
    next kind =>
      split
      · exact .refl s
      · split
        · exact .refl s
        next untripped =>
          split
          · exact .refl s
          next out =>
            split
            · exact .refl s
            · split
              · exact .refl s
              · refine keeps_putActuator ⟨fun ok => ok.serviceEntry (not_not.1 out) kind, fun _ => .inr (by simpa using untripped),
                  fun h => .inl ?_⟩
                have follow : (serviceEntry s.actuators[n]).follow = s.actuators[n].follow := by
                  unfold serviceEntry; dsimp only; split <;> rfl
                rwa [follow] at h

theorem keeps_setServiceOutOwner (m : Master) (actuator : Byte) (s : State) :
    Keeps s (setServiceOutOwner m actuator s).1 := by
  unfold setServiceOutOwner
  split
  · exact .refl s
  next n _ =>
    have left : Keeps s (putActuator n (serviceExit s.actuators[n]) s) :=
      keeps_putActuator ⟨fun ok => actuatorOk_serviceExit ok.1, fun h => absurd rfl (healthy_iff.1 h).1,
        fun h => absurd rfl h⟩
    dsimp only
    split
    · exact .refl s
    · split
      · exact .refl s
      · split
        · exact .refl s
        · split
          · exact .refl s
          · exact left

theorem keeps_clearFaultOwner (m : Master) (actuator : Byte) (s : State) : Keeps s (clearFaultOwner m actuator s).1 := by
  unfold clearFaultOwner
  split
  · exact .refl s
  next n _ =>
    dsimp only
    split
    · exact .refl s
    · split
      · exact .refl s
      next untripped =>
        split
        · exact .refl s
        next faulted =>
          split
          · exact .refl s
          · refine keeps_putActuator ⟨fun ok => ok.clearedEntry (not_not.1 faulted), fun _ => .inr (by simpa using untripped),
              fun h => .inl ?_⟩
            have follow : (clearedEntry s.actuators[n]).follow = s.actuators[n].follow := by
              unfold clearedEntry; dsimp only; split <;> rfl
            rwa [follow] at h

/-! ### The field channels (R161, R166) -/

theorem keeps_configureCaptureOwner (r : RawCapture) (s : State) : Keeps s (configureCaptureOwner r s).1 := by
  unfold configureCaptureOwner
  split
  · exact .refl s
  · split
    · exact .refl s
    · split
      · exact .refl s
      · exact keeps_ite ((keeps_putCapture ..).trans (keeps_reportCapture ..)) (keeps_putCapture ..)

theorem keeps_setDebounceOwner (input time : Byte) (s : State) : Keeps s (setDebounceOwner input time s).1 := by
  unfold setDebounceOwner
  split
  · exact .refl s
  · exact (keeps_putInput ..).trans (keeps_judgeInput ..)

/-! ### GOV, STB and SRX (R128 to R131, R145, R147) -/

theorem keeps_governorSettingsOwner (m : Master) (r : RawGovernor) (s : State) :
    Keeps s (governorSettingsOwner m r s).1 := by
  unfold governorSettingsOwner
  split
  · exact .refl s
  · split
    · exact .refl s
    next valid => exact keeps_governor (fun h => h.withSettings (not_not.1 valid)) id

theorem keeps_modeOnOwner (m : Master) (s : State) : Keeps s (modeOnOwner m s).1 := by
  unfold modeOnOwner
  split
  · exact .refl s
  · exact keeps_ite (keeps_putGovernor (fun h => h.switchedOn) fun e => nomatch e) (.refl s)

theorem keeps_modeOffOwner (m : Master) (s : State) : Keeps s (modeOffOwner m s).1 := by
  unfold modeOffOwner
  split
  · exact .refl s
  · exact keeps_ite (.refl s) (keeps_switchOff s)

theorem keeps_modeOtherOwner (m : Master) (s : State) : Keeps s (modeOtherOwner m s).1 := by
  unfold modeOtherOwner
  split <;> exact .refl s

/-- An enabled entry under a new configuration is as it may be (R145). -/
theorem StationOk.configured {x : Station} (h : StationOk x) (enabled : Bool) (address setpoint staleTime : Nat) :
    StationOk (configuredStation enabled address setpoint staleTime x) := by
  unfold configuredStation
  dsimp only
  split
  next kept =>
    obtain ⟨disabled, reading, timer⟩ := h
    exact ⟨fun e => absurd kept.2.1 (by simp [show enabled = false from e]), reading, timer⟩
  next => exact stationOk_never _

theorem configuredStation_address (enabled : Bool) (address setpoint staleTime : Nat) (x : Station) :
    (configuredStation enabled address setpoint staleTime x).address = address ∧
      (configuredStation enabled address setpoint staleTime x).enabled = enabled := by
  unfold configuredStation
  dsimp only
  split <;> exact ⟨rfl, rfl⟩

theorem keeps_configureStationOwner (m : Master) (r : RawStation) (s : State) :
    Keeps s (configureStationOwner m r s).1 := by
  unfold configureStationOwner
  split
  · exact .refl s
  · split
    next k enabled address setpoint staleTime _ _ _ _ _ =>
      split
      · exact .refl s
      next free =>
        obtain ⟨at_address, is_enabled⟩ :=
          configuredStation_address enabled address setpoint staleTime s.stations[k]
        refine keeps_changeStation fun ok => ⟨(ok.1 k).configured .., fun e j ne ej taken => ?_⟩
        rw [is_enabled] at e
        rw [at_address] at taken
        refine free ⟨e, List.any_eq_true.2 ⟨j, List.mem_finRange j, ?_⟩⟩
        simp only [Bool.and_eq_true, bne_iff_ne, beq_iff_eq]
        exact ⟨⟨ne, ej⟩, taken⟩
    next => exact .refl s

theorem keeps_stationLineOwner (m : Master) (baud : Half) (s : State) : Keeps s (stationLineOwner m baud s).1 := by
  unfold stationLineOwner
  split
  · exact .refl s
  · split
    · exact .refl s
    · exact keeps_ite (.refl s) (keeps_receiver ..)

end Sys2Proof.Machine
end

section
/-! SUPPORT. What every step keeps: the requests, the links, the resets and the passing of time, and with them every command
and every step. -/

namespace Sys2Proof.Machine

/-! ### Requests at the ports -/

theorem keeps_acceptFrame (m : Master) (s : State) : Keeps s (acceptFrame m s) := keeps_setPort ..

theorem keeps_respond (q : Req) (code : Byte) (r : State × Reply) : Keeps r.1 (respond q code r) := keeps_setPort ..

theorem keeps_refuse (c : RefusalCode) (s : State) : Keeps s (refuse c s).1 := .refl s

theorem keeps_of_read {s : State} {r : State × Reply} (h : r.1 = s) : Keeps s r.1 := by rw [h]; exact .refl s

theorem keeps_linkSettingsOwner (m : Master) (r : RawLink) (s : State) : Keeps s (linkSettingsOwner m r s).1 := by
  unfold linkSettingsOwner
  split
  · exact .refl s
  · exact keeps_setPort ..

theorem readDescriptorOwner_state (slot : Byte) (s : State) : (readDescriptorOwner slot s).1 = s := by
  unfold readDescriptorOwner; split <;> rfl

theorem readProfileOwner_state (first count : Byte) (s : State) : (readProfileOwner first count s).1 = s := by
  unfold readProfileOwner; (repeat' split) <;> rfl

theorem readChainOwner_state (group : Byte) (s : State) : (readChainOwner group s).1 = s := by
  unfold readChainOwner; split <;> rfl

theorem readCursorsOwner_state (group : Byte) (s : State) : (readCursorsOwner group s).1 = s := by
  unfold readCursorsOwner; split <;> rfl

theorem readConfigurationOwner_state (actuator : Byte) (s : State) : (readConfigurationOwner actuator s).1 = s := by
  unfold readConfigurationOwner; split <;> rfl

theorem readStatusOwner_state (actuator : Byte) (s : State) : (readStatusOwner actuator s).1 = s := by
  unfold readStatusOwner; split <;> rfl

theorem readMeasurementOwner_state (channel : Byte) (s : State) : (readMeasurementOwner channel s).1 = s := by
  unfold readMeasurementOwner; split <;> rfl

theorem readStationOwner_state (entry : Byte) (s : State) : (readStationOwner entry s).1 = s := by
  unfold readStationOwner; split <;> rfl

theorem readLinkOwner_state (link : Byte) (s : State) : (readLinkOwner link s).1 = s := by
  unfold readLinkOwner; split <;> rfl

theorem keeps_serve (i : Instr) (s : State) : Keeps s (serve i s).1 := by
  cases i with
  | claim q set => exact keeps_claimOwner ..
  | release q set => exact keeps_releaseOwner ..
  | writeDescriptor q slot r => exact keeps_writeDescriptorOwner ..
  | freeDescriptor q slot => exact keeps_freeDescriptorOwner ..
  | writeProfile q first vs => exact keeps_writeProfileOwner ..
  | runChain q group slot => exact keeps_runChainOwner ..
  | cancelChain q group => exact keeps_cancelChainOwner ..
  | resumeRetry q group => exact keeps_resumeRetryOwner ..
  | resumeSkip q group => exact keeps_resumeSkipOwner ..
  | writeCursor q group cursor value => exact keeps_writeCursorOwner ..
  | configureActuator q r => exact keeps_configureActuatorOwner ..
  | setServiceIn q n => exact keeps_setServiceInOwner ..
  | setServiceOut q n => exact keeps_setServiceOutOwner ..
  | clearFault q n => exact keeps_clearFaultOwner ..
  | configureCapture q r => exact keeps_configureCaptureOwner ..
  | setDebounce q input time => exact keeps_setDebounceOwner ..
  | governorSettings q r => exact keeps_governorSettingsOwner ..
  | governorModeOn q => exact keeps_modeOnOwner ..
  | governorModeOff q => exact keeps_modeOffOwner ..
  | configureStation q r => exact keeps_configureStationOwner ..
  | stationLineSettings q baud => exact keeps_stationLineOwner ..
  | linkSettings q r => exact keeps_linkSettingsOwner ..
  | clearAttention q flags => exact keeps_setPort ..
  | setMask q flags => exact keeps_setPort ..
  | readDescriptor q slot => exact keeps_of_read (readDescriptorOwner_state ..)
  | readProfile q first count => exact keeps_of_read (readProfileOwner_state ..)
  | readChain q group => exact keeps_of_read (readChainOwner_state ..)
  | readCursors q group => exact keeps_of_read (readCursorsOwner_state ..)
  | readActuatorConfiguration q n => exact keeps_of_read (readConfigurationOwner_state ..)
  | readActuatorStatus q n => exact keeps_of_read (readStatusOwner_state ..)
  | readMeasurement q c => exact keeps_of_read (readMeasurementOwner_state ..)
  | readStation q entry => exact keeps_of_read (readStationOwner_state ..)
  | readLinkStatus q link => exact keeps_of_read (readLinkOwner_state ..)
  | _ => exact keeps_of_read rfl

theorem keeps_serveParsed (m : Master) (x : Parsed) (s : State) : Keeps s (serveParsed m x s).1 := by
  cases x with
  | command i => exact keeps_serve i s
  | modeOther => exact keeps_modeOtherOwner m s
  | resumeOther g => exact .refl s
  | unknown => exact .refl s
  | badLength => exact .refl s

theorem keeps_serveAtClaims {owner : State → State × Reply} (h : ∀ t, Keeps t (owner t).1) (m : Master) (s : State) :
    Keeps s (serveAtClaims m owner s).1 := by
  unfold serveAtClaims
  split
  · have taken := ((keeps_freeCount s (s.freeCount + 1)).trans (keeps_acceptFrame m _)).trans (h _)
    dsimp only
    split
    · exact taken
    · exact taken.trans (keeps_silenceAtOwners m _)
  · exact (keeps_acceptFrame m s).trans (h _)

theorem keeps_handleFrame (m : Master) (bytes : List Byte) (s : State) : Keeps s (handleFrame m bytes s) := by
  unfold handleFrame
  split
  · dsimp only
    refine Keeps.trans ?_ (keeps_respond ..)
    split
    · exact keeps_serveAtClaims (fun t => keeps_serveParsed ..) m s
    · exact (keeps_acceptFrame m s).trans (keeps_serveParsed ..)
  · exact .refl s

/-! ### The assembler and the port's events -/

theorem keeps_takeEntry (m : Master) (s : State) : Keeps s (takeEntry m s) := by
  unfold takeEntry
  dsimp only
  split
  · exact .refl s
  · split
    · exact keeps_setPort ..
    · exact (keeps_setPort ..).trans (keeps_handleFrame ..)

theorem keeps_drain (fuel : Nat) (m : Master) (s : State) : Keeps s (drain fuel m s) := by
  induction fuel generalizing s with
  | zero => exact .refl s
  | succ fuel ih =>
    unfold drain
    split
    · exact (keeps_takeEntry m s).trans (ih _)
    · exact .refl s

theorem keeps_listenNow (m : Master) (s : State) : Keeps s (listenNow m s) := keeps_drain ..

theorem keeps_receiveCharacter (m : Master) (byte : Byte) (marks : Marks) (s : State) :
    Keeps s (receiveCharacter m byte marks s) := by
  unfold receiveCharacter
  dsimp only
  split
  · exact .refl s
  · exact (keeps_setPort ..).trans (keeps_listenNow ..)

theorem keeps_interByteExpiry (m : Master) (s : State) : Keeps s (interByteExpiry m s) := by
  unfold interByteExpiry
  dsimp only
  split
  · exact keeps_setPort ..
  · exact .refl s

theorem keeps_beginResponse (m : Master) (s : State) : Keeps s (beginResponse m s) := by
  unfold beginResponse
  dsimp only
  split
  · exact keeps_setPort ..
  · exact .refl s

theorem keeps_returnToListen (m : Master) (s : State) : Keeps s (returnToListen m s) :=
  (keeps_setPort ..).trans (keeps_listenNow ..)

theorem keeps_endResponse (m : Master) (s : State) : Keeps s (endResponse m s) := by
  unfold endResponse
  split
  · exact keeps_returnToListen ..
  · exact .refl s

theorem keeps_silenceEvent (m : Master) (s : State) : Keeps s (silenceEvent m s) := by
  unfold silenceEvent
  dsimp only
  split
  · exact (keeps_setPort ..).trans (keeps_silenceAtOwners ..)
  · exact .refl s

theorem keeps_settleFor (fuel : Nat) (m : Master) (s : State) : Keeps s (settleFor fuel m s) := by
  induction fuel generalizing s with
  | zero => exact .refl s
  | succ fuel ih =>
    unfold settleFor
    split
    · exact .refl s
    · exact (keeps_returnToListen m s).trans (ih _)

theorem keeps_answer {owner : State → State × Reply} (h : ∀ t, Keeps t (owner t).1) (q : Req) (code : Byte) (s : State) :
    Keeps s (answer q code owner s) :=
  (((keeps_settleFor ..).trans (keeps_acceptFrame ..)).trans (h _)).trans (keeps_respond ..)

theorem keeps_answerAtClaims {owner : State → State × Reply} (h : ∀ t, Keeps t (owner t).1) (q : Req) (code : Byte)
    (s : State) : Keeps s (answerAtClaims q code owner s) :=
  ((keeps_settleFor ..).trans (keeps_serveAtClaims h ..)).trans (keeps_respond ..)

theorem keeps_dwellExpiry (g : GroupId) (s : State) : Keeps s (dwellExpiry g s) := by
  unfold dwellExpiry
  split
  · rename_i h
    refine keeps_completeAndProceed (runs_of_active ?_)
    simp only [stepExpires, timedWait, Bool.and_eq_true, beq_iff_eq] at h
    exact h.1.1.1
  · exact .refl s

theorem keeps_awaitExpiry (g : GroupId) (s : State) : Keeps s (awaitExpiry g s) := by
  unfold awaitExpiry
  split
  · rename_i h
    refine keeps_failAndProceed (runs_of_active ?_) _
    simp only [stepExpires, timedWait, Bool.and_eq_true, beq_iff_eq] at h
    exact h.1.1.1
  · exact .refl s

end Sys2Proof.Machine
end

section
/-! SUPPORT. What every step keeps: the resets, the passing of time, and with them every command and every step. -/

namespace Sys2Proof.Machine

/-! ### The entry across a panel reset (R30) -/

/-- The safe ramp that a FAULTED valve of safe action GO sets out on anew (R30). -/
def safeRamp (a : Actuator) : Option Ramp :=
  if a.state = .faulted ∧ a.cfg.kind = .valve ∧ a.cfg.safeAction = some .go ∧
      clampTarget a (a.cfg.safeValue.getD 0) ≠ a.command then
    some { target := clampTarget a (a.cfg.safeValue.getD 0), rateStep := rateStep a a.cfg.maxRate, origin := .safe }
  else none

/-- A FAULTED entry without a ramp sets out on its safe ramp and changes in nothing else. -/
theorem resumeSafe_eq {a : Actuator} (ramp : a.ramp = none) (accumulator : a.accumulator = 0) :
    resumeSafe a = { a with ramp := safeRamp a } := by
  unfold resumeSafe safeRamp
  by_cases go : a.state = .faulted ∧ a.cfg.kind = .valve ∧ a.cfg.safeAction = some .go
  · obtain ⟨faulted, valve, safe⟩ := go
    rw [if_pos ⟨faulted, valve, safe⟩]
    unfold requestRamp
    by_cases there : clampTarget a (a.cfg.safeValue.getD 0) = a.command
    · obtain ⟨⟩ := a; simp_all [landRamp]
    · obtain ⟨⟩ := a; simp_all
  · rw [if_neg go, if_neg fun h => go ⟨h.1, h.2.1, h.2.2.1⟩, ← ramp]

theorem resetService_faulted {x : Service} : resetService x = .faulted ↔ x = .faulted := by
  rcases x with _ | _ | _ | _ | (_ | _) | _ | _ | _ <;> simp [resetService]

theorem resetService_outOfService {x : Service} : resetService x = .outOfService ↔ x = .outOfService := by
  rcases x with _ | _ | _ | _ | (_ | _) | _ | _ | _ <;> simp [resetService]

/-- The entry across a panel reset, but for its supervision timers. -/
theorem resetActuator_eq (captures : Table Capture 16) (a : Actuator) :
    resetActuator captures a =
      supervise
        { a with
          state := resetService a.state, ramp := safeRamp a, accumulator := 0, follow := none
          proofTimer := resetProofTimer a, deviationTimer := none, lostTimer := none
          feedback := resetFeedback captures a, slewTimer := slewInterval } := by
  unfold resetActuator
  rw [resumeSafe_eq rfl rfl]
  simp only [safeRamp, resetService_faulted]
  rfl

theorem resetActuator_state (captures : Table Capture 16) (a : Actuator) :
    (resetActuator captures a).state = resetService a.state := by rw [resetActuator_eq, supervise_state]

theorem resetActuator_command (captures : Table Capture 16) (a : Actuator) :
    (resetActuator captures a).command = a.command := by rw [resetActuator_eq, supervise_command]

theorem resetActuator_follow (captures : Table Capture 16) (a : Actuator) :
    (resetActuator captures a).follow = none := by rw [resetActuator_eq, supervise_follow]

theorem resetActuator_cfg (captures : Table Capture 16) (a : Actuator) :
    (resetActuator captures a).cfg = a.cfg := by rw [resetActuator_eq, supervise_cfg]

theorem healthy_resetActuator (captures : Table Capture 16) (a : Actuator) :
    healthy (resetActuator captures a) = true ↔ healthy a = true := by
  simp only [healthy_iff, resetActuator_state, ne_eq, resetService_faulted, resetService_outOfService]

theorem entryKeeps_reset (s : State) (captures : Table Capture 16) (a : Actuator) :
    EntryKeeps s a (resetActuator captures a) :=
  ⟨fun ok => ok.reset captures, fun h => .inl ((healthy_resetActuator captures a).1 h),
    fun h => absurd (resetActuator_follow captures a) h⟩

/-- The channel's part of the reset keeps its agreement with the entry (R45). -/
theorem OutputFollows.reset {a : Actuator} {o : OutputChannel} (h : OutputFollows a o) (captures : Table Capture 16) :
    OutputFollows (resetActuator captures a) (resetOutput a.command o) := by
  obtain ⟨condition, run, -⟩ := h
  unfold OutputFollows releases runsOutput at *
  rw [resetActuator_state, resetActuator_command, resetActuator_cfg]
  refine ⟨condition.trans ?_, run.trans ?_, rfl⟩
  · simp only [Bool.or_eq_true, Bool.and_eq_true, beq_iff_eq, resetService_outOfService, resetService_faulted]
  · rcases a.state with _ | _ | _ | _ | (_ | _) | _ | _ | _ <;> rfl

/-! ### The panel reset (R1) -/

theorem resetExecutor_state (x : Executor) : (resetExecutor x).state = .idle := by
  unfold resetExecutor
  split
  · assumption
  · rfl

/-- Claims freed, chains ended and slots unbound (R46, R102, R104). -/
theorem keeps_resetDispatch (s : State) :
    Keeps s
      { s with
        groupHolders := Vector.replicate 5 none, slots := (unbindSlots (fun _ => true) s).slots
        executors := each (fun _ x => resetExecutor x) s.executors } := by
  have idle : ∀ g : GroupId, (each (fun _ x => resetExecutor x) s.executors)[g].state = .idle := fun g => by
    rw [get_each, resetExecutor_state]
  refine keeps_dispatch (fun ok => ⟨fun g runs => absurd (idle g) runs, fun k => ?_⟩) fun g runs => absurd (idle g) runs
  have belongs := ok.2 k
  dsimp only
  rw [unbindSlots_at]
  generalize s.slots[k] = x at belongs ⊢
  obtain ⟨state, record⟩ := x
  cases state with
  | free => exact belongs
  | written w => trivial
  | bound w g => simp [Unbound]

/-- The blocks that the properties do not speak of. -/
theorem keeps_resetRest (s : State) (govHolder : Option Master) (captures : Table Capture 16)
    (inputs : Table InputFilter 24) (receiver : StationReceiver) (port1 port2 : Port) :
    Keeps s
      { s with
        govHolder := govHolder, captures := captures, inputs := inputs, receiver := receiver, port1 := port1
        port2 := port2 } :=
  SameCore.keeps ⟨rfl, rfl, rfl, rfl, rfl, rfl, rfl, rfl⟩

/-- The entries and channels across the reset (R30, R45). -/
theorem keeps_resetPlant (s : State) (captures : Table Capture 16) :
    Keeps s
      { s with
        actuators := each (fun _ a => resetActuator captures a) s.actuators
        outputs := each (fun n o => resetOutput s.actuators[n].command o) s.outputs } := by
  refine keeps_plant (fun n => ?_) (fun n follows => ?_)
  · rw [get_each]; exact entryKeeps_reset ..
  · rw [get_each, get_each]; exact follows.reset captures

theorem keeps_resetStations (s : State) : Keeps s { s with stations := each (fun _ x => neverState x) s.stations } := by
  refine keeps_stations fun ok => ⟨fun k => ?_, fun j k ne ej ek => ?_⟩
  · rw [get_each]; exact stationOk_never _
  · dsimp only at ej ek ⊢
    rw [get_each] at ej ek ⊢
    rw [get_each]
    exact ok.2 j k ne ej ek

theorem keeps_resetGovernor (s : State) : Keeps s { s with governor := resetGovernor s.governor } :=
  keeps_governor GovernorOk.reset fun off => by
    by_contra on
    simp [resetGovernor, on] at off

theorem keeps_resetBlocks (s : State) : Keeps s (resetBlocks s) := by
  refine (keeps_resetDispatch s).trans ?_
  refine (keeps_resetPlant _ (each (fun _ x => resetCapture x) s.captures)).trans ?_
  refine (keeps_ptrip (x := TripFilter.atReset s.ptrip.raw) fun h => nomatch h).trans ?_
  refine (keeps_resetStations _).trans ?_
  refine (keeps_resetGovernor _).trans ?_
  exact keeps_resetRest _ none (each (fun _ x => resetCapture x) s.captures) (each (fun _ x => resetInput x) s.inputs)
    (resetReceiver s.receiver) (resetPort s.port1) (resetPort s.port2)

theorem keeps_panelReset (s : State) : Keeps s (panelReset s) :=
  (keeps_resetBlocks s).trans (keeps_takeInOpenOrder _ _ _ fun _ _ => keeps_handInputChange ..)

/-! ### Power-on -/

theorem actuatorsOk_reset : ActuatorsOk State.reset := fun n => by
  have same : State.reset.actuators[n] = Actuator.powerOn := Vector.getElem_replicate _
  rw [same]
  exact actuatorOk_powerOn

theorem outputsFollow_reset : OutputsFollow State.reset := fun n => by
  have a : State.reset.actuators[n] = Actuator.powerOn := Vector.getElem_replicate _
  have o : State.reset.outputs[n] = OutputChannel.powerOn := Vector.getElem_replicate _
  rw [a, o]
  exact ⟨by decide, by decide, by decide⟩

theorem tripHeld_reset : TripHeld State.reset := fun h => nomatch h

theorem executor_reset (g : GroupId) : State.reset.executors[g] = Executor.powerOn := Vector.getElem_replicate _

theorem slot_reset (k : SlotId) : State.reset.slots[k] = Slot.powerOn := Vector.getElem_replicate _

theorem dispatchOk_reset : DispatchOk State.reset := by
  refine ⟨fun g runs => absurd ?_ runs, fun k => ?_⟩
  · rw [executor_reset]; rfl
  · rw [slot_reset]; rfl

theorem pressureOk_reset : PressureOk State.reset := by
  refine ⟨by unfold GovernorOk; decide, fun _ n => ?_⟩
  have same : State.reset.actuators[n] = Actuator.powerOn := Vector.getElem_replicate _
  rw [same]; rfl

theorem station_reset (k : StationId) : State.reset.stations[k] = Station.powerOn k := Vector.getElem_ofFn _

theorem stationsOk_reset : StationsOk State.reset := by
  refine ⟨fun k => ?_, fun j k _ enabled => ?_⟩
  · rw [station_reset]
    simp [StationOk, Station.powerOn]
  · rw [station_reset] at enabled
    cases enabled

theorem portOk_powerOn : PortOk Port.powerOn := by simp [PortOk, Port.powerOn]

theorem portsOk_reset : PortsOk State.reset := fun m => by cases m <;> exact portOk_powerOn

/-- After power-on every property holds, whatever was before. -/
theorem keeps_powerOn (s : State) : Keeps s (powerOn s) := by
  have core : SameCore State.reset (powerOn s) := ⟨rfl, rfl, rfl, rfl, rfl, rfl, rfl, rfl⟩
  have k := core.keeps
  exact ⟨fun _ => k.actuators actuatorsOk_reset, fun _ => k.outputs outputsFollow_reset, fun _ => k.trip tripHeld_reset,
    fun _ => k.dispatch dispatchOk_reset, fun _ => k.pressure pressureOk_reset, fun _ => k.stations stationsOk_reset⟩

/-! ### Time -/

theorem keeps_agePlant (s : State) :
    Keeps s
      { s with
        actuators := each (fun _ a => ageActuator a) s.actuators, outputs := each (fun _ o => ageOutput o) s.outputs } := by
  refine keeps_plant_time (fun n => ?_) (fun n => ?_)
  · rw [get_each]; exact ⟨rfl, rfl, rfl, rfl, rfl, rfl⟩
  · rw [get_each]; exact ⟨rfl, rfl, rfl, rfl⟩

theorem keeps_ageStations (s : State) : Keeps s { s with stations := each (fun _ x => ageStation x) s.stations } := by
  refine keeps_stations fun ok => ⟨fun k => ?_, fun j k ne ej ek => ?_⟩
  · rw [get_each]; exact (ok.1 k).age
  · dsimp only at ej ek ⊢
    rw [get_each] at ej ek ⊢
    rw [get_each]
    exact ok.2 j k ne ej ek

theorem keeps_ageGovernor (s : State) : Keeps s { s with governor := ageGovernor s.governor } :=
  keeps_governor GovernorOk.age id

theorem keeps_ageExecutors (s : State) : Keeps s { s with executors := each (fun _ x => ageExecutor x) s.executors } :=
  keeps_executors fun g => by rw [get_each]; exact ⟨rfl, Iff.rfl⟩

/-- The blocks that the properties do not speak of, with time's count. -/
theorem keeps_ageRest (s : State) (captures : Table Capture 16) (counter : Stamp) (inputs : Table InputFilter 24)
    (receiver : StationReceiver) (port1 port2 : Port) :
    Keeps s
      { s with
        captures := captures, counter := counter, inputs := inputs, receiver := receiver, port1 := port1
        port2 := port2 } :=
  SameCore.keeps ⟨rfl, rfl, rfl, rfl, rfl, rfl, rfl, rfl⟩

theorem keeps_advanceTime (s : State) : Keeps s (advanceTime s) := by
  refine (keeps_agePlant s).trans ?_
  refine (keeps_ptrip (x := ageTrip s.ptrip) (by exact id)).trans ?_
  refine (keeps_ageStations _).trans ?_
  refine (keeps_ageGovernor _).trans ?_
  refine (keeps_ageExecutors _).trans ?_
  exact keeps_ageRest _ (each (fun _ x => ageCapture x) s.captures) (s.counter + 1) (each (fun _ x => ageInput x) s.inputs)
    (runReceiver 16 s.receiver) (agePort s.port1) (agePort s.port2)

end Sys2Proof.Machine
end

section
/-! SUPPORT. What every command and every step keep. -/

namespace Sys2Proof.Machine

/-! ### Requests and events as commands -/

/-- A request that claims bear on, as a command: `serve`'s owner takes it, under one code. -/
theorem exec_atClaims {i : Instr} {q : Req} (claims : claimsBearOn i = true) (request : requestOf i = some q) :
    ∃ code : Byte, (∀ c payload, requestBytes i = some (c, payload) → code = c) ∧
      ∀ s, exec i s = .next (answerAtClaims q code (serve i) s) := by
  cases i <;> simp only [claimsBearOn, Bool.false_eq_true] at claims <;> cases request <;>
    exact ⟨_, fun _ _ e => by cases e; rfl, fun _ => rfl⟩

/-- Any other request, as a command. -/
theorem exec_plain {i : Instr} {q : Req} (claims : claimsBearOn i = false) (request : requestOf i = some q) :
    ∃ code : Byte, (∀ c payload, requestBytes i = some (c, payload) → code = c) ∧
      ∀ s, exec i s = .next (answer q code (serve i) s) := by
  cases i <;> simp only [claimsBearOn, Bool.true_eq_false] at claims <;> cases request
  case unknownRequest code => exact ⟨code, fun _ _ e => (by cases e), fun _ => rfl⟩
  case badLength code length => exact ⟨code, fun _ _ e => (by cases e), fun _ => rfl⟩
  all_goals exact ⟨_, fun _ _ e => by cases e; rfl, fun _ => rfl⟩

/-- A command that is no request is an event that can come due, or one of six others. -/
theorem exec_event {i : Instr} (request : requestOf i = none) :
    TakenAsCommanded i ∨ i = .powerOnReset ∨ i = .panelReset ∨ (∃ d level, i = .rawLevelChange d level) ∨
      (∃ level, i = .ptripRawChange level) ∨ i = .stationFirstHighSample ∨ ∃ count, i = .stationStopBitLow count := by
  cases i
  case powerOnReset => exact .inr (.inl rfl)
  case panelReset => exact .inr (.inr (.inl rfl))
  case rawLevelChange d level => exact .inr (.inr (.inr (.inl ⟨d, level, rfl⟩)))
  case ptripRawChange level => exact .inr (.inr (.inr (.inr (.inl ⟨level, rfl⟩))))
  case stationFirstHighSample => exact .inr (.inr (.inr (.inr (.inr (.inl rfl)))))
  case stationStopBitLow count => exact .inr (.inr (.inr (.inr (.inr (.inr ⟨count, rfl⟩)))))
  all_goals first | (cases request; done) | exact .inl fun _ => rfl

theorem Keeps.of_next {s t u : State} (h : Keeps s u) (e : Host.Outcome.next u = (.next t : Host.Outcome State Fault Refusal)) :
    Keeps s t := by
  cases e; exact h

/-- An event keeps every property. -/
theorem keeps_eventOutcome (i : Instr) (s t : State) (h : eventOutcome i s = .next t) : Keeps s t := by
  cases i with
  | linkCharacterReceived m byte marks => exact (keeps_receiveCharacter ..).of_next h
  | interByteTimeout m => exact (keeps_interByteExpiry ..).of_next h
  | turnaroundEnd m => exact (keeps_beginResponse ..).of_next h
  | responseSent m => exact (keeps_endResponse ..).of_next h
  | silenceExpiry m => exact (keeps_silenceEvent ..).of_next h
  | stationCharacter byte noisy =>
    exact (keeps_takeStationEvent (fun u => keeps_stationByte byte noisy u) ..).of_next h
  | stationFramingError => exact (keeps_takeStationEvent keeps_stationFraming ..).of_next h
  | stationBreak => exact (keeps_takeStationEvent keeps_stationBreakEvent ..).of_next h
  | staleTimerExpiry k => exact (keeps_staleExpiry ..).of_next h
  | governorEvaluation => exact (keeps_evaluateGovernor ..).of_next h
  | holdTimerExpiry => exact (keeps_holdExpiry ..).of_next h
  | slewExpiry n => exact (keeps_slewTick ..).of_next h
  | periodEnd n => exact (keeps_endPeriod ..).of_next h
  | proofTimerExpiry n => exact (keeps_proofExpiry ..).of_next h
  | deviationTimerExpiry n => exact (keeps_deviationExpiry ..).of_next h
  | feedbackLostTimerExpiry n => exact (keeps_lostExpiry ..).of_next h
  | discreteInputChange d level => exact (keeps_changeInput ..).of_next h
  | tripAssertion => exact (keeps_assertTrip ..).of_next h
  | tripDeassertion => exact (keeps_deassertTrip ..).of_next h
  | frequencyMeasurement c stamp => exact (keeps_takeEdge ..).of_next h
  | dutyMeasurement c stamp => exact (keeps_takeEdge ..).of_next h
  | captureTimeoutExpiry c => exact (keeps_captureExpiry ..).of_next h
  | captureSpanOverflow c => exact (keeps_spanOverflow ..).of_next h
  | dwellExpiry g => exact (keeps_dwellExpiry ..).of_next h
  | awaitTimeout g => exact (keeps_awaitExpiry ..).of_next h
  | captureEdge c rising stamp => exact (keeps_takeEdge ..).of_next h
  | _ => exact (Keeps.refl s).of_next h

/-- The events that have come due keep every property. -/
theorem keeps_takeDueEvents (s : State) : Keeps s (takeDueEvents s) := by
  unfold takeDueEvents
  generalize (dueEvents s).length = k
  induction k generalizing s with
  | zero => exact .refl s
  | succ k ih =>
    unfold takeDueUpTo
    split
    · exact .refl s
    · rename_i i u e
      obtain ⟨-, c, rfl⟩ := nextDue_some e
      refine ((keeps_freeCount s c).trans ?_).trans (ih _)
      cases o : eventOutcome i { s with freeCount := c } with
      | next t => exact keeps_eventOutcome i _ t o
      | fault f => exact .refl _
      | refused r => exact .refl _

/-- A command that is no request and no reset is an event, or a change of a raw level or of the sampler. -/
theorem keeps_exec (i : Instr) (s t : State) (h : exec i s = .next t) : Keeps s t := by
  cases request : requestOf i with
  | some q =>
    cases claims : claimsBearOn i with
    | true =>
      obtain ⟨code, -, e⟩ := exec_atClaims claims request
      exact (keeps_answerAtClaims (keeps_serve i) ..).of_next ((e s).symm.trans h)
    | false =>
      obtain ⟨code, -, e⟩ := exec_plain claims request
      exact (keeps_answer (keeps_serve i) ..).of_next ((e s).symm.trans h)
  | none =>
    rcases exec_event request with event | rfl | rfl | ⟨d, level, rfl⟩ | ⟨level, rfl⟩ | rfl | ⟨count, rfl⟩
    · exact keeps_eventOutcome i s t ((event s).trans h)
    · exact (keeps_powerOn s).of_next h
    · exact ((keeps_takeDueEvents s).trans (keeps_panelReset _)).of_next h
    · exact (keeps_changeRaw ..).of_next h
    · exact (keeps_changeTripRaw ..).of_next h
    · exact (keeps_ite (keeps_receiver ..) (.refl s)).of_next h
    · exact (keeps_stationStopLow ..).of_next h

/-! ### Every step -/

/-- A step is a command on the state with another queue and count of choices, or the passing of time. -/
theorem step_cases {s t : State} (h : step s = .next t) :
    (∃ (i : Instr) (k : Nat) (rest : List Instr), exec i { s with freeCount := k, pending := rest } = .next t) ∨
      t = advanceTime s := by
  unfold step at h
  split at h
  · exact .inl ⟨_, _, _, h⟩
  · unfold passTime at h
    split at h
    · rename_i i u e
      obtain ⟨-, k, rfl⟩ := nextDue_some e
      exact .inl ⟨i, k, _, h⟩
    · cases h; exact .inr rfl

theorem keeps_step {s t : State} (h : step s = .next t) : Keeps s t := by
  rcases step_cases h with ⟨i, k, rest, e⟩ | rfl
  · exact ((keeps_pending s rest).trans (keeps_freeCount _ k)).trans (keeps_exec i _ t e)
  · exact keeps_advanceTime s

end Sys2Proof.Machine

namespace Sys2Proof

open Machine

/-- Settles O54, by evaluating each property at the power-on values. -/
theorem resetHasInvariants : Obligations.ResetHasInvariants :=
  ⟨actuatorsOk_reset, outputsFollow_reset, tripHeld_reset, dispatchOk_reset, pressureOk_reset, stationsOk_reset, portsOk_reset⟩

/-- Settles O55, by what each elementary change of an entry keeps. -/
theorem stepKeepsActuators : Obligations.StepKeepsActuators := fun _ _ ok h => (keeps_step h).actuators ok

/-- Settles O56, by the same cases: each change of an entry comes with that of its channel. -/
theorem stepKeepsOutputs : Obligations.StepKeepsOutputs := fun _ _ ok h => (keeps_step h).outputs ok

/-- Settles O57: under an asserted PTRIP no entry can become healthy and no chain can start. -/
theorem stepKeepsTrip : Obligations.StepKeepsTrip := by
  refine ⟨fun _ _ held h => (keeps_step h).trip held, fun s held follows asserted n => ?_⟩
  obtain ⟨sick, -⟩ := held asserted
  obtain ⟨-, run, -⟩ := follows n
  have off := sick n
  rw [run]
  rw [← Bool.not_eq_true, healthy_iff, not_and_or, not_not, not_not] at off
  rcases off with e | e <;> rw [runsOutput, e] <;> rfl

/-- Settles O58, by the changes of claims, chain records and slots that go together. -/
theorem stepKeepsDispatch : Obligations.StepKeepsDispatch := fun _ _ ok h => (keeps_step h).dispatch ok

/-- Settles O59, by the changes of the governor, of the followers and of the station entries. -/
theorem stepKeepsPressure : Obligations.StepKeepsPressure :=
  fun _ _ pressure stations h => ⟨(keeps_step h).pressure pressure, (keeps_step h).stations stations⟩

end Sys2Proof
end

section
/-! SUPPORT. The ports under what the owners and the events of the other blocks do: their flags, their mask and the settings
that they hold pending may change, and nothing else of them. -/

namespace Sys2Proof.Machine

/-- Of both ports the flags, the mask and the pending settings alone may differ. -/
structure Aside (s t : State) : Prop where
  ports : ∀ m, port m t =
    { port m s with flags := (port m t).flags, mask := (port m t).mask, pendingLine := (port m t).pendingLine }

theorem Aside.refl (s : State) : Aside s s := ⟨fun _ => rfl⟩

theorem Aside.trans {s t u : State} (h : Aside s t) (k : Aside t u) : Aside s u := ⟨fun m => by rw [k.ports m, h.ports m]⟩

theorem Around.aside {s t : State} (h : Around s t) : Aside s t := ⟨fun m => by rw [h.port m]⟩

theorem aside_of_ports {s t : State} (h : ∀ m, port m t = port m s) : Aside s t := ⟨fun m => by rw [h m]⟩

theorem aside_of_fields {s t : State} (h1 : t.port1 = s.port1) (h2 : t.port2 = s.port2) : Aside s t :=
  aside_of_ports fun m => by cases m <;> assumption

/-- A change of a port's flags, mask or pending settings. -/
theorem aside_setPort (m : Master) (p : Port) (s : State)
    (h : p = { port m s with flags := p.flags, mask := p.mask, pendingLine := p.pendingLine }) :
    Aside s (setPort m p s) := by
  refine ⟨fun n => ?_⟩
  by_cases e : n = m
  · subst e; rw [port_setPort_self]; exact h
  · have other : n = m.other := by cases n <;> cases m <;> first | rfl | exact absurd rfl e
    rw [other, port_setPort_other]

theorem aside_setFlag (m : Master) (f : Attention) (s : State) : Aside s (setFlag m f s) := aside_setPort _ _ _ rfl

theorem aside_setFlagBoth (f : Attention) (s : State) : Aside s (setFlagBoth f s) :=
  (aside_setFlag ..).trans (aside_setFlag ..)

theorem aside_ite {c : Prop} [Decidable c] {s t u : State} (h : Aside s t) (k : Aside s u) :
    Aside s (if c then t else u) := by
  split
  · exact h
  · exact k

theorem aside_foldl {α : Type} (act : State → α → State) (xs : List α) (s : State) (h : ∀ x t, Aside t (act t x)) :
    Aside s (xs.foldl act s) :=
  foldl_keeps (P := Aside s) act xs s (fun x t k => k.trans (h x t)) (.refl s)

theorem aside_takeInOpenOrder {α : Type} (act : α → State → State) (xs : List α) (s : State)
    (h : ∀ x t, Aside t (act x t)) : Aside s (takeInOpenOrder act xs s) :=
  takeInOpenOrder_keeps (P := Aside s) act xs s (fun t k e => e.trans (aside_of_fields (t := { t with freeCount := k }) rfl rfl))
    (fun x _ t e => e.trans (h x t)) (.refl s)

theorem aside_putActuator (n : ActId) (a : Actuator) (s : State) : Aside s (putActuator n a s) := aside_of_fields rfl rfl

theorem aside_putInput (d : InputId) (x : InputFilter) (s : State) : Aside s (putInput d x s) := aside_of_fields rfl rfl

theorem aside_putCapture (c : CaptureId) (x : Capture) (s : State) : Aside s (putCapture c x s) := aside_of_fields rfl rfl

theorem aside_putSlot (k : SlotId) (x : Slot) (s : State) : Aside s (putSlot k x s) := aside_of_fields rfl rfl

theorem aside_profile (rows : Table Half 64) (s : State) : Aside s { s with profile := rows } := aside_of_fields rfl rfl

theorem aside_counter (stamp : Stamp) (k : Nat) (s : State) : Aside s { s with counter := stamp, freeCount := k } :=
  aside_of_fields rfl rfl

theorem aside_freeSlotsOf (m : Master) (s : State) : Aside s (freeSlotsOf m s) :=
  aside_of_ports fun n => by cases n <;> simp only [freeSlotsOf, port]

/-! ### The field side -/

theorem aside_handInputChange (d : InputId) (level : Bool) (s : State) : Aside s (handInputChange d level s) :=
  aside_takeInOpenOrder _ _ _ fun _ _ => (around_takeInputUse ..).aside

theorem aside_changeInput (d : InputId) (level : Bool) (s : State) : Aside s (changeInput d level s) :=
  aside_ite (.refl s) ((aside_putInput ..).trans (aside_handInputChange ..))

theorem aside_judgeInput (d : InputId) (s : State) : Aside s (judgeInput d s) := aside_ite (aside_changeInput ..) (.refl s)

theorem aside_changeRaw (d : InputId) (level : Bool) (s : State) : Aside s (changeRaw d level s) :=
  aside_ite (.refl s) ((aside_putInput ..).trans (aside_judgeInput ..))

theorem aside_assertTrip (s : State) : Aside s (assertTrip s) := by
  refine aside_ite (.refl s) (Aside.trans ?_ (around_reportSafeLandings ..).aside)
  refine Aside.trans (Aside.trans (Aside.trans ?_ (aside_foldl _ _ _ fun _ _ => (around_tripFault ..).aside))
    (aside_foldl _ _ _ fun _ _ => (around_endIfRunning ..).aside)) (aside_setFlagBoth ..)
  exact aside_of_fields rfl rfl

theorem aside_deassertTrip (s : State) : Aside s (deassertTrip s) := aside_ite (aside_of_fields rfl rfl) (.refl s)

theorem aside_changeTripRaw (level : Bool) (s : State) : Aside s (changeTripRaw level s) :=
  aside_ite (.refl s) (aside_of_fields rfl rfl)

theorem aside_slewTick (n : ActId) (s : State) : Aside s (slewTick n s) := by
  unfold slewTick
  dsimp only
  split
  · exact aside_of_fields rfl rfl
  · split
    · exact (aside_putActuator ..).trans (around_reportLanded ..).aside
    · exact aside_putActuator ..

theorem aside_proofExpiry (n : ActId) (s : State) : Aside s (proofExpiry n s) := by
  unfold proofExpiry
  dsimp only
  split
  · exact (around_raiseFault ..).aside
  · exact (around_raiseFault ..).aside
  · exact .refl s

theorem aside_deviationExpiry (n : ActId) (s : State) : Aside s (deviationExpiry n s) := by
  unfold deviationExpiry
  split
  · exact (around_raiseFault ..).aside
  · exact .refl s

theorem aside_lostExpiry (n : ActId) (s : State) : Aside s (lostExpiry n s) := by
  unfold lostExpiry
  split
  · exact (around_raiseFault ..).aside
  · exact .refl s

theorem aside_takeReport (c : CaptureId) (t : ReportTaker) (s : State) : Aside s (takeReport c t s) := by
  cases t with
  | actuator n => exact aside_ite (.refl s) ((aside_putActuator ..).trans (around_reportFeedback ..).aside)
  | executor g => exact aside_ite (around_completeAndProceed ..).aside (.refl s)

theorem aside_reportCapture (c : CaptureId) (completed : Bool) (s : State) : Aside s (reportCapture c completed s) :=
  aside_takeInOpenOrder _ _ _ fun _ _ => aside_takeReport ..

theorem aside_takeEdge (c : CaptureId) (rising : Bool) (stamp : Stamp) (s : State) : Aside s (takeEdge c rising stamp s) :=
  aside_ite
    (aside_ite (((aside_counter ..).trans (aside_putCapture ..)).trans (aside_reportCapture ..))
      ((aside_counter ..).trans (aside_putCapture ..)))
    ((aside_counter stamp s.freeCount s).trans (aside_putCapture ..))

theorem aside_timeOutCapture (c : CaptureId) (s : State) : Aside s (timeOutCapture c s) :=
  aside_ite ((aside_putCapture ..).trans (aside_reportCapture ..)) (aside_putCapture ..)

theorem aside_captureExpiry (c : CaptureId) (s : State) : Aside s (captureExpiry c s) := by
  unfold captureExpiry
  split
  · exact aside_timeOutCapture ..
  · exact .refl s

theorem aside_spanOverflow (c : CaptureId) (s : State) : Aside s (spanOverflow c s) := by
  unfold spanOverflow
  split
  · exact .refl s
  · exact aside_ite (aside_timeOutCapture ..) (.refl s)

theorem aside_dwellExpiry (g : GroupId) (s : State) : Aside s (dwellExpiry g s) :=
  aside_ite (around_completeAndProceed ..).aside (.refl s)

theorem aside_awaitExpiry (g : GroupId) (s : State) : Aside s (awaitExpiry g s) :=
  aside_ite (around_failAndProceed ..).aside (.refl s)

/-! ### The governor and the stations -/

theorem aside_putGovernor (g : Governor) (s : State) : Aside s (putGovernor g s) :=
  aside_ite (aside_of_fields rfl rfl)
    (Aside.trans (t := { s with governor := g }) (aside_of_fields rfl rfl) (aside_setFlagBoth ..))

theorem aside_evaluateGovernor (s : State) : Aside s (evaluateGovernor s) :=
  aside_ite (aside_of_fields rfl rfl) ((aside_putGovernor ..).trans (around_handDemand ..).aside)

theorem aside_holdExpiry (s : State) : Aside s (holdExpiry s) := by
  unfold holdExpiry
  split
  · exact aside_putGovernor ..
  · exact .refl s

theorem aside_changeStation (k : StationId) (x : Station) (s : State) : Aside s (changeStation k x s) :=
  aside_ite (aside_of_fields rfl rfl)
    (Aside.trans (t := putStation k x s) (aside_of_fields rfl rfl) (aside_setFlagBoth ..))

theorem aside_takeStationFrame (address sequence : Byte) (dp : Nat) (q : Quality) (s : State) :
    Aside s (takeStationFrame address sequence dp q s) := by
  unfold takeStationFrame
  split
  · exact aside_of_fields rfl rfl
  · exact aside_ite (aside_of_fields rfl rfl) (aside_changeStation ..)

theorem aside_checkStationFrame (bytes : List (Byte × Bool)) (s : State) : Aside s (checkStationFrame bytes s) := by
  unfold checkStationFrame
  split
  · exact aside_ite (aside_takeStationFrame ..) (aside_of_fields rfl rfl)
  · exact .refl s

theorem aside_stationByte (b : Byte) (noisy : Bool) (s : State) : Aside s (stationByte b noisy s) := by
  unfold stationByte
  split
  · exact .refl s
  · exact aside_of_fields rfl rfl
  · exact aside_ite (aside_of_fields rfl rfl)
      (Aside.trans (t := putAssembler .hunt s) (aside_of_fields rfl rfl) (aside_checkStationFrame ..))

theorem aside_stationFraming (s : State) : Aside s (stationFraming s) := by
  unfold stationFraming; split <;> exact aside_of_fields rfl rfl

theorem aside_stationBreakEvent (s : State) : Aside s (stationBreakEvent s) := by
  unfold stationBreakEvent; split <;> exact aside_of_fields rfl rfl

theorem aside_takeStationEvent {hand : State → State} (h : ∀ s, Aside s (hand s)) (e : StationEvent) (may : Bool)
    (after : Sampler) (low : Nat) (s : State) : Aside s (takeStationEvent e may after low hand s) :=
  aside_ite (Aside.trans (t := { s with receiver := { s.receiver with decided := none } }) (aside_of_fields rfl rfl) (h _))
    (aside_ite (Aside.trans (t := putSampler after low s) (aside_of_fields rfl rfl) (h _)) (.refl s))

theorem aside_staleExpiry (k : StationId) (s : State) : Aside s (staleExpiry k s) := by
  unfold staleExpiry
  split
  · exact aside_changeStation ..
  · exact .refl s

/-! ### The owners -/

theorem aside_mapHolders (f : Resource → Option Master → Option Master) (s : State) : Aside s (mapHolders f s) :=
  aside_of_fields rfl rfl

theorem aside_endClaims (m : Master) (which : Resource → Bool) (s : State) : Aside s (endClaims m which s) :=
  (aside_mapHolders ..).trans (aside_foldl _ _ _ fun _ t => aside_ite (around_endIfRunning ..).aside (.refl t))

theorem aside_silenceAtOwners (m : Master) (s : State) : Aside s (silenceAtOwners m s) := by
  have freed : Aside s (setFlag m .claimLost (freeSlotsOf m (endClaims m (fun _ => true) s))) :=
    ((aside_endClaims ..).trans (aside_freeSlotsOf ..)).trans
      (aside_setFlag ..)
  exact aside_ite (freed.trans (aside_setFlag ..)) freed

theorem aside_claimOwner (m : Master) (set : Byte) (s : State) : Aside s (claimOwner m set s).1 := by
  unfold claimOwner
  dsimp only
  split
  · exact .refl s
  · split
    · exact .refl s
    · exact aside_ite ((aside_mapHolders ..).trans (aside_setFlag ..)) (aside_mapHolders ..)

theorem aside_releaseOwner (m : Master) (set : Byte) (s : State) : Aside s (releaseOwner m set s).1 := by
  unfold releaseOwner
  dsimp only
  split
  · exact .refl s
  · exact aside_ite ((aside_endClaims ..).trans (aside_setFlag ..)) (aside_endClaims ..)

theorem aside_of_state {s : State} {r : State × Reply} (h : r.1 = s) : Aside s r.1 := by rw [h]; exact .refl s

theorem aside_writeDescriptorOwner (m : Master) (slot : Byte) (r : RawDescriptor) (s : State) :
    Aside s (writeDescriptorOwner m slot r s).1 := by
  unfold writeDescriptorOwner
  split
  · exact .refl s
  · split
    · exact .refl s
    · dsimp only
      exact aside_putSlot ..

theorem aside_freeDescriptorOwner (m : Master) (slot : Byte) (s : State) : Aside s (freeDescriptorOwner m slot s).1 := by
  unfold freeDescriptorOwner
  split
  · exact .refl s
  · dsimp only
    exact aside_putSlot ..

theorem aside_writeProfileOwner (first : Byte) (values : List Half) (s : State) :
    Aside s (writeProfileOwner first values s).1 := by
  unfold writeProfileOwner
  split
  · exact .refl s
  · split
    · exact .refl s
    · dsimp only
      exact aside_profile ..

theorem aside_runChainOwner (m : Master) (group slot : Byte) (s : State) : Aside s (runChainOwner m group slot s).1 := by
  unfold runChainOwner
  split
  · exact .refl s
  · split
    · exact .refl s
    · split
      · exact .refl s
      · split
        · exact .refl s
        · split
          · exact .refl s
          · split
            · exact .refl s
            · rename_i g _ _ k _ _ _ _ _ ks _
              have bound : Aside s
                  (putExecutor g (startedExecutor m k (bindSlots g ks s).executors[g]) (bindSlots g ks s)) :=
                aside_of_ports fun n => by rw [port_putExecutor, port_bindSlots]
              dsimp only
              exact bound.trans (around_proceed (p := (_, some k)) (.refl _)).aside

theorem aside_cancelChainOwner (m : Master) (group : Byte) (s : State) : Aside s (cancelChainOwner m group s).1 := by
  unfold cancelChainOwner
  split
  · exact .refl s
  · split
    · exact .refl s
    · dsimp only
      exact (around_endChain ..).aside

theorem aside_resumeRetryOwner (m : Master) (group : Byte) (s : State) : Aside s (resumeRetryOwner m group s).1 := by
  unfold resumeRetryOwner
  split
  · exact .refl s
  · split
    · exact (around_retryChain ..).aside
    · exact .refl s

theorem aside_resumeSkipOwner (m : Master) (group : Byte) (s : State) : Aside s (resumeSkipOwner m group s).1 := by
  unfold resumeSkipOwner
  split
  · exact .refl s
  · split
    · exact (around_skipChain ..).aside
    · exact .refl s

theorem aside_writeCursorOwner (m : Master) (group cursor value : Byte) (s : State) :
    Aside s (writeCursorOwner m group cursor value s).1 := by
  unfold writeCursorOwner
  split
  · exact .refl s
  · split
    · exact aside_of_fields rfl rfl
    · exact aside_of_fields rfl rfl
    · exact .refl s

theorem aside_configureActuatorOwner (m : Master) (r : RawActuator) (s : State) :
    Aside s (configureActuatorOwner m r s).1 := by
  unfold configureActuatorOwner
  split
  · exact .refl s
  · dsimp only
    split
    · exact .refl s
    · split
      · exact .refl s
      · split
        · exact .refl s
        · split
          · exact .refl s
          · exact aside_of_fields rfl rfl

theorem aside_setServiceInOwner (m : Master) (actuator : Byte) (s : State) : Aside s (setServiceInOwner m actuator s).1 := by
  unfold setServiceInOwner
  split
  · exact .refl s
  · dsimp only
    (repeat' split) <;> first | exact .refl s | exact aside_putActuator ..

theorem aside_setServiceOutOwner (m : Master) (actuator : Byte) (s : State) : Aside s (setServiceOutOwner m actuator s).1 := by
  unfold setServiceOutOwner
  split
  · exact .refl s
  · dsimp only
    (repeat' split) <;> first | exact .refl s | exact aside_putActuator ..

theorem aside_clearFaultOwner (m : Master) (actuator : Byte) (s : State) : Aside s (clearFaultOwner m actuator s).1 := by
  unfold clearFaultOwner
  split
  · exact .refl s
  · dsimp only
    (repeat' split) <;> first | exact .refl s | exact aside_putActuator ..

theorem aside_configureCaptureOwner (r : RawCapture) (s : State) : Aside s (configureCaptureOwner r s).1 := by
  unfold configureCaptureOwner
  split
  · exact .refl s
  · split
    · exact .refl s
    · split
      · exact .refl s
      · exact aside_ite ((aside_putCapture ..).trans (aside_reportCapture ..)) (aside_putCapture ..)

theorem aside_setDebounceOwner (input time : Byte) (s : State) : Aside s (setDebounceOwner input time s).1 := by
  unfold setDebounceOwner
  split
  · exact .refl s
  · exact (aside_putInput ..).trans (aside_judgeInput ..)

theorem aside_governorSettingsOwner (m : Master) (r : RawGovernor) (s : State) :
    Aside s (governorSettingsOwner m r s).1 := by
  unfold governorSettingsOwner
  split
  · exact .refl s
  · split
    · exact .refl s
    · exact aside_of_fields rfl rfl

theorem aside_modeOnOwner (m : Master) (s : State) : Aside s (modeOnOwner m s).1 := by
  unfold modeOnOwner
  split
  · exact .refl s
  · exact aside_ite (aside_putGovernor ..) (.refl s)

theorem aside_modeOffOwner (m : Master) (s : State) : Aside s (modeOffOwner m s).1 := by
  unfold modeOffOwner
  split
  · exact .refl s
  · exact aside_ite (.refl s) ((aside_putGovernor ..).trans (around_clearFollowers _).aside)

theorem aside_modeOtherOwner (m : Master) (s : State) : Aside s (modeOtherOwner m s).1 := by
  unfold modeOtherOwner; split <;> exact .refl s

theorem aside_configureStationOwner (m : Master) (r : RawStation) (s : State) :
    Aside s (configureStationOwner m r s).1 := by
  unfold configureStationOwner
  split
  · exact .refl s
  · split
    · split
      · exact .refl s
      · exact aside_changeStation ..
    · exact .refl s

theorem aside_stationLineOwner (m : Master) (baud : Half) (s : State) : Aside s (stationLineOwner m baud s).1 := by
  unfold stationLineOwner
  split
  · exact .refl s
  · split
    · exact .refl s
    · exact aside_ite (.refl s) (aside_of_fields rfl rfl)

theorem aside_linkSettingsOwner (m : Master) (r : RawLink) (s : State) : Aside s (linkSettingsOwner m r s).1 := by
  unfold linkSettingsOwner
  split
  · exact .refl s
  · exact aside_setPort _ _ _ rfl

/-- Every request's owner leaves the ports but for flags, masks and pending settings. -/
theorem aside_serve (i : Instr) (s : State) : Aside s (serve i s).1 := by
  cases i with
  | claim q set => exact aside_claimOwner ..
  | release q set => exact aside_releaseOwner ..
  | writeDescriptor q slot r => exact aside_writeDescriptorOwner ..
  | freeDescriptor q slot => exact aside_freeDescriptorOwner ..
  | writeProfile q first vs => exact aside_writeProfileOwner ..
  | runChain q group slot => exact aside_runChainOwner ..
  | cancelChain q group => exact aside_cancelChainOwner ..
  | resumeRetry q group => exact aside_resumeRetryOwner ..
  | resumeSkip q group => exact aside_resumeSkipOwner ..
  | writeCursor q group cursor value => exact aside_writeCursorOwner ..
  | configureActuator q r => exact aside_configureActuatorOwner ..
  | setServiceIn q n => exact aside_setServiceInOwner ..
  | setServiceOut q n => exact aside_setServiceOutOwner ..
  | clearFault q n => exact aside_clearFaultOwner ..
  | configureCapture q r => exact aside_configureCaptureOwner ..
  | setDebounce q input time => exact aside_setDebounceOwner ..
  | governorSettings q r => exact aside_governorSettingsOwner ..
  | governorModeOn q => exact aside_modeOnOwner ..
  | governorModeOff q => exact aside_modeOffOwner ..
  | configureStation q r => exact aside_configureStationOwner ..
  | stationLineSettings q baud => exact aside_stationLineOwner ..
  | linkSettings q r => exact aside_linkSettingsOwner ..
  | clearAttention q flags => exact aside_setPort _ _ _ rfl
  | setMask q flags => exact aside_setPort _ _ _ rfl
  | readDescriptor q slot => exact aside_of_state (readDescriptorOwner_state ..)
  | readProfile q first count => exact aside_of_state (readProfileOwner_state ..)
  | readChain q group => exact aside_of_state (readChainOwner_state ..)
  | readCursors q group => exact aside_of_state (readCursorsOwner_state ..)
  | readActuatorConfiguration q n => exact aside_of_state (readConfigurationOwner_state ..)
  | readActuatorStatus q n => exact aside_of_state (readStatusOwner_state ..)
  | readMeasurement q c => exact aside_of_state (readMeasurementOwner_state ..)
  | readStation q entry => exact aside_of_state (readStationOwner_state ..)
  | readLinkStatus q link => exact aside_of_state (readLinkOwner_state ..)
  | _ => exact aside_of_state rfl

theorem aside_serveParsed (m : Master) (x : Parsed) (s : State) : Aside s (serveParsed m x s).1 := by
  cases x with
  | command i => exact aside_serve i s
  | modeOther => exact aside_modeOtherOwner m s
  | resumeOther g => exact .refl s
  | unknown => exact .refl s
  | badLength => exact .refl s

/-! ### A port that has taken a frame -/

/-- A state whose port of `m` has taken a checked frame (R110, R175), the other port aside. -/
def Accepted (m : Master) (s t : State) : Prop := Aside (acceptFrame m s) t

theorem accepted_serveAtClaims {owner : State → State × Reply} (h : ∀ t, Aside t (owner t).1) (m : Master) (s : State) :
    Accepted m s (serveAtClaims m owner s).1 := by
  unfold serveAtClaims Accepted
  split
  · have taken : Aside (acceptFrame m s) (owner (acceptFrame m { s with freeCount := s.freeCount + 1 })).1 := by
      refine Aside.trans (aside_of_ports fun n => ?_) (h _)
      cases m <;> cases n <;> rfl
    dsimp only
    split
    · exact taken
    · exact taken.trans (aside_silenceAtOwners m _)
  · exact h _

end Sys2Proof.Machine
end

section
/-! SUPPORT. What every step keeps of the ports (R171 to R174, R176). -/

namespace Sys2Proof.Machine

/-! ### One port -/

/-- The port is as it may be, but that in LISTEN entries may still wait (R172): where none does, the inter-byte timer runs
exactly inside a frame. -/
def Draining (p : Port) : Prop :=
  p.fifo.length ≤ 16 ∧
  (match p.phase with
    | .listen => p.response = none ∧ (p.fifo = [] → (p.interByte.isSome = true ↔ p.assembler ≠ .hunt))
    | .handling => False
    | .turnaround => p.response.isSome = true ∧ p.assembler = .hunt ∧ p.interByte = none
    | .responding => p.response.isSome = true ∧ p.assembler = .hunt ∧ p.interByte = none) ∧
  (p.active = true → p.silenceTimer.isSome = true)

theorem portOk_iff {p : Port} : PortOk p ↔ Draining p ∧ (p.phase = .listen → p.fifo = []) := by
  unfold PortOk Draining
  cases p.phase <;> simp only [reduceCtorEq, false_imp_iff, and_true]
  constructor
  · rintro ⟨h1, ⟨h2, h3, h4⟩, h5⟩
    exact ⟨⟨h1, ⟨h3, fun _ => h4⟩, h5⟩, fun _ => h2⟩
  · rintro ⟨⟨h1, ⟨h3, h4⟩, h5⟩, h2⟩
    exact ⟨h1, ⟨h2 trivial, h3, h4 (h2 trivial)⟩, h5⟩

theorem PortOk.draining {p : Port} (h : PortOk p) : Draining p := (portOk_iff.1 h).1

/-- The fields that the property speaks of. -/
theorem PortOk.congr {p r : Port} (h : PortOk p) (fifo : r.fifo = p.fifo) (phase : r.phase = p.phase)
    (response : r.response = p.response) (assembler : r.assembler = p.assembler) (interByte : r.interByte = p.interByte)
    (active : r.active = p.active) (silence : r.silenceTimer = p.silenceTimer) : PortOk r := by
  unfold PortOk at *
  rwa [fifo, phase, response, assembler, interByte, active, silence]

theorem Aside.portOk {s t : State} (h : Aside s t) {m : Master} (ok : PortOk (port m s)) : PortOk (port m t) := by
  rw [h.ports m]
  exact ok.congr rfl rfl rfl rfl rfl rfl rfl

theorem Aside.draining {s t : State} (h : Aside s t) {m : Master} (ok : Draining (port m s)) : Draining (port m t) := by
  rw [h.ports m]
  exact ok

theorem Aside.portsOk {s t : State} (h : Aside s t) (ok : PortsOk s) : PortsOk t := fun m => h.portOk (ok m)

/-- Two ports make the state's. -/
theorem portsOk_of {m : Master} {s : State} (own : PortOk (port m s)) (other : PortOk (port m.other s)) : PortsOk s :=
  fun n => by cases m <;> cases n <;> assumption

theorem portsOk_setPort {m : Master} {p : Port} {s : State} (h : PortsOk s) (own : PortOk p) : PortsOk (setPort m p s) :=
  portsOk_of (m := m) (by rwa [port_setPort_self]) (by rw [port_setPort_other]; exact h _)

/-- A port in TURNAROUND with its response. -/
theorem PortOk.responded {p : Port} (fifo : p.fifo.length ≤ 16) (hunt : p.assembler = .hunt) (interByte : p.interByte = none)
    (silence : p.silenceTimer.isSome = true) (r : Response) (t : Option Nat) :
    PortOk { p with response := some r, phase := .turnaround, lineTimer := t } :=
  ⟨fifo, ⟨rfl, hunt, interByte⟩, fun _ => silence⟩

/-! ### A checked frame answered -/

/-- What comes after a checked frame (R110, R175): the port waits for its owner's answer, the other stands. -/
structure Taken (m : Master) (s : State) : Prop where
  fifo : (port m s).fifo.length ≤ 16
  hunt : (port m s).assembler = .hunt
  interByte : (port m s).interByte = none
  silence : (port m s).silenceTimer.isSome = true
  other : PortOk (port m.other s)

theorem taken_acceptFrame {m : Master} {s : State} (fifo : (port m s).fifo.length ≤ 16) (other : PortOk (port m.other s)) :
    Taken m (acceptFrame m s) := by
  constructor
  case other => rwa [port_acceptFrame_other]
  all_goals rw [port_acceptFrame_self]
  · exact fifo
  · rfl

theorem Aside.taken {m : Master} {s t : State} (h : Aside s t) (k : Taken m s) : Taken m t := by
  constructor
  case other => exact h.portOk k.other
  all_goals rw [h.ports m]
  · exact k.fifo
  · exact k.hunt
  · exact k.interByte
  · exact k.silence

theorem portsOk_respond {q : Req} {code : Byte} {r : State × Reply} (h : Taken q.master r.1) :
    PortsOk (respond q code r) := by
  refine portsOk_of (m := q.master) ?_ ?_
  · rw [port_respond_self]
    exact .responded h.fifo h.hunt h.interByte h.silence _ _
  · rw [port_respond_other]
    exact h.other

theorem portsOk_answer {q : Req} {code : Byte} {owner : State → State × Reply} (h : ∀ t, Aside t (owner t).1) {s : State}
    (fifo : (port q.master s).fifo.length ≤ 16) (other : PortOk (port q.master.other s)) :
    PortsOk (respond q code (owner (acceptFrame q.master s))) :=
  portsOk_respond ((h _).taken (taken_acceptFrame fifo other))

theorem portsOk_answerAtClaims {q : Req} {code : Byte} {owner : State → State × Reply} (h : ∀ t, Aside t (owner t).1)
    {s : State} (fifo : (port q.master s).fifo.length ≤ 16) (other : PortOk (port q.master.other s)) :
    PortsOk (respond q code (serveAtClaims q.master owner s)) :=
  portsOk_respond ((accepted_serveAtClaims h _ _).taken (taken_acceptFrame fifo other))

/-! ### The entries that wait (R172) -/

/-- The port of `m` takes its entries, the other stands. -/
def DrainingAt (m : Master) (s : State) : Prop := Draining (port m s) ∧ PortOk (port m.other s)

theorem PortsOk.drainingAt {s : State} (h : PortsOk s) (m : Master) : DrainingAt m s := ⟨(h m).draining, h m.other⟩

theorem DrainingAt.portsOk {m : Master} {s : State} (h : DrainingAt m s)
    (empty : (port m s).phase = .listen → (port m s).fifo = []) : PortsOk s :=
  portsOk_of (portOk_iff.2 ⟨h.1, empty⟩) h.2

theorem handleFrame_drainingAt {m : Master} {s : State} (h : DrainingAt m s) (bytes : List Byte) :
    DrainingAt m (handleFrame m bytes s) := by
  unfold handleFrame
  split
  · rename_i code high low payload
    dsimp only
    split
    · exact (portsOk_answerAtClaims (q := ⟨m, join2 high low⟩) (aside_serveParsed m _) h.1.1 h.2).drainingAt m
    · exact (portsOk_answer (q := ⟨m, join2 high low⟩) (aside_serveParsed m _) h.1.1 h.2).drainingAt m
  · exact h

/-- The port with its oldest entry taken by the assembler (R173, R174). -/
def taking (p : Port) (rest : List FifoEntry) (r : Assembled) : Port :=
  { p with
    fifo := rest, assembler := r.assembler, lastError := r.error.getD p.lastError
    interByte := if r.assembler ≠ .hunt ∧ rest = [] then some interByteTime else none }

theorem takeEntry_cons {m : Master} {s : State} {e : FifoEntry} {rest : List FifoEntry} (h : (port m s).fifo = e :: rest) :
    takeEntry m s =
      match (assemble (port m s).assembler e).frame with
      | none => setPort m (taking (port m s) rest (assemble (port m s).assembler e)) s
      | some bytes => handleFrame m bytes (setPort m (taking (port m s) rest (assemble (port m s).assembler e)) s) := by
  unfold takeEntry
  simp only [h]
  rfl

theorem Draining.taking {p : Port} (h : Draining p) (listen : p.phase = .listen) {e : FifoEntry} {rest : List FifoEntry}
    (fifo : p.fifo = e :: rest) (r : Assembled) : Draining (taking p rest r) := by
  obtain ⟨length, phase, active⟩ := h
  simp only [listen] at phase
  have shorter : rest.length ≤ 16 := by rw [fifo, List.length_cons] at length; omega
  unfold Draining
  simp only [Machine.taking, listen]
  refine ⟨shorter, ⟨phase.1, fun last => ?_⟩, active⟩
  simp [last]

theorem handleFrame_fifo (m : Master) (bytes : List Byte) (s : State) : (port m (handleFrame m bytes s)).fifo = (port m s).fifo := by
  unfold handleFrame
  split
  · rename_i code high low payload
    dsimp only
    rw [show port m = port (Req.master ⟨m, join2 high low⟩) from rfl, port_respond_self]
    split
    · rw [(accepted_serveAtClaims (aside_serveParsed m _) m s).ports m, port_acceptFrame_self]
    · rw [(aside_serveParsed m _ _).ports m, port_acceptFrame_self]
  · rfl

theorem takeEntry_drainingAt {m : Master} {s : State} (h : DrainingAt m s) (listen : (port m s).phase = .listen)
    {e : FifoEntry} {rest : List FifoEntry} (fifo : (port m s).fifo = e :: rest) :
    DrainingAt m (takeEntry m s) ∧ (port m (takeEntry m s)).fifo = rest := by
  have taken : DrainingAt m (setPort m (taking (port m s) rest (assemble (port m s).assembler e)) s) :=
    ⟨by rw [port_setPort_self]; exact h.1.taking listen fifo _, by rw [port_setPort_other]; exact h.2⟩
  rw [takeEntry_cons fifo]
  split
  · exact ⟨taken, by rw [port_setPort_self]; rfl⟩
  · exact ⟨handleFrame_drainingAt taken _, by rw [handleFrame_fifo, port_setPort_self]; rfl⟩

theorem portsOk_drain {m : Master} (fuel : Nat) {s : State} (h : DrainingAt m s) (enough : (port m s).fifo.length ≤ fuel) :
    PortsOk (drain fuel m s) := by
  induction fuel generalizing s with
  | zero => exact h.portsOk fun _ => List.eq_nil_of_length_eq_zero (Nat.le_zero.1 enough)
  | succ fuel ih =>
    unfold drain
    split
    · rename_i waits
      obtain ⟨e, rest, fifo⟩ := List.exists_cons_of_ne_nil waits.2
      obtain ⟨kept, less⟩ := takeEntry_drainingAt h waits.1 fifo
      refine ih kept ?_
      rw [less]
      rw [fifo, List.length_cons] at enough
      omega
    · rename_i idle
      exact h.portsOk fun listen => by_contra fun waits => idle ⟨listen, waits⟩

theorem portsOk_listenNow {m : Master} {s : State} (h : DrainingAt m s) : PortsOk (listenNow m s) :=
  portsOk_drain _ h le_rfl

/-! ### The events of a port -/

theorem storeCharacter_ne (b : Byte) (k : Marks) {p : Port} (h : p.fifo = []) : (storeCharacter b k p).fifo ≠ [] := by
  unfold storeCharacter
  simp [h, fifoDepth]

theorem storeCharacter_frame (b : Byte) (k : Marks) (p : Port) :
    storeCharacter b k p =
      { p with fifo := (storeCharacter b k p).fifo, overrunPending := (storeCharacter b k p).overrunPending } := by
  unfold storeCharacter; split <;> rfl

theorem draining_stored {p : Port} (h : PortOk p) (b : Byte) (k : Marks) :
    Draining (storeCharacter b k (receiverDone b k p)) := by
  have length : (receiverDone b k p).fifo = p.fifo := by rw [receiverDone_frame]
  have room := storeCharacter_length (p := receiverDone b k p) (by rw [length]; exact h.1) b k
  have some : p.fifo = [] → (storeCharacter b k (receiverDone b k p)).fifo ≠ [] := fun e =>
    storeCharacter_ne b k (length.trans e)
  obtain ⟨same, response, assembler, interByte, on, silence⟩ :
      (storeCharacter b k (receiverDone b k p)).phase = p.phase ∧
        (storeCharacter b k (receiverDone b k p)).response = p.response ∧
        (storeCharacter b k (receiverDone b k p)).assembler = p.assembler ∧
        (storeCharacter b k (receiverDone b k p)).interByte = p.interByte ∧
        (storeCharacter b k (receiverDone b k p)).active = p.active ∧
        (storeCharacter b k (receiverDone b k p)).silenceTimer = p.silenceTimer := by
    rw [storeCharacter_frame, receiverDone_frame]
    exact ⟨rfl, rfl, rfl, rfl, rfl, rfl⟩
  obtain ⟨-, phase, active⟩ := h
  unfold Draining
  rw [same, response, assembler, interByte, on, silence]
  refine ⟨room, ?_, active⟩
  cases e : p.phase <;> simp only [e] at phase ⊢
  · exact ⟨phase.2.1, fun none => absurd none (some phase.1)⟩
  all_goals exact phase

theorem portsOk_receiveCharacter {s : State} (h : PortsOk s) (m : Master) (byte : Byte) (marks : Marks) :
    PortsOk (receiveCharacter m byte marks s) := by
  unfold receiveCharacter
  dsimp only
  split
  · exact h
  · refine portsOk_listenNow ⟨?_, ?_⟩
    · rw [port_setPort_self]; exact draining_stored (h m) byte marks
    · rw [port_setPort_other]; exact h _

theorem portsOk_interByteExpiry {s : State} (h : PortsOk s) (m : Master) : PortsOk (interByteExpiry m s) := by
  unfold interByteExpiry
  dsimp only
  split
  · rename_i runs
    refine portsOk_setPort h ?_
    obtain ⟨length, phase, active⟩ := h m
    refine ⟨length, ?_, active⟩
    cases e : (port m s).phase <;> simp_all
  · exact h

theorem portsOk_beginResponse {s : State} (h : PortsOk s) (m : Master) : PortsOk (beginResponse m s) := by
  unfold beginResponse
  dsimp only
  split
  · rename_i turns _ held
    refine portsOk_setPort h ?_
    obtain ⟨length, phase, active⟩ := h m
    simp only [turns] at phase
    exact ⟨length, phase, active⟩
  · exact h

theorem draining_releasedPort {p : Port} (h : PortOk p) (busy : p.phase ≠ .listen) : Draining (releasedPort p) := by
  obtain ⟨length, phase, active⟩ := h
  have idle : p.assembler = .hunt ∧ p.interByte = none := by
    cases e : p.phase <;> simp only [e] at phase busy
    · exact absurd rfl busy
    all_goals exact phase.2
  refine ⟨length, ⟨rfl, fun _ => ?_⟩, fun on => ?_⟩
  · simp [releasedPort, idle]
  · unfold releasedPort
    dsimp only
    split
    · rfl
    · exact active on

theorem portsOk_returnToListen {s : State} (h : PortsOk s) {m : Master} (busy : (port m s).phase ≠ .listen) :
    PortsOk (returnToListen m s) := by
  refine portsOk_listenNow ⟨?_, ?_⟩
  · rw [port_setPort_self]; exact draining_releasedPort (h m) busy
  · rw [port_setPort_other]; exact h _

theorem portsOk_endResponse {s : State} (h : PortsOk s) (m : Master) : PortsOk (endResponse m s) := by
  unfold endResponse
  split
  · rename_i responding _
    exact portsOk_returnToListen h (by rw [responding]; exact fun e => nomatch e)
  · exact h

theorem portsOk_silenceEvent {s : State} (h : PortsOk s) (m : Master) : PortsOk (silenceEvent m s) := by
  unfold silenceEvent
  dsimp only
  split
  · refine (aside_silenceAtOwners ..).portsOk (portsOk_setPort h ?_)
    obtain ⟨length, phase, -⟩ := h m
    exact ⟨length, phase, fun e => nomatch e⟩
  · exact h

theorem portsOk_settleFor {m : Master} (fuel : Nat) {s : State} (h : PortsOk s) : PortsOk (settleFor fuel m s) := by
  induction fuel generalizing s with
  | zero => exact h
  | succ fuel ih =>
    unfold settleFor
    split
    · exact h
    · exact ih (portsOk_returnToListen h ‹_›)

/-! ### The resets and time -/

theorem portOk_resetPort (p : Port) : PortOk (resetPort p) := by simp [PortOk, resetPort]

theorem portsOk_panelReset (s : State) : PortsOk (panelReset s) := by
  refine (aside_takeInOpenOrder _ _ _ fun _ _ => aside_handInputChange ..).portsOk fun m => ?_
  cases m
  · exact portOk_resetPort s.port1
  · exact portOk_resetPort s.port2

theorem portOk_powerOnAt (x : LineInput) : PortOk { Port.powerOn with input := x } :=
  portOk_powerOn.congr rfl rfl rfl rfl rfl rfl rfl

theorem port_powerOn (m : Master) (s : State) : port m (powerOn s) = { Port.powerOn with input := (port m s).input } := by
  cases m
  · exact (rfl : (powerOn s).port1 = { Port.powerOn with input := s.port1.input })
  · exact (rfl : (powerOn s).port2 = { Port.powerOn with input := s.port2.input })

theorem portsOk_powerOn (s : State) : PortsOk (powerOn s) := fun m => by
  rw [port_powerOn]; exact portOk_powerOnAt _

theorem PortOk.age {p : Port} (h : PortOk p) : PortOk (agePort p) := by
  unfold agePort
  rw [runPort_frame]
  obtain ⟨length, phase, active⟩ := h
  refine ⟨length, ?_, fun on => ?_⟩
  · dsimp only
    cases e : p.phase <;> simp only [e] at phase ⊢
    · simpa [countDown] using phase
    all_goals simpa [countDown] using phase
  · simpa [countDown] using active on

theorem port_advanceTime (m : Master) (s : State) : port m (advanceTime s) = agePort (port m s) := by
  cases m <;> simp only [port, advanceTime]

theorem portsOk_advanceTime {s : State} (h : PortsOk s) : PortsOk (advanceTime s) := fun m => by
  rw [port_advanceTime]; exact (h m).age

/-! ### Every command and every step -/

/-- What an event makes of the ports. -/
theorem portsOk_eventOutcome {i : Instr} {s t : State} (ok : PortsOk s) (h : eventOutcome i s = .next t) : PortsOk t := by
  have of_next {u : State} (k : PortsOk u) (e : Host.Outcome.next u = (.next t : Host.Outcome State Fault Refusal)) :
      PortsOk t := by cases e; exact k
  cases i with
  | linkCharacterReceived m byte marks => exact of_next (portsOk_receiveCharacter ok m byte marks) h
  | interByteTimeout m => exact of_next (portsOk_interByteExpiry ok m) h
  | turnaroundEnd m => exact of_next (portsOk_beginResponse ok m) h
  | responseSent m => exact of_next (portsOk_endResponse ok m) h
  | silenceExpiry m => exact of_next (portsOk_silenceEvent ok m) h
  | stationCharacter byte noisy =>
    exact of_next ((aside_takeStationEvent (fun u => aside_stationByte byte noisy u) ..).portsOk ok) h
  | stationFramingError => exact of_next ((aside_takeStationEvent aside_stationFraming ..).portsOk ok) h
  | stationBreak => exact of_next ((aside_takeStationEvent aside_stationBreakEvent ..).portsOk ok) h
  | staleTimerExpiry k => exact of_next ((aside_staleExpiry ..).portsOk ok) h
  | governorEvaluation => exact of_next ((aside_evaluateGovernor ..).portsOk ok) h
  | holdTimerExpiry => exact of_next ((aside_holdExpiry ..).portsOk ok) h
  | slewExpiry n => exact of_next ((aside_slewTick ..).portsOk ok) h
  | periodEnd n => exact of_next ((aside_of_fields (t := endPeriod n s) rfl rfl).portsOk ok) h
  | proofTimerExpiry n => exact of_next ((aside_proofExpiry ..).portsOk ok) h
  | deviationTimerExpiry n => exact of_next ((aside_deviationExpiry ..).portsOk ok) h
  | feedbackLostTimerExpiry n => exact of_next ((aside_lostExpiry ..).portsOk ok) h
  | discreteInputChange d level => exact of_next ((aside_changeInput ..).portsOk ok) h
  | tripAssertion => exact of_next ((aside_assertTrip ..).portsOk ok) h
  | tripDeassertion => exact of_next ((aside_deassertTrip ..).portsOk ok) h
  | frequencyMeasurement c stamp => exact of_next ((aside_takeEdge ..).portsOk ok) h
  | dutyMeasurement c stamp => exact of_next ((aside_takeEdge ..).portsOk ok) h
  | captureTimeoutExpiry c => exact of_next ((aside_captureExpiry ..).portsOk ok) h
  | captureSpanOverflow c => exact of_next ((aside_spanOverflow ..).portsOk ok) h
  | dwellExpiry g => exact of_next ((aside_dwellExpiry ..).portsOk ok) h
  | awaitTimeout g => exact of_next ((aside_awaitExpiry ..).portsOk ok) h
  | captureEdge c rising stamp => exact of_next ((aside_takeEdge ..).portsOk ok) h
  | _ => exact of_next ok h

theorem portsOk_exec {i : Instr} {s t : State} (ok : PortsOk s) (h : exec i s = .next t) : PortsOk t := by
  have of_next {u : State} (k : PortsOk u) (e : Host.Outcome.next u = (.next t : Host.Outcome State Fault Refusal)) :
      PortsOk t := by cases e; exact k
  cases request : requestOf i with
  | some q =>
    have settled : PortsOk (settle q.master s) := portsOk_settleFor _ ok
    have fifo := (settled q.master).1
    cases claims : claimsBearOn i with
    | true =>
      obtain ⟨code, -, e⟩ := exec_atClaims claims request
      exact of_next (portsOk_answerAtClaims (aside_serve i) fifo (settled _)) ((e s).symm.trans h)
    | false =>
      obtain ⟨code, -, e⟩ := exec_plain claims request
      exact of_next (portsOk_answer (aside_serve i) fifo (settled _)) ((e s).symm.trans h)
  | none =>
    rcases exec_event request with event | rfl | rfl | ⟨d, level, rfl⟩ | ⟨level, rfl⟩ | rfl | ⟨count, rfl⟩
    · exact portsOk_eventOutcome ok ((event s).trans h)
    · exact of_next (portsOk_powerOn s) h
    · exact of_next (portsOk_panelReset _) h
    · exact of_next ((aside_changeRaw ..).portsOk ok) h
    · exact of_next ((aside_changeTripRaw ..).portsOk ok) h
    · exact of_next ((aside_ite (aside_of_fields (s := s) (t := putSampler .idle 0 s) rfl rfl) (.refl s)).portsOk ok) h
    · exact of_next ((aside_ite (aside_of_fields (s := s) (t := putSampler .lowWatch count s) rfl rfl) (.refl s)).portsOk ok) h

end Sys2Proof.Machine

namespace Sys2Proof

open Machine

/-- Settles O60: within one event a port drains its entries (`portsOk_drain`), and outside the links no event touches more of
a port than `Aside` says. -/
theorem stepKeepsPorts : Obligations.StepKeepsPorts := by
  intro s t ok h
  rcases step_cases h with ⟨i, k, rest, e⟩ | rfl
  · exact portsOk_exec (s := { s with freeCount := k, pending := rest }) ((aside_of_fields rfl rfl).portsOk ok) e
  · exact portsOk_advanceTime ok

end Sys2Proof
end

section
/-! SUPPORT. Faults, reports and input changes where no executor can take a report: what they are then, and that chains and
slots stand. -/

namespace Sys2Proof.Machine

/-! ### The fault of an actuator alone -/

theorem firstFault_executors (code : FaultCode) (n : ActId) (s : State) : (firstFault code n s).executors = s.executors := by
  rw [firstFault, setFlagBoth_executors, putActuator_executors]

theorem firstFault_slots (code : FaultCode) (n : ActId) (s : State) : (firstFault code n s).slots = s.slots := by
  rw [firstFault, setFlagBoth_slots, putActuator_slots]

theorem furtherFault_executors (n : ActId) (s : State) : (furtherFault n s).executors = s.executors := by
  rw [furtherFault, setFlagBoth_executors, putActuator_executors]

theorem furtherFault_slots (n : ActId) (s : State) : (furtherFault n s).slots = s.slots := by
  rw [furtherFault, setFlagBoth_slots, putActuator_slots]

theorem Unattended.congr {n : ActId} {s t : State} (h : Unattended n s) (cfg : t.actuators[n].cfg = s.actuators[n].cfg)
    (executors : t.executors = s.executors) : Unattended n t := by
  intro g e
  rw [executors]
  exact h g (cfg ▸ e)

theorem Unattended.firstFault {n : ActId} {s : State} (h : Unattended n s) (code : FaultCode) :
    Unattended n (firstFault code n s) :=
  h.congr ((around_firstFault code n s).cfg n) (firstFault_executors code n s)

theorem Unattended.putActuator {n : ActId} {s : State} (h : Unattended n s) {a : Actuator}
    (cfg : a.cfg = s.actuators[n].cfg) : Unattended n (putActuator n a s) :=
  h.congr (by rw [(putActuator_self n a s).1, supervise_cfg, cfg]) rfl

/-- At an actuator that no chain attends and whose trip reaches no other, a fault is its first fault alone (R21). -/
theorem raiseFault_alone {n : ActId} {s : State} (h : Unattended n s) (scope : s.actuators[n].cfg.tripScope = .self)
    (code : FaultCode) : raiseFault code n s = if healthy s.actuators[n] then firstFault code n s else s := by
  unfold raiseFault
  rw [scope]
  dsimp only
  have kept := h.firstFault code
  rw [(reports_unattended kept code).2.2.2.2, reportSafeLanding_unattended kept]

theorem healthy_of_state {a : Actuator} {x : Service} (h : a.state = x) (h1 : x ≠ .outOfService) (h2 : x ≠ .faulted) :
    healthy a = true := healthy_iff.2 ⟨h ▸ h1, h ▸ h2⟩

/-! ### Where every executor is IDLE -/

/-- No chain runs or is halted. -/
def AllIdle (s : State) : Prop := ∀ g : GroupId, s.executors[g].state = .idle

theorem AllIdle.unattended {s : State} (h : AllIdle s) (n : ActId) : Unattended n s := fun g _ => h g

theorem AllIdle.congr {s t : State} (h : AllIdle s) (executors : t.executors = s.executors) : AllIdle t := fun g => by
  rw [executors]; exact h g

theorem AllIdle.unattended_putActuator {s : State} (h : AllIdle s) (n : ActId) (a : Actuator) :
    Unattended n (putActuator n a s) := fun g _ => h g

/-- Where every executor is IDLE, chain records and slots stand. -/
structure Quiet (s t : State) : Prop where
  stand : AllIdle s → t.executors = s.executors ∧ t.slots = s.slots

theorem Quiet.refl (s : State) : Quiet s s := ⟨fun _ => ⟨rfl, rfl⟩⟩

theorem Quiet.trans {s t u : State} (h : Quiet s t) (k : Quiet t u) : Quiet s u := ⟨fun idle =>
  have same := h.stand idle
  have next := k.stand (idle.congr same.1)
  ⟨next.1.trans same.1, next.2.trans same.2⟩⟩

theorem quiet_foldl {α : Type} (act : State → α → State) (xs : List α) (s : State) (h : ∀ x t, Quiet t (act t x)) :
    Quiet s (xs.foldl act s) :=
  foldl_keeps (P := Quiet s) act xs s (fun x t k => k.trans (h x t)) (.refl s)

theorem quiet_takeInOpenOrder {α : Type} (act : α → State → State) (xs : List α) (s : State)
    (h : ∀ x t, Quiet t (act x t)) : Quiet s (takeInOpenOrder act xs s) :=
  takeInOpenOrder_keeps (P := Quiet s) act xs s (fun _ _ e => e.trans ⟨fun _ => ⟨rfl, rfl⟩⟩)
    (fun x _ t e => e.trans (h x t)) (.refl s)

theorem quiet_tripFault (code : FaultCode) (n : ActId) (s : State) : Quiet s (tripFault code n s) := by
  refine ⟨fun _ => ?_⟩
  unfold tripFault
  split
  · exact ⟨firstFault_executors .., firstFault_slots ..⟩
  · split
    · exact ⟨furtherFault_executors .., furtherFault_slots ..⟩
    · exact ⟨rfl, rfl⟩

theorem quiet_groupTrip (g : GroupId) (n : ActId) (s : State) : Quiet s (groupTrip g n s) := by
  refine ⟨fun idle => ?_⟩
  have folded := (quiet_foldl (fun t k => if k ≠ n ∧ memberOf g t.actuators[k] then tripFault .groupTrip k t else t)
    allActuators s (fun _ t => by
      split
      · exact quiet_tripFault ..
      · exact .refl t)).stand idle
  unfold groupTrip endIfRunning
  rw [if_pos ((idle.congr folded.1) g)]
  exact folded

theorem quiet_raiseFault (code : FaultCode) (n : ActId) (s : State) : Quiet s (raiseFault code n s) := by
  refine ⟨fun idle => ?_⟩
  have first : AllIdle (firstFault code n s) := idle.congr (firstFault_executors ..)
  have fields := And.intro (firstFault_executors code n s) (firstFault_slots code n s)
  unfold raiseFault
  split
  · dsimp only
    split
    · rename_i g _ _
      have group := (quiet_groupTrip g n (firstFault code n s)).stand first
      rw [reportSafeLandings_unattended fun k _ _ => (first.congr group.1).unattended k]
      exact ⟨group.1.trans fields.1, group.2.trans fields.2⟩
    · rw [(reports_unattended (first.unattended n) code).2.2.2.2, reportSafeLanding_unattended (first.unattended n)]
      exact fields
  · exact ⟨rfl, rfl⟩

theorem quiet_takeProof (n : ActId) (level : Bool) (s : State) : Quiet s (takeProof n level s) := by
  refine ⟨fun idle => ?_⟩
  unfold takeProof
  dsimp only
  split
  · rw [(reports_unattended (idle.unattended_putActuator n _) .none).2.2.1]; exact ⟨rfl, rfl⟩
  · exact (quiet_raiseFault ..).stand idle
  · exact (quiet_raiseFault ..).stand idle
  · rw [(reports_unattended (idle.unattended_putActuator n _) .none).2.2.2.1]; exact ⟨rfl, rfl⟩
  · exact ⟨rfl, rfl⟩

theorem awaitsInput_idle {g : GroupId} {d : InputId} {level : Bool} {s : State} (h : s.executors[g].state = .idle) :
    awaitsInput g d level s = false := by
  unfold awaitsInput; rw [h]; rfl

theorem quiet_takeInputUse (d : InputId) (level : Bool) (u : InputUse) (s : State) : Quiet s (takeInputUse d level u s) := by
  refine ⟨fun idle => ?_⟩
  cases u with
  | proof n => exact (quiet_takeProof n level s).stand idle
  | permissive n =>
    simp only [takeInputUse, takePermissive]
    split
    · exact (quiet_raiseFault ..).stand idle
    · exact ⟨rfl, rfl⟩
  | wait g =>
    simp only [takeInputUse, awaitsInput_idle (idle g)]
    exact ⟨rfl, rfl⟩

theorem quiet_handInputChange (d : InputId) (level : Bool) (s : State) : Quiet s (handInputChange d level s) :=
  quiet_takeInOpenOrder _ _ _ fun _ _ => quiet_takeInputUse ..

/-! ### The panel reset's own part -/

theorem allIdle_resetBlocks (s : State) : AllIdle (resetBlocks s) := fun g => by
  have e : (resetBlocks s).executors = each (fun _ x => resetExecutor x) s.executors := rfl
  rw [e, get_each, resetExecutor_state]

/-- Claims and profile rows are the same. -/
structure SameStores (s t : State) : Prop where
  groupHolders : t.groupHolders = s.groupHolders
  govHolder : t.govHolder = s.govHolder
  profile : t.profile = s.profile

theorem Around.stores {s t u : State} (h : Around t u) (k : SameStores s t) : SameStores s u :=
  ⟨h.groupHolders.trans k.groupHolders, h.govHolder.trans k.govHolder, h.profile.trans k.profile⟩

theorem panelReset_stores (s : State) : SameStores (resetBlocks s) (panelReset s) := by
  have keep (d : InputId) (t : State) (h : SameStores (resetBlocks s) t) :
      SameStores (resetBlocks s) (handInputChange d t.inputs[d].filtered t) :=
    takeInOpenOrder_keeps _ _ _ (fun _ _ k => ⟨k.groupHolders, k.govHolder, k.profile⟩)
      (fun u _ v k => (around_takeInputUse d _ u v).stores k) h
  exact takeInOpenOrder_keeps (P := SameStores (resetBlocks s)) _ _ _ (fun _ _ k => ⟨k.groupHolders, k.govHolder, k.profile⟩)
    (fun d _ t h => keep d t h) ⟨rfl, rfl, rfl⟩

theorem panelReset_chains (s : State) :
    (panelReset s).executors = (resetBlocks s).executors ∧ (panelReset s).slots = (resetBlocks s).slots :=
  (quiet_takeInOpenOrder _ _ _ fun _ _ => quiet_handInputChange ..).stand (allIdle_resetBlocks s)

/-- Where no input filter holds a difference, the reset is each block's own part. -/
theorem panelReset_agree {s : State} (h : InputsAgree s) : panelReset s = resetBlocks s := by
  have none : changedAtReset s = [] := by
    unfold changedAtReset
    rw [List.filter_eq_nil_iff]
    intro d _
    rw [h d]
    simp
  unfold panelReset
  rw [none]
  rfl

end Sys2Proof.Machine
end

section
/-! SUPPORT. The step, the two resets and the events taken before a panel reset: the statements O1 to O4 and O6. -/

namespace Sys2Proof.Machine

/-! ### The events taken before a reset (R1) -/

/-- An event taken before another one always leaves a next state. -/
theorem eventOutcome_next (i : Instr) (s : State) : ∃ t, eventOutcome i s = .next t := by
  cases i <;> exact ⟨_, rfl⟩

theorem exec_of_due {i : Instr} {s : State} (h : i ∈ dueEvents s) (t : State) :
    ∃ u, exec i t = .next u ∧ outcomeState (eventOutcome i t) t = u := by
  obtain ⟨u, e⟩ := eventOutcome_next i t
  exact ⟨u, (eventOutcome_of_due h t).symm.trans e, by rw [e]; rfl⟩

theorem takeDueUpTo_none {s : State} (h : dueEvents s = []) (k : Nat) : takeDueUpTo (k + 1) s = s := by
  have none : nextDue s = none := by unfold nextDue; rw [h]
  unfold takeDueUpTo
  rw [none]

theorem takeDueUpTo_some {i : Instr} {s t : State} (h : nextDue s = some (i, t)) (k : Nat) :
    takeDueUpTo (k + 1) s = takeDueUpTo k (outcomeState (eventOutcome i t) t) := by
  rw [takeDueUpTo, h]

/-- Of two or more due events one is taken, and the choice of it is counted. -/
theorem nextDue_many {s : State} (h : 2 ≤ (dueEvents s).length) :
    ∃ i, i ∈ dueEvents s ∧ nextDue s = some (i, { s with freeCount := s.freeCount + 1 }) := by
  match e : dueEvents s with
  | [] => rw [e] at h; simp at h
  | [_] => rw [e] at h; simp at h
  | i :: j :: r =>
    have taken : ∃ k, nextDue s = some (k, { s with freeCount := s.freeCount + 1 }) := by
      unfold nextDue; rw [e]; exact ⟨_, rfl⟩
    obtain ⟨k, n⟩ := taken
    exact ⟨k, e ▸ (nextDue_some n).1, n⟩

/-! ### Power-on, block by block -/

theorem executor_powerOn (s : State) (g : GroupId) : (powerOn s).executors[g] = Executor.powerOn := executor_reset g

theorem holder_powerOn (s : State) (g : GroupId) : (powerOn s).groupHolders[g] = none := Vector.getElem_replicate _

theorem slot_powerOn (s : State) (k : SlotId) : (powerOn s).slots[k] = Slot.powerOn := slot_reset k

theorem row_powerOn (s : State) (r : RowId) : (powerOn s).profile[r] = 0 := Vector.getElem_replicate _

theorem actuator_powerOn (s : State) (n : ActId) : (powerOn s).actuators[n] = Actuator.powerOn :=
  Vector.getElem_replicate _

theorem output_powerOn (s : State) (n : ActId) : (powerOn s).outputs[n] = OutputChannel.powerOn :=
  Vector.getElem_replicate _

theorem capture_powerOn (s : State) (c : CaptureId) : (powerOn s).captures[c] = Capture.atPowerOn s.captures[c].input := by
  have table : (powerOn s).captures = each (fun _ x => Capture.atPowerOn x.input) s.captures := rfl
  rw [table, get_each]

theorem input_powerOn (s : State) (d : InputId) : (powerOn s).inputs[d] = InputFilter.powerOn s.inputs[d].raw := by
  have table : (powerOn s).inputs = each (fun _ x => InputFilter.powerOn x.raw) s.inputs := rfl
  rw [table, get_each]

theorem station_powerOn (s : State) (k : StationId) : (powerOn s).stations[k] = Station.powerOn k := station_reset k

/-! ### The panel reset, block by block -/

theorem executor_resetBlocks (s : State) (g : GroupId) : (resetBlocks s).executors[g] = resetExecutor s.executors[g] :=
  get_each _ s.executors g

theorem resetExecutor_eq (x : Executor) : resetExecutor x = if x.state = .idle then x else Ended .reset x := rfl

theorem holder_resetBlocks (s : State) (g : GroupId) : (resetBlocks s).groupHolders[g] = none := Vector.getElem_replicate _

theorem slot_resetBlocks (s : State) (k : SlotId) : (resetBlocks s).slots[k] = Unbound (fun _ => true) s.slots[k] :=
  unbindSlots_at _ s k

theorem station_resetBlocks (s : State) (k : StationId) : (resetBlocks s).stations[k] = neverState s.stations[k] :=
  get_each _ s.stations k

theorem capture_resetBlocks (s : State) (c : CaptureId) : (resetBlocks s).captures[c] = resetCapture s.captures[c] :=
  get_each _ s.captures c

theorem input_resetBlocks (s : State) (d : InputId) : (resetBlocks s).inputs[d] = resetInput s.inputs[d] :=
  get_each _ s.inputs d

theorem actuator_resetBlocks (s : State) (n : ActId) :
    (resetBlocks s).actuators[n] = resetActuator (each (fun _ x => resetCapture x) s.captures) s.actuators[n] :=
  get_each _ s.actuators n

theorem output_resetBlocks (s : State) (n : ActId) :
    (resetBlocks s).outputs[n] = resetOutput s.actuators[n].command s.outputs[n] := get_each _ s.outputs n

theorem port_resetBlocks (m : Master) (s : State) : port m (resetBlocks s) = resetPort (port m s) := by
  cases m <;> simp only [port, resetBlocks]

/-- The value of zero flow, spelled out (R159). -/
theorem offsetValue_eq (x : Capture) : offsetValue x = if x.offset.toInt < 0 then 0 else x.offset.toInt.toNat := by
  have small : x.offset.toInt < 32768 := by have := BitVec.toInt_lt (x := x.offset); omega
  unfold offsetValue clampInt
  split_ifs <;> omega

theorem resetCapture_value (x : Capture) :
    (resetCapture x).value = (match x.mode with
      | .off => 0
      | .duty => x.value
      | .frequency => if x.offset.toInt < 0 then 0 else x.offset.toInt.toNat) := by
  unfold resetCapture
  cases x.mode
  · rfl
  · exact offsetValue_eq x
  · rfl

end Sys2Proof.Machine

namespace Sys2Proof

open Machine

/-- Settles O1, by the definition of a step. -/
theorem stepTakesFrontCommand : Obligations.StepTakesFrontCommand := by
  unfold Obligations.StepTakesFrontCommand
  intro c rest s queue
  unfold step
  rw [queue]

/-- Settles O2: the due event is the one that `nextDue` takes, and without one `advanceTime` counts every timer down. -/
theorem idleStepPassesTime : Obligations.IdleStepPassesTime := by
  unfold Obligations.IdleStepPassesTime
  intro s queue
  have idle : step s = passTime s := by unfold step; rw [queue]
  rw [idle]
  unfold passTime nextDue
  refine ⟨fun i one => by rw [one], fun none => ⟨advanceTime s, by rw [none], fun n => ?_, rfl, rfl, rfl, rfl, rfl, rfl, rfl, queue⟩⟩
  have actuator : (advanceTime s).actuators[n] = ageActuator s.actuators[n] := get_each _ s.actuators n
  have output : (advanceTime s).outputs[n] = ageOutput s.outputs[n] := get_each _ s.outputs n
  rw [actuator, output]
  exact ⟨rfl, rfl, rfl, rfl⟩

/-- Settles O3: every table of the power-on state is its chapter's value, entry by entry. -/
theorem powerOnResetValues : Obligations.PowerOnResetValues := by
  unfold Obligations.PowerOnResetValues
  intro s
  refine ⟨powerOn s, rfl, fun g => ⟨holder_powerOn s g, executor_powerOn s g⟩, rfl, fun k => ?_, row_powerOn s,
    fun n => ⟨actuator_powerOn s n, output_powerOn s n⟩, capture_powerOn s, fun d => ?_, rfl, rfl, rfl,
    station_powerOn s, rfl, port_powerOn (s := s)⟩
  · rw [slot_powerOn]; exact ⟨rfl, rfl⟩
  · rw [input_powerOn]; exact ⟨rfl, rfl, rfl⟩

/-- Settles O4: no input change that the reset hands on can touch claims, rows, or, with every executor IDLE, chains and
slots. -/
theorem panelResetOfDispatch : Obligations.PanelResetOfDispatch := by
  unfold Obligations.PanelResetOfDispatch
  refine ⟨fun before => ?_, fun s => ⟨rfl, rfl, fun k => ⟨fun none => takeDueUpTo_none none k, fun i one => ?_, fun many => ?_⟩⟩⟩
  · generalize e : takeDueEvents before = s
    have stores := panelReset_stores s
    obtain ⟨executors, slots⟩ := panelReset_chains s
    refine ⟨panelReset s, by rw [← e]; rfl, fun g => ?_, stores.govHolder, fun g => ?_, fun k => ?_, stores.profile⟩
    · rw [stores.groupHolders]; exact holder_resetBlocks s g
    · rw [executors, executor_resetBlocks, resetExecutor_eq]
    · rw [slots]; exact slot_resetBlocks s k
  · have next : nextDue s = some (i, s) := by unfold nextDue; rw [one]
    obtain ⟨u, taken, same⟩ := exec_of_due (one ▸ List.mem_singleton_self i) s
    exact ⟨u, taken, by rw [takeDueUpTo_some next, same]⟩
  · obtain ⟨i, due, next⟩ := nextDue_many many
    obtain ⟨u, taken, same⟩ := exec_of_due due { s with freeCount := s.freeCount + 1 }
    exact ⟨i, u, due, taken, by rw [takeDueUpTo_some next, same]⟩

/-- Settles O6: with no difference to hand on, each block takes its own part of the reset. -/
theorem panelResetOfPressureAndPorts : Obligations.PanelResetOfPressureAndPorts := by
  unfold Obligations.PanelResetOfPressureAndPorts
  intro before
  generalize e : takeDueEvents before = s
  intro u agree
  refine ⟨resetBlocks s, ?_, rfl, station_resetBlocks s, rfl, rfl, rfl, rfl, rfl, rfl, rfl, fun c => ?_, fun d => ?_, rfl,
    fun m => ?_⟩
  · rw [← panelReset_agree agree]
    subst e
    rfl
  · rw [capture_resetBlocks]
    refine ⟨rfl, rfl, rfl, rfl, rfl, rfl, rfl, rfl, rfl, rfl, rfl, ?_, rfl⟩
    exact resetCapture_value s.captures[c]
  · rw [input_resetBlocks]; exact ⟨rfl, rfl⟩
  · simp only [transmitEnable, alertLow, port_resetBlocks]
    refine ⟨rfl, rfl, rfl, rfl, rfl, rfl, rfl, rfl, rfl, rfl, rfl, rfl, rfl, rfl, rfl, rfl, rfl, ?_⟩
    simp [resetPort]

end Sys2Proof
end

section
/-! SUPPORT. Faults and input changes at one actuator, and the panel reset at the actuators: the statements O5, O31 and O32,
and the first part of O30. -/

namespace Sys2Proof.Machine

/-! ### One actuator changes -/

theorem OnlyActuator.refl (n : ActId) (s : State) : OnlyActuator n s s :=
  ⟨fun _ _ => ⟨rfl, rfl⟩, rfl, rfl, rfl, rfl, rfl, rfl, rfl, rfl, rfl, rfl, rfl⟩

theorem OnlyActuator.trans {n : ActId} {s t u : State} (h : OnlyActuator n s t) (k : OnlyActuator n t u) :
    OnlyActuator n s u := by
  obtain ⟨h0, h1, h2, h3, h4, h5, h6, h7, h8, h9, h10, h11⟩ := h
  obtain ⟨k0, k1, k2, k3, k4, k5, k6, k7, k8, k9, k10, k11⟩ := k
  exact ⟨fun j e => ⟨(k0 j e).1.trans (h0 j e).1, (k0 j e).2.trans (h0 j e).2⟩, k1.trans h1, k2.trans h2, k3.trans h3,
    k4.trans h4, k5.trans h5, k6.trans h6, k7.trans h7, k8.trans h8, k9.trans h9, k10.trans h10, k11.trans h11⟩

theorem onlyActuator_putActuator (n : ActId) (a : Actuator) (s : State) : OnlyActuator n s (putActuator n a s) :=
  ⟨fun k e => putActuator_other (n := k) (k := n) e a s, rfl, rfl, rfl, rfl, rfl, rfl, rfl, rfl, rfl, rfl, rfl⟩

theorem onlyActuator_putInput (n : ActId) (d : InputId) (x : InputFilter) (s : State) : OnlyActuator n s (putInput d x s) :=
  .refl n s

theorem onlyActuator_setFlagBoth (n : ActId) (f : Attention) (s : State) : OnlyActuator n s (setFlagBoth f s) :=
  .refl n s

theorem onlyActuator_firstFault (code : FaultCode) (n : ActId) (s : State) : OnlyActuator n s (firstFault code n s) :=
  (onlyActuator_putActuator n _ s).trans (onlyActuator_setFlagBoth ..)

/-! ### The proof input of a pump (R13 to R15) -/

/-- The pump is proven: RUNNING, its proof timer absent (R13). -/
def provenEntry (a : Actuator) : Actuator := { a with state := .running, proofTimer := none }

/-- The pump's stop is proven: STOPPED at command 0 (R15). -/
def stoppedEntry (a : Actuator) : Actuator := { a with state := .stopped, command := 0, proofTimer := none }

theorem takeProof_starting {n : ActId} {s : State} (h : Unattended n s) (state : s.actuators[n].state = .starting) :
    takeProof n true s = putActuator n (provenEntry s.actuators[n]) s := by
  have kept : Unattended n (putActuator n (provenEntry s.actuators[n]) s) := h.putActuator rfl
  unfold takeProof
  simp only [state]
  exact (reports_unattended kept .none).2.2.1

theorem takeProof_running {n : ActId} {s : State} (h : Unattended n s) (scope : s.actuators[n].cfg.tripScope = .self)
    (state : s.actuators[n].state = .running ∨ s.actuators[n].state = .stopping .rampDown) :
    takeProof n false s = firstFault .proofLost n s := by
  have sound : healthy s.actuators[n] = true := by
    rcases state with e | e <;> exact healthy_of_state e (fun e => nomatch e) (fun e => nomatch e)
  have taken : takeProof n false s = raiseFault .proofLost n s := by
    unfold takeProof
    rcases state with e | e <;> simp only [e]
  rw [taken, raiseFault_alone h scope, if_pos sound]

theorem takeProof_dropWait {n : ActId} {s : State} (h : Unattended n s)
    (state : s.actuators[n].state = .stopping .dropWait) :
    takeProof n false s = putActuator n (stoppedEntry s.actuators[n]) s := by
  have kept : Unattended n (putActuator n (stoppedEntry s.actuators[n]) s) := h.putActuator rfl
  unfold takeProof
  simp only [state]
  exact (reports_unattended kept .none).2.2.2.1

/-- In every other state, and at the change the other way, the entry stays. -/
theorem takeProof_still {n : ActId} {level : Bool} {s : State}
    (h : s.actuators[n].state = .stopped ∨ s.actuators[n].state = .faulted ∨ s.actuators[n].state = .outOfService ∨
      (s.actuators[n].state = .starting ∧ level = false) ∨ (level = true ∧ s.actuators[n].state ≠ .starting)) :
    takeProof n level s = s := by
  unfold takeProof
  dsimp only
  split <;> simp_all

/-! ### The permissive (R16, R17) -/

theorem takePermissive_watched {n : ActId} {s : State} (h : Unattended n s) (scope : s.actuators[n].cfg.tripScope = .self)
    (watched : watchesPermissive s.actuators[n] = true) (barred : permits s.actuators[n] s = false) :
    takePermissive n s = firstFault .permissiveLost n s := by
  have sound : healthy s.actuators[n] = true := by
    simp only [watchesPermissive, Bool.or_eq_true, beq_iff_eq] at watched
    rcases watched with (e | e) | e <;> exact healthy_of_state e (fun e => nomatch e) (fun e => nomatch e)
  unfold takePermissive
  rw [watched, barred, raiseFault_alone h scope, if_pos sound]
  rfl

theorem takePermissive_still {n : ActId} {s : State}
    (h : watchesPermissive s.actuators[n] = false ∨ permits s.actuators[n] s = true) : takePermissive n s = s := by
  unfold takePermissive
  rw [if_neg]
  rcases h with e | e <;> rw [e] <;> simp

/-! ### A change handed on (R165) -/

theorem handInputChange_one {d : InputId} {level : Bool} {u : InputUse} {s : State} (h : inputUses d level s = [u]) :
    handInputChange d level s = takeInputUse d level u s := by
  unfold handInputChange
  rw [h, takeInOpenOrder_singleton]

theorem handInputChange_unused {d : InputId} {level : Bool} {s : State} (h : inputUses d level s = []) :
    handInputChange d level s = s := by
  unfold handInputChange
  rw [h, takeInOpenOrder_nil]

/-- The filter with its level changed (R165). -/
def changedFilter (level : Bool) (x : InputFilter) : InputFilter := { x with filtered := level, raw := level, age := 0 }

theorem changeInput_eq {d : InputId} {level : Bool} {s : State} (h : s.inputs[d].filtered ≠ level) :
    changeInput d level s = handInputChange d level (putInput d (changedFilter level s.inputs[d]) s) := if_neg h

/-- The levels of the filters play no part in who uses an input. -/
theorem inputUses_putInput (d e : InputId) (level : Bool) (x : InputFilter) (s : State) :
    inputUses d level (putInput e x s) = inputUses d level s := rfl

/-! ### The pump that a reset's difference reaches (R168) -/

theorem flatMap_own {α : Type} (xs : List ActId) (n : ActId) (f : ActId → List α) (hx : xs.Nodup) (hn : n ∈ xs)
    (other : ∀ k ∈ xs, k ≠ n → f k = []) : xs.flatMap f = f n := by
  induction xs with
  | nil => cases hn
  | cons x xs ih =>
    rw [List.nodup_cons] at hx
    rw [List.flatMap_cons]
    rcases List.mem_cons.1 hn with e | e
    · subst e
      have none : xs.flatMap f = [] := List.flatMap_eq_nil_iff.2 fun k hk =>
        other k (List.mem_cons_of_mem _ hk) fun e => hx.1 (e ▸ hk)
      rw [none, List.append_nil]
    · have ne : x ≠ n := fun same => hx.1 (same ▸ e)
      rw [other x List.mem_cons_self ne, List.nil_append,
        ih hx.2 e fun k hk => other k (List.mem_cons_of_mem _ hk)]

/-- The uses of an input by one actuator (R165). -/
def actuatorUses (d : InputId) (n : ActId) (a : Actuator) : List InputUse :=
  (if a.cfg.proofInput == some d then [InputUse.proof n] else []) ++
    (match a.cfg.permissive with
      | some p => if p.input == d then [InputUse.permissive n] else []
      | none => [])

theorem inputUses_eq (d : InputId) (level : Bool) (s : State) :
    inputUses d level s = allActuators.flatMap (fun n => actuatorUses d n s.actuators[n]) ++
      (allGroups.filter fun g => awaitsInput g d level s).map InputUse.wait := rfl

theorem actuatorUses_proof {d : InputId} {n : ActId} {a : Actuator} (permissive : a.cfg.permissive.map Permissive.input ≠ some d) :
    actuatorUses d n a = if a.cfg.proofInput = some d then [InputUse.proof n] else [] := by
  unfold actuatorUses
  split <;> split <;> split <;> simp_all

/-- Where no executor runs, the uses of an input are those of the actuators that name it. -/
theorem inputUses_proof {d : InputId} {n : ActId} {level : Bool} {s : State} (idle : AllIdle s)
    (own : s.actuators[n].cfg.proofInput = some d) (other : ∀ k : ActId, k ≠ n → s.actuators[k].cfg.proofInput ≠ some d)
    (permissive : ∀ k : ActId, s.actuators[k].cfg.permissive.map Permissive.input ≠ some d) :
    inputUses d level s = [.proof n] := by
  have waits : (allGroups.filter fun g => awaitsInput g d level s) = [] := by
    rw [List.filter_eq_nil_iff]
    intro g _
    rw [awaitsInput_idle (idle g)]
    exact fun e => nomatch e
  rw [inputUses_eq, waits, List.map_nil, List.append_nil,
    flatMap_own allActuators n _ (List.nodup_finRange 16) (mem_allActuators n) fun k _ ne => by
      rw [actuatorUses_proof (permissive k), if_neg (other k ne)],
    actuatorUses_proof (permissive n), if_pos own]

/-- Where one input filter alone holds a difference, the reset hands on that change. -/
theorem panelReset_one {d : InputId} {s : State} (differs : s.inputs[d].raw ≠ s.inputs[d].filtered)
    (agree : ∀ e : InputId, e ≠ d → s.inputs[e].raw = s.inputs[e].filtered) :
    panelReset s = handInputChange d s.inputs[d].raw (resetBlocks s) := by
  have only : changedAtReset s = [d] := by
    have e : changedAtReset s = allInputs.filter fun k => k == d := by
      unfold changedAtReset
      refine List.filter_congr fun k _ => ?_
      by_cases same : k = d
      · subst same; simpa using differs
      · rw [agree k same]; simp [same]
    have once : allInputs.count d = 1 := List.count_eq_one_of_mem (List.nodup_finRange 24) (List.mem_finRange d)
    rw [e, List.filter_beq, once]
    rfl
  have level : (resetBlocks s).inputs[d].filtered = s.inputs[d].raw := by rw [input_resetBlocks]; rfl
  unfold panelReset
  rw [only, takeInOpenOrder_singleton, level]

/-- Nothing that is handed on at the reset changes a filter. -/
theorem handInputChange_inputs (d : InputId) (level : Bool) (s : State) : (handInputChange d level s).inputs = s.inputs :=
  takeInOpenOrder_keeps (P := fun t => t.inputs = s.inputs) _ _ _ (fun _ _ h => h)
    (fun u _ t h => (around_takeInputUse d level u t).inputs.trans h) rfl

/-! ### Supervision at the reset (R19, R20) -/

/-- A feedback taken anew from NO_SIGNAL starts the feedback-lost timer of an actuator in service and not FAULTED. -/
theorem supervise_noSignal {b : Actuator} (lost : b.lostTimer = none)
    (signal : ∀ f, b.cfg.feedback = some f → ∃ v, b.feedback = some v ∧ v.status = .noSignal) :
    (supervise b).deviationTimer = none ∧
      (supervise b).lostTimer = (match b.cfg.feedback with
        | some f => if b.state = .outOfService ∨ b.state = .faulted then none else some (f.time * 1000000)
        | none => none) := by
  cases e : b.cfg.feedback with
  | none => unfold supervise; simp [e]
  | some f =>
    obtain ⟨v, taken, status⟩ := signal f e
    unfold supervise
    simp only [e, taken, status]
    by_cases sound : healthy b = true
    · have alive := healthy_iff.1 sound
      rw [if_pos sound, if_pos trivial, if_neg (by rintro (x | x); exacts [alive.1 x, alive.2 x]), lost]
      exact ⟨rfl, rfl⟩
    · rw [if_neg sound]
      rw [healthy_iff, not_and_or, not_not, not_not] at sound
      rw [if_pos sound]
      exact ⟨rfl, rfl⟩

theorem resetActuator_timers (captures : Table Capture 16) (a : Actuator) :
    (resetActuator (each (fun _ x => resetCapture x) captures) a).deviationTimer = none ∧
      (resetActuator (each (fun _ x => resetCapture x) captures) a).lostTimer = (match a.cfg.feedback with
        | some f => if a.state = .outOfService ∨ a.state = .faulted then none else some (f.time * 1000000)
        | none => none) := by
  have supervised := supervise_noSignal (b := { a with
    state := resetService a.state, ramp := safeRamp a, accumulator := 0, follow := none
    proofTimer := resetProofTimer a, deviationTimer := none, lostTimer := none
    feedback := resetFeedback (each (fun _ x => resetCapture x) captures) a, slewTimer := slewInterval }) rfl
    fun f e => ⟨feedbackFrom (each (fun _ x => resetCapture x) captures)[f.channel], by
      have named : a.cfg.feedback = some f := e
      simp only [resetFeedback, named], by rw [get_each]; rfl⟩
  rw [resetActuator_eq]
  simpa only [resetService_outOfService, resetService_faulted] using supervised

end Sys2Proof.Machine
end

section
/-! SUPPORT. The panel reset at the actuators, with the one difference of a proof input: the statement O5. -/

namespace Sys2Proof.Machine

/-- The entry that the reset leaves, but for its supervision timers. -/
theorem resetActuator_fields (captures : Table Capture 16) (a : Actuator) :
    (resetActuator captures a).fault = a.fault ∧ (resetActuator captures a).furtherFault = a.furtherFault ∧
      (resetActuator captures a).commandAtFault = a.commandAtFault ∧ (resetActuator captures a).accumulator = 0 ∧
      (resetActuator captures a).slewTimer = 100000 ∧ (resetActuator captures a).ramp = safeRamp a ∧
      (resetActuator captures a).proofTimer = resetProofTimer a := by
  rw [resetActuator_eq]
  simp only [supervise_fault, supervise_furtherFault, supervise_commandAtFault, supervise_accumulator,
    supervise_slewTimer, supervise_ramp, supervise_proofTimer, slewInterval, and_self]

theorem resetActuator_pump {captures : Table Capture 16} {a : Actuator} (pump : a.cfg.kind = .pump) :
    (resetActuator captures a).ramp = none := by
  obtain ⟨-, -, -, -, -, ramp, -⟩ := resetActuator_fields captures a
  rw [ramp, safeRamp, pump]
  exact if_neg fun h => nomatch h.2.1

theorem dutyOf_zero (p : Nat) : dutyOf 0 p = 0 := by simp [dutyOf]

/-- All that a change of a proof input can come to at an unattended actuator of trip scope SELF (R13 to R15). -/
theorem takeProof_alone {n : ActId} {s : State} (alone : Unattended n s) (scope : s.actuators[n].cfg.tripScope = .self)
    (level : Bool) :
    takeProof n level s = s ∨ takeProof n level s = firstFault .proofLost n s ∨
      takeProof n level s = putActuator n (provenEntry s.actuators[n]) s ∨
      takeProof n level s = putActuator n (stoppedEntry s.actuators[n]) s := by
  cases level with
  | true =>
    by_cases e : s.actuators[n].state = .starting
    · exact .inr (.inr (.inl (takeProof_starting alone e)))
    · exact .inl (takeProof_still (.inr (.inr (.inr (.inr ⟨rfl, e⟩)))))
  | false =>
    by_cases e : s.actuators[n].state = .running ∨ s.actuators[n].state = .stopping .rampDown
    · exact .inr (.inl (takeProof_running alone scope e))
    · by_cases w : s.actuators[n].state = .stopping .dropWait
      · exact .inr (.inr (.inr (takeProof_dropWait alone w)))
      · left
        unfold takeProof
        dsimp only
        split <;> simp_all

/-- A faulted pump stands without ramp and command. -/
theorem firstFault_pump (code : FaultCode) {n : ActId} {s : State} (pump : s.actuators[n].cfg.kind = .pump) :
    (firstFault code n s).actuators[n].command = 0 ∧ (firstFault code n s).actuators[n].ramp = none ∧
      (firstFault code n s).outputs[n].pendingDuty = 0 := by
  obtain ⟨-, -, -, -, -, -, -, -, -, -, safe, -⟩ := firstFault_taken code n s
  obtain ⟨command, ramp⟩ := safe pump
  refine ⟨command, ramp, ?_⟩
  have channel : (firstFault code n s).outputs[n] = outputFor (faultEntry code s.actuators[n]) s.outputs[n] := by
    rw [firstFault, setFlagBoth_outputs, putActuator_outputs, put_self]
  rw [channel]
  simp only [outputFor, (faultEntry_safe code s.actuators[n]).1 pump, dutyOf_zero]

/-- In each of these cases a pump without ramp and follow step stays without them. -/
theorem takeProof_pump {n : ActId} {s : State} (alone : Unattended n s) (scope : s.actuators[n].cfg.tripScope = .self)
    (pump : s.actuators[n].cfg.kind = .pump) (ramp : s.actuators[n].ramp = none) (follow : s.actuators[n].follow = none)
    (level : Bool) :
    (takeProof n level s).actuators[n].cfg = s.actuators[n].cfg ∧ (takeProof n level s).actuators[n].ramp = none ∧
      (takeProof n level s).actuators[n].follow = none := by
  rcases takeProof_alone alone scope level with e | e | e | e <;> rw [e]
  · exact ⟨rfl, ramp, follow⟩
  · obtain ⟨-, -, -, -, cfg, follows, -⟩ := firstFault_taken .proofLost n s
    exact ⟨cfg, (firstFault_pump _ pump).2.1, follows⟩
  · rw [(putActuator_self n _ s).1, supervise_cfg, supervise_ramp, supervise_follow]
    exact ⟨rfl, ramp, follow⟩
  · rw [(putActuator_self n _ s).1, supervise_cfg, supervise_ramp, supervise_follow]
    exact ⟨rfl, ramp, follow⟩

/-- A proven pump runs (R13). -/
theorem putActuator_proven (n : ActId) (s : State) :
    (putActuator n (provenEntry s.actuators[n]) s).actuators[n].state = .running ∧
      (putActuator n (provenEntry s.actuators[n]) s).actuators[n].proofTimer = none ∧
      (putActuator n (provenEntry s.actuators[n]) s).actuators[n].command = s.actuators[n].command ∧
      (putActuator n (provenEntry s.actuators[n]) s).outputs[n].runOutput = true := by
  rw [(putActuator_self n _ s).1, (putActuator_self n _ s).2, supervise_state, supervise_proofTimer, supervise_command]
  exact ⟨rfl, rfl, rfl, rfl⟩

/-- A pump whose stop is proven stands (R15). -/
theorem putActuator_stopped (n : ActId) (s : State) :
    (putActuator n (stoppedEntry s.actuators[n]) s).actuators[n].state = .stopped ∧
      (putActuator n (stoppedEntry s.actuators[n]) s).actuators[n].proofTimer = none ∧
      (putActuator n (stoppedEntry s.actuators[n]) s).actuators[n].command = 0 ∧
      (putActuator n (stoppedEntry s.actuators[n]) s).outputs[n].pendingDuty = dutyOf 0 (nextPeriod s.outputs[n]) := by
  rw [(putActuator_self n _ s).1, (putActuator_self n _ s).2, supervise_state, supervise_proofTimer, supervise_command]
  exact ⟨rfl, rfl, rfl, rfl⟩

end Sys2Proof.Machine

namespace Sys2Proof

open Machine

/-- Settles O5: the entries and channels by `resetActuator_eq`, and the one difference by what a pump's proof input does in
the state that the reset leaves. -/
theorem panelResetOfActuators : Obligations.PanelResetOfActuators := by
  unfold Obligations.PanelResetOfActuators
  refine ⟨fun before => ?_, fun d n before => ?_⟩ <;> generalize e : takeDueEvents before = s
  · intro _ agree
    refine ⟨resetBlocks s, by rw [← panelReset_agree agree]; subst e; rfl, fun n => ?_⟩
    rw [actuator_resetBlocks, output_resetBlocks]
    generalize s.actuators[n] = a
    obtain ⟨fault, further, atFault, acc, slew, ramp, proof⟩ :=
      resetActuator_fields (each (fun _ x => resetCapture x) s.captures) a
    obtain ⟨deviation, lost⟩ := resetActuator_timers s.captures a
    exact ⟨resetActuator_cfg .., resetActuator_command .., fault, further, atFault, resetActuator_follow .., acc, slew,
      resetActuator_state .., ramp, proof, deviation, lost, rfl⟩
  · intro _ differs agree pump scope own other permissive
    have level := handInputChange_inputs d s.inputs[d].raw (resetBlocks s)
    have idle := allIdle_resetBlocks s
    have entry := actuator_resetBlocks s n
    have cfg (k : ActId) : (resetBlocks s).actuators[k].cfg = s.actuators[k].cfg := by
      rw [actuator_resetBlocks, resetActuator_cfg]
    have uses := inputUses_proof (d := d) (n := n) (level := s.inputs[d].raw) idle (by rw [cfg]; exact own)
      (fun k ne => by rw [cfg]; exact other k ne) fun k => by rw [cfg]; exact permissive k
    have handed : panelReset s = takeProof n s.inputs[d].raw (resetBlocks s) := by
      rw [panelReset_one differs agree, handInputChange_one uses]; rfl
    have alone := idle.unattended n
    have scope' : (resetBlocks s).actuators[n].cfg.tripScope = .self := by rw [cfg]; exact scope
    have pump' : (resetBlocks s).actuators[n].cfg.kind = .pump := by rw [cfg]; exact pump
    have state : (resetBlocks s).actuators[n].state = resetService s.actuators[n].state := by
      rw [entry, resetActuator_state]
    have command : (resetBlocks s).actuators[n].command = s.actuators[n].command := by
      rw [entry, resetActuator_command]
    obtain ⟨kept, ramp, follow⟩ := takeProof_pump alone scope' pump' (by rw [entry]; exact resetActuator_pump pump)
      (by rw [entry]; exact resetActuator_follow ..) s.inputs[d].raw
    refine ⟨panelReset s, by subst e; rfl, ?_, ?_⟩
    · rw [panelReset_one differs agree, level, input_resetBlocks]; rfl
    · rw [handed]
      refine ⟨kept.trans (cfg n), ramp, follow, fun low runs => ?_, fun high starts => ?_, fun low waits => ?_, fun rests => ?_⟩
      · have running : (resetBlocks s).actuators[n].state = .running := by
          rw [state]; rcases runs with x | x <;> rw [x] <;> rfl
        rw [low, takeProof_running alone scope' (.inl running)]
        obtain ⟨faulted, code, atFault, -, -, -, -, -, -, off, -, -, flags⟩ := firstFault_taken .proofLost n (resetBlocks s)
        obtain ⟨zero, -, duty⟩ := firstFault_pump .proofLost pump'
        exact ⟨faulted, code, atFault.trans command, zero, off, duty, flags⟩
      · rw [high, takeProof_starting alone (by rw [state, starts]; rfl), ← command]
        exact putActuator_proven n (resetBlocks s)
      · rw [low, takeProof_dropWait alone (by rw [state, waits]; rfl)]
        obtain ⟨stopped, proof, zero, duty⟩ := putActuator_stopped n (resetBlocks s)
        exact ⟨stopped, proof, zero, duty.trans (dutyOf_zero _)⟩
      · have same : resetService s.actuators[n].state = s.actuators[n].state := by
          rcases rests with x | x | x <;> rw [x] <;> rfl
        rw [takeProof_still, state, command, entry, same]
        · exact ⟨rfl, rfl, (resetActuator_fields _ _).1⟩
        · rw [state, same]
          rcases rests with x | x | x
          · exact .inl x
          · exact .inr (.inl x)
          · exact .inr (.inr (.inl x))

end Sys2Proof
end

section
/-! SUPPORT. Input changes and their filters, and the plant trip's own: the statements O31 and O32. -/

namespace Sys2Proof.Machine

/-! ### Who is due (R27, R165) -/

theorem mem_dueIf {b : Bool} {i j : Instr} : i ∈ dueIf b j ↔ b = true ∧ i = j := by
  unfold dueIf; split <;> simp_all

/-- The part of the state that makes an input change or an event of the plant trip due. -/
def DueBy (s : State) (i : Instr) : Prop :=
  match i with
  | .discreteInputChange d _ => i ∈ dueInput d s
  | .tripAssertion => i ∈ dueTrip s
  | .tripDeassertion => i ∈ dueTrip s
  | _ => True

theorem dueBy_edgeEvent (s : State) (c : CaptureId) (stamp : Stamp) (x : Capture) : DueBy s (edgeEvent c stamp x) := by
  unfold edgeEvent
  split <;> (try split) <;> trivial

theorem dueBy_of_due {s : State} {i : Instr} (h : i ∈ dueEvents s) : DueBy s i := by
  refine forall_dueEvents (P := DueBy s) (fun n => ?_) (fun c => ?_) (fun d i h => ?_) (fun i h => ?_) (fun g => ?_)
    (fun j hj => ?_) (fun k => forall_dueIf trivial) ?_ (fun m => ?_) i h
  · simp only [dueActuator, List.forall_mem_append]
    exact ⟨⟨⟨⟨forall_dueIf trivial, forall_dueIf trivial⟩, forall_dueIf trivial⟩, forall_dueIf trivial⟩,
      forall_dueIf trivial⟩
  · simp only [dueCapture, List.forall_mem_append]
    exact ⟨⟨forall_dueIf trivial, forall_dueIf trivial⟩, forall_dueIf (dueBy_edgeEvent ..)⟩
  · have e := (mem_dueIf.1 h).2
    subst e
    exact h
  · have e := (mem_dueIf.1 h).2
    subst e
    by_cases k : s.ptrip.asserted = true
    · rw [if_pos k] at h ⊢; exact h
    · rw [if_neg k] at h ⊢; exact h
  · simp only [dueExecutor, List.forall_mem_append]
    exact ⟨forall_dueIf trivial, forall_dueIf trivial⟩
  · simp only [dueStationLine, Option.mem_toList, Option.map_eq_some_iff] at hj
    obtain ⟨x, _, rfl⟩ := hj
    cases x <;> trivial
  · simp only [dueGovernor, List.forall_mem_append]
    exact ⟨forall_dueIf trivial, forall_dueIf trivial⟩
  · simp only [duePort, List.forall_mem_append]
    refine ⟨⟨⟨⟨fun j hj => ?_, forall_dueIf trivial⟩, forall_dueIf trivial⟩, forall_dueIf trivial⟩, forall_dueIf trivial⟩
    simp only [Option.mem_toList, Option.map_eq_some_iff] at hj
    obtain ⟨x, _, rfl⟩ := hj
    trivial

theorem due_of_dueInput {d : InputId} {s : State} {i : Instr} (h : i ∈ dueInput d s) : i ∈ dueEvents s := by
  unfold dueEvents
  simp only [List.mem_append, List.mem_flatMap]
  exact .inl (.inl (.inl (.inl (.inl (.inl (.inl (.inr ⟨d, List.mem_finRange d, h⟩)))))))

theorem due_of_dueTrip {s : State} {i : Instr} (h : i ∈ dueTrip s) : i ∈ dueEvents s := by
  unfold dueEvents
  simp only [List.mem_append]
  exact .inl (.inl (.inl (.inl (.inl (.inl (.inr h))))))

/-- When the change of an input is due (R165). -/
theorem due_inputChange {d : InputId} {level : Bool} {s : State} :
    Instr.discreteInputChange d level ∈ dueEvents s ↔
      s.inputs[d].raw = level ∧ s.inputs[d].filtered ≠ level ∧ s.inputs[d].debounce * 10000 ≤ s.inputs[d].age := by
  have own : Instr.discreteInputChange d level ∈ dueInput d s ↔
      s.inputs[d].raw = level ∧ s.inputs[d].filtered ≠ level ∧ s.inputs[d].debounce * 10000 ≤ s.inputs[d].age := by
    unfold dueInput debounceTime
    rw [mem_dueIf]
    simp only [Bool.and_eq_true, bne_iff_ne, decide_eq_true_eq, Instr.discreteInputChange.injEq, true_and]
    constructor
    · rintro ⟨⟨differs, long⟩, rfl⟩
      exact ⟨rfl, differs.symm, long⟩
    · rintro ⟨rfl, differs, long⟩
      exact ⟨⟨differs.symm, long⟩, rfl⟩
  exact ⟨fun h => own.1 (dueBy_of_due h), fun h => due_of_dueInput (own.2 h)⟩

/-- When the plant trip's assertion is due (R27). -/
theorem due_tripAssertion {s : State} :
    Instr.tripAssertion ∈ dueEvents s ↔ s.ptrip.asserted = false ∧ s.ptrip.raw = false ∧ 20000 ≤ s.ptrip.age := by
  have own : Instr.tripAssertion ∈ dueTrip s ↔
      s.ptrip.asserted = false ∧ s.ptrip.raw = false ∧ 20000 ≤ s.ptrip.age := by
    unfold dueTrip tripDiffers tripDebounce
    rw [mem_dueIf]
    cases s.ptrip.asserted <;> cases s.ptrip.raw <;> simp
  exact ⟨fun h => own.1 (dueBy_of_due h), fun h => due_of_dueTrip (own.2 h)⟩

/-- When its de-assertion is due (R27). -/
theorem due_tripDeassertion {s : State} :
    Instr.tripDeassertion ∈ dueEvents s ↔ s.ptrip.asserted = true ∧ s.ptrip.raw = true ∧ 20000 ≤ s.ptrip.age := by
  have own : Instr.tripDeassertion ∈ dueTrip s ↔
      s.ptrip.asserted = true ∧ s.ptrip.raw = true ∧ 20000 ≤ s.ptrip.age := by
    unfold dueTrip tripDiffers tripDebounce
    rw [mem_dueIf]
    cases s.ptrip.asserted <;> cases s.ptrip.raw <;> simp
  exact ⟨fun h => own.1 (dueBy_of_due h), fun h => due_of_dueTrip (own.2 h)⟩

/-! ### A change at one actuator -/

theorem onlyActuator_takeProof {n : ActId} {s : State} (alone : Unattended n s)
    (scope : s.actuators[n].cfg.tripScope = .self) (level : Bool) : OnlyActuator n s (takeProof n level s) := by
  rcases takeProof_alone alone scope level with e | e | e | e <;> rw [e]
  · exact .refl n s
  · exact onlyActuator_firstFault ..
  · exact onlyActuator_putActuator ..
  · exact onlyActuator_putActuator ..

theorem onlyActuator_takePermissive {n : ActId} {s : State} (alone : Unattended n s)
    (scope : s.actuators[n].cfg.tripScope = .self) : OnlyActuator n s (takePermissive n s) := by
  cases watched : watchesPermissive s.actuators[n] with
  | false => rw [takePermissive_still (.inl watched)]; exact .refl n s
  | true =>
    cases barred : permits s.actuators[n] s with
    | true => rw [takePermissive_still (.inr barred)]; exact .refl n s
    | false => rw [takePermissive_watched alone scope watched barred]; exact onlyActuator_firstFault ..

/-- An actuator that takes an input's change as its permissive names that input. -/
theorem permissive_of_use {d : InputId} {n : ActId} {level : Bool} {s : State} {p : Permissive}
    (use : InputUse.permissive n ∈ inputUses d level s) (named : s.actuators[n].cfg.permissive = some p) : p.input = d := by
  rw [inputUses_eq, List.mem_append] at use
  rcases use with use | use
  · obtain ⟨k, -, use⟩ := List.mem_flatMap.1 use
    unfold actuatorUses at use
    rw [List.mem_append] at use
    rcases use with use | use
    · split at use <;> simp at use
    · split at use
      · rename_i r e
        split at use
        · rename_i same
          have k : n = k := by simpa using use
          subst k
          rw [named] at e
          cases e
          simpa using same
        · cases use
      · cases use
  · simp at use

theorem filteredLevel_changed (d : InputId) (level : Bool) (s : State) :
    filteredLevel d (putInput d (changedFilter level s.inputs[d]) s) = level := by
  unfold filteredLevel
  rw [putInput_inputs, put_self]
  rfl

/-! ### Filters alone -/

theorem put_put {α : Type} {n : Nat} (t : Table α n) (i : Fin n) (x y : α) : put (put t i x) i y = put t i y :=
  table_ext fun k => by
    by_cases e : k = i
    · subst e; rw [put_self, put_self]
    · rw [put_other _ e, put_other _ e, put_other _ e]

theorem Unused.uses {d : InputId} {s : State} (h : Unused d s) (level : Bool) : inputUses d level s = [] := h level

theorem inputUses_acceptFrame (d : InputId) (level : Bool) (m : Master) (s : State) :
    inputUses d level (acceptFrame m s) = inputUses d level s := by cases m <;> rfl

/-- At an input that nothing uses a change is its filter's alone. -/
theorem changeInput_unused {d : InputId} {level : Bool} {s : State} (h : Unused d s) (differs : s.inputs[d].filtered ≠ level) :
    changeInput d level s = putInput d (changedFilter level s.inputs[d]) s := by
  rw [changeInput_eq differs, handInputChange_unused]
  rw [inputUses_putInput]
  exact h level

/-- A difference that has lasted the debounce time becomes the filtered level, and any other waits on (R165, R166). -/
theorem judgeInput_putInput {d : InputId} {x : InputFilter} {s : State} (h : Unused d s) :
    judgeInput d (putInput d x s) =
      if x.raw ≠ x.filtered ∧ debounceTime x ≤ x.age then putInput d (changedFilter x.raw x) s else putInput d x s := by
  have held : (putInput d x s).inputs[d] = x := by rw [putInput_inputs, put_self]
  unfold judgeInput
  dsimp only
  rw [held]
  split
  · rename_i due
    rw [changeInput_unused (s := putInput d x s) (fun level => (inputUses_putInput d d level x s).trans (h level))
      (by rw [held]; exact due.1.symm), held]
    unfold putInput
    simp only [put_put]
  · rfl

end Sys2Proof.Machine

namespace Sys2Proof

open Machine

/-- Settles O31: the change is handed to its one use, which no chain attends. -/
theorem proofInputChanges : Obligations.ProofInputChanges := by
  unfold Obligations.ProofInputChanges
  refine ⟨fun d n level s differs uses alone scope pump => ?_, fun d n p level s differs uses alone scope named fits => ?_,
    fun d level s differs unused => ?_⟩
  · have handed : changeInput d level s = takeProof n level (putInput d (changedFilter level s.inputs[d]) s) := by
      rw [changeInput_eq (by rw [differs]; cases level <;> decide),
        handInputChange_one (by rw [inputUses_putInput]; exact uses)]
      rfl
    generalize hu : putInput d (changedFilter level s.inputs[d]) s = u at handed
    have entry : u.actuators = s.actuators := by rw [← hu]; rfl
    have channels : u.outputs = s.outputs := by rw [← hu]; rfl
    have alone' : Unattended n u := by rw [← hu]; exact alone
    have scope' : u.actuators[n].cfg.tripScope = .self := by rw [entry]; exact scope
    have only : OnlyActuator n s u := by rw [← hu]; exact onlyActuator_putInput ..
    have inputs : (takeProof n level u).inputs = u.inputs := (around_takeInputUse d level (.proof n) u).inputs
    dsimp only
    refine ⟨takeProof n level u, congrArg _ handed, ?_, only.trans (onlyActuator_takeProof alone' scope' level), ?_, ?_, ?_, ?_⟩
    · rw [inputs, ← hu]; exact filteredLevel_changed d level s
    · rintro starts rfl
      rw [takeProof_starting alone' (by rw [entry]; exact starts), ← entry]
      exact putActuator_proven n u
    · rintro runs rfl
      rw [takeProof_running alone' scope' (by rw [entry]; exact runs)]
      have taken := firstFault_taken .proofLost n u
      unfold FaultTaken at *
      rwa [entry] at taken
    · rintro waits rfl
      rw [takeProof_dropWait alone' (by rw [entry]; exact waits), ← channels]
      obtain ⟨h1, h2, h3, h4⟩ := putActuator_stopped n u
      exact ⟨h1, h3, h2, h4⟩
    · intro rests
      rw [takeProof_still (by rw [entry]; exact rests), entry, channels]
      exact ⟨rfl, rfl⟩
  · have handed : changeInput d level s = takePermissive n (putInput d (changedFilter level s.inputs[d]) s) := by
      rw [changeInput_eq (by rw [differs]; cases level <;> decide),
        handInputChange_one (by rw [inputUses_putInput]; exact uses)]
      rfl
    have input : p.input = d := permissive_of_use (by rw [uses]; exact List.mem_singleton_self _) named
    have sense := filteredLevel_changed d level s
    generalize hu : putInput d (changedFilter level s.inputs[d]) s = u at handed sense
    have entry : u.actuators = s.actuators := by rw [← hu]; rfl
    have channels : u.outputs = s.outputs := by rw [← hu]; rfl
    have alone' : Unattended n u := by rw [← hu]; exact alone
    have scope' : u.actuators[n].cfg.tripScope = .self := by rw [entry]; exact scope
    have only : OnlyActuator n s u := by rw [← hu]; exact onlyActuator_putInput ..
    have inputs : (takePermissive n u).inputs = u.inputs := (around_takeInputUse d level (.permissive n) u).inputs
    have permitted : permits u.actuators[n] u = (level == p.sense) := by
      unfold permits
      rw [entry, named]
      dsimp only
      rw [input, sense]
    dsimp only
    refine ⟨takePermissive n u, congrArg _ handed, ?_, only.trans (onlyActuator_takePermissive alone' scope'), ?_, ?_⟩
    · rw [inputs, ← hu]; exact filteredLevel_changed d level s
    · intro away watched
      rw [takePermissive_watched alone' scope' ?_ (by rw [permitted]; simpa using away)]
      · have taken := firstFault_taken .permissiveLost n u
        unfold FaultTaken at *
        rwa [entry] at taken
      · rw [entry]
        rcases watched with ⟨-, e | e⟩ | ⟨-, e⟩ <;> rw [watchesPermissive, e] <;> rfl
    · intro rests
      rw [takePermissive_still, entry, channels]
      · exact ⟨rfl, rfl⟩
      · rw [permitted, entry]
        rcases rests with e | ⟨h1, h2, h3⟩
        · exact .inr (by simpa using e)
        · refine .inl ?_
          rw [← Bool.not_eq_true]
          simp only [watchesPermissive, Bool.or_eq_true, beq_iff_eq]
          tauto
  · exact congrArg _ (changeInput_unused unused (by rw [differs]; cases level <;> decide))

/-- Settles O32, by `judgeInput_putInput` at an input that nothing uses. -/
theorem inputFilterDebounces : Obligations.InputFilterDebounces := by
  unfold Obligations.InputFilterDebounces
  intro d s unused
  dsimp only
  refine ⟨fun level moves => ?_, fun q input time listening index => ?_, fun level => due_inputChange⟩
  · have taken : changeRaw d level s = judgeInput d (putInput d { s.inputs[d] with raw := level, age := 0 } s) :=
      if_neg moves
    have judged := taken.trans (judgeInput_putInput unused)
    refine ⟨fun waits => ?_, fun differs zero => ?_⟩
    · rw [if_neg] at judged
      · exact congrArg _ judged
      · rintro ⟨away, long⟩
        rcases waits with e | e
        · exact away e
        · unfold debounceTime at long
          dsimp only at long
          omega
    · have due : s.inputs[d].debounce * 10000 ≤ 0 := by rw [zero]
      rw [if_pos ⟨differs, due⟩] at judged
      exact congrArg _ judged
  · have taken : exec (.setDebounce q input time) s =
        .next (respond q 0x53 (setDebounceOwner input time (acceptFrame q.master s))) :=
      congrArg Host.Outcome.next (answer_listening listening _ _)
    have inputs : (acceptFrame q.master s).inputs[d] = s.inputs[d] := by rw [acceptFrame_inputs]
    have unused' : Unused d (acceptFrame q.master s) := fun level => (inputUses_acceptFrame ..).trans (unused level)
    have owner : setDebounceOwner input time (acceptFrame q.master s) =
        (judgeInput d (putInput d { s.inputs[d] with debounce := time.toNat } (acceptFrame q.master s)), .ok []) := by
      unfold setDebounceOwner
      rw [index]
      dsimp only
      rw [inputs]
    rw [taken, owner, judgeInput_putInput unused']
    refine ⟨fun waits => ?_, fun differs long => ?_⟩
    · rw [if_neg]
      · rfl
      · rintro ⟨away, long⟩
        rcases waits with e | e
        · exact away e
        · unfold debounceTime at long
          dsimp only at long
          omega
    · rw [if_pos ⟨differs, long⟩]
      rfl

end Sys2Proof
end

section
/-! SUPPORT. The plant trip and the supervision timers: a trip over all actuators does to each what it does to it alone, and
the chain ends that follow find no ramp of a MOVE or FOLLOW at a FAULTED actuator (R21 to R24, R28). -/

namespace Sys2Proof.Machine

theorem FaultTaken.of_entry {code : FaultCode} {n : ActId} {s t u : State} (h : FaultTaken code n s t)
    (actuator : u.actuators[n] = t.actuators[n]) (output : u.outputs[n] = t.outputs[n])
    (flag : ∀ m, flagSet m .actFault u = true) : FaultTaken code n s u := by
  unfold FaultTaken at h ⊢
  rw [actuator, output]
  obtain ⟨a, b, c, d, e, f, g, i, j, k, l, m, -⟩ := h
  exact ⟨a, b, c, d, e, f, g, i, j, k, l, m, flag⟩

theorem tripFault_executors (code : FaultCode) (n : ActId) (s : State) : (tripFault code n s).executors = s.executors := by
  unfold tripFault
  split
  · exact firstFault_executors ..
  · split
    · exact furtherFault_executors ..
    · rfl

theorem tripFault_healthy (code : FaultCode) {n : ActId} {s : State} (h : healthy s.actuators[n] = true) :
    tripFault code n s = firstFault code n s := by
  unfold tripFault
  rw [if_pos h]

/-- A FAULTED actuator that a trip reaches records a further fault, and all else of its fault stands (R24). -/
theorem tripFault_faulted (code : FaultCode) {n : ActId} {s : State} (h : s.actuators[n].state = .faulted) :
    (tripFault code n s).actuators[n] = { supervise s.actuators[n] with furtherFault := true } := by
  have sick : ¬ healthy s.actuators[n] = true := fun well => (healthy_iff.1 well).2 h
  have inside : inService s.actuators[n] = true := by unfold inService; rw [h]; rfl
  unfold tripFault
  rw [if_neg sick, if_pos inside]
  have entry : (furtherFault n s).actuators[n] = supervise { s.actuators[n] with furtherFault := true } :=
    (putActuator_self n _ s).1
  rw [entry, supervise, supervise]
  simp only [healthy, inService]
  (repeat' split) <;> simp_all

theorem tripFault_out (code : FaultCode) {n : ActId} {s : State} (h : s.actuators[n].state = .outOfService) :
    tripFault code n s = s := by
  have outside : ¬ inService s.actuators[n] = true := by unfold inService; rw [h]; simp
  have sick : ¬ healthy s.actuators[n] = true := fun well => (healthy_iff.1 well).1 h
  unfold tripFault
  rw [if_neg sick, if_neg outside]

/-- An actuator that is not healthy has no ramp of a MOVE or FOLLOW, so that the end of a chain leaves it (R31, R98). -/
theorem rampsRemoved_sick {ended : GroupId → Bool} {s t : State} (h : ChainRampsRemoved ended s t) {n : ActId}
    (slew : SlewOk s.actuators[n]) (sick : healthy s.actuators[n] = false) :
    t.actuators[n] = s.actuators[n] ∧ t.outputs[n] = s.outputs[n] := by
  have hn := h n
  dsimp only at hn
  generalize s.actuators[n] = a at *
  rw [if_neg] at hn
  · exact hn
  · rintro ⟨-, r, ramp, origin⟩
    obtain ⟨-, slew, -⟩ := slew
    rw [ramp] at slew
    obtain ⟨-, -, -, -, fits⟩ := slew
    rw [← Bool.not_eq_true, healthy_iff] at sick
    rcases fits with ⟨state, -⟩ | ⟨state, -⟩ | ⟨-, o, -⟩ | ⟨-, -, o⟩
    · simp [state] at sick
    · simp [state] at sick
    · rcases origin with e | e <;> rw [e] at o <;> cases o
    · rcases origin with e | e <;> rw [e] at o <;> cases o

/-- So is an actuator that is in no group whose chain ends. -/
theorem rampsRemoved_outside {ended : GroupId → Bool} {s t : State} (h : ChainRampsRemoved ended s t) {n : ActId}
    (outside : ∀ g, ended g = true → memberOf g s.actuators[n] = false) :
    t.actuators[n] = s.actuators[n] ∧ t.outputs[n] = s.outputs[n] := by
  have hn := h n
  dsimp only at hn
  rw [if_neg] at hn
  · exact hn
  · rintro ⟨⟨g, e, member⟩, -⟩
    rw [outside g e] at member
    cases member

/-- A trip that reaches a healthy actuator of a list sets ACT_FAULT (R21). -/
theorem told_foldl_tripFault (code : FaultCode) (xs : List ActId) (s : State) {n : ActId} (mem : n ∈ xs)
    (well : healthy s.actuators[n] = true) (m : Master) :
    flagSet m .actFault (xs.foldl (fun t k => tripFault code k t) s) = true := by
  induction xs generalizing s with
  | nil => cases mem
  | cons k xs ih =>
    rw [List.foldl_cons]
    by_cases e : n = k
    · subst e
      refine (around_foldl _ xs _ fun k t => around_tripFault code k t).flags _ _ ?_
      rw [tripFault_healthy code well]
      obtain ⟨-, -, -, -, -, -, -, -, -, -, -, -, told⟩ := firstFault_taken code n s
      exact told m
    · exact ih _ (by simpa [e] using mem) (by rwa [(tripFault_other code e s).1])

/-! ### The plant trip (R28) -/

theorem around_tripped (s : State) : Around s (tripped s) := around_foldl _ _ _ fun n t => around_tripFault _ n t

theorem tripped_executors (s : State) : (tripped s).executors = s.executors :=
  foldl_keeps (P := fun t => t.executors = s.executors) _ _ s (fun _ _ h => (tripFault_executors ..).trans h) rfl

theorem tripped_at (s : State) (n : ActId) :
    (tripped s).actuators[n] = (tripFault .plantTrip n s).actuators[n] ∧
      (tripped s).outputs[n] = (tripFault .plantTrip n s).outputs[n] := by
  have fold := foldl_tripFault .plantTrip allActuators (List.nodup_finRange 16) s n
  rw [if_pos (mem_allActuators n), if_pos (mem_allActuators n)] at fold
  exact fold

/-- At its actuators a plant trip is the trip fault of each: the ends of the chains find none with a ramp of theirs. -/
theorem plantTrip_at {s : State} (ok : ActuatorsOk s) (n : ActId) :
    (setFlagBoth .trip (chainsTripped (tripped s))).actuators[n] = (tripFault .plantTrip n s).actuators[n] ∧
      (setFlagBoth .trip (chainsTripped (tripped s))).outputs[n] = (tripFault .plantTrip n s).outputs[n] := by
  rw [setFlagBoth_actuators, setFlagBoth_outputs]
  obtain ⟨-, -, -, slew⟩ := (keeps_tripped s).actuators ok n
  obtain ⟨a, o⟩ := rampsRemoved_sick (chainsEnded_chainsTripped _).ramps slew (sick_tripped s n)
  rw [a, o]
  exact tripped_at s n

/-- What a plant trip does to one actuator. -/
theorem plantTrip_entry {s : State} (ok : ActuatorsOk s) (n : ActId) :
    let t := setFlagBoth .trip (chainsTripped (tripped s))
    (healthy s.actuators[n] = true → FaultTaken .plantTrip n s t) ∧
    (s.actuators[n].state = .faulted → t.actuators[n] = { supervise s.actuators[n] with furtherFault := true }) ∧
    (s.actuators[n].state = .outOfService → t.actuators[n] = s.actuators[n]) := by
  intro t
  obtain ⟨entry, output⟩ := plantTrip_at ok n
  refine ⟨fun well => ?_, fun state => entry.trans (tripFault_faulted _ state), fun state => ?_⟩
  · have told : ∀ m, flagSet m .actFault t = true := fun m =>
      ((chainsEnded_chainsTripped (tripped s)).around.trans (around_setFlagBoth ..)).flags m _
        (told_foldl_tripFault .plantTrip allActuators s (mem_allActuators n) well m)
    rw [tripFault_healthy _ well] at entry output
    exact (firstFault_taken .plantTrip n s).of_entry entry output told
  · rw [tripFault_out _ state] at entry
    exact entry

/-! ### A group trip (R23) -/

/-- The faults of a group trip, the chain's end left out. -/
def groupTripped (g : GroupId) (n : ActId) (s : State) : State :=
  allActuators.foldl (fun t k => if k ≠ n ∧ memberOf g t.actuators[k] then tripFault .groupTrip k t else t) s

theorem groupTrip_eq (g : GroupId) (n : ActId) (s : State) : groupTrip g n s = endIfRunning g .tripped (groupTripped g n s) := rfl

theorem groupTripped_at (g : GroupId) (n k : ActId) (s : State) :
    (groupTripped g n s).actuators[k] =
        (if k ≠ n ∧ memberOf g s.actuators[k] then tripFault .groupTrip k s else s).actuators[k] ∧
      (groupTripped g n s).outputs[k] =
        (if k ≠ n ∧ memberOf g s.actuators[k] then tripFault .groupTrip k s else s).outputs[k] := by
  have fold := foldl_own (act := fun t k => if k ≠ n ∧ memberOf g t.actuators[k] then tripFault .groupTrip k t else t)
    (fun t k j e => by
      split
      · exact tripFault_other _ e t
      · exact ⟨rfl, rfl⟩)
    (fun t u k a o => by
      rw [a]
      split
      · exact tripFault_congr _ a o
      · exact ⟨a, o⟩) allActuators (List.nodup_finRange 16) s k
  rw [if_pos (mem_allActuators k), if_pos (mem_allActuators k)] at fold
  exact fold

theorem around_groupTripped (g : GroupId) (n : ActId) (s : State) : Around s (groupTripped g n s) :=
  around_foldl _ _ _ fun k t => by
    split
    · exact around_tripFault ..
    · exact .refl t

theorem keeps_groupTripped (g : GroupId) (n : ActId) (s : State) : Keeps s (groupTripped g n s) :=
  keeps_foldl _ _ _ fun k t => by
    split
    · exact keeps_tripFault ..
    · exact .refl t

theorem groupTripped_executors (g : GroupId) (n : ActId) (s : State) : (groupTripped g n s).executors = s.executors :=
  foldl_keeps (P := fun t => t.executors = s.executors) _ _ s
    (fun _ t h => by
      split
      · exact (tripFault_executors ..).trans h
      · exact h) rfl

theorem groupTrip_executors (g h : GroupId) (n : ActId) (s : State) : (groupTrip g n s).executors[h] =
    if h = g ∧ s.executors[h].state ≠ .idle then Ended .tripped s.executors[h] else s.executors[h] := by
  rw [groupTrip_eq, (chainsEnded_endIfRunning (by decide) g _).executors, groupTripped_executors]
  simp only [Bool.and_eq_true, beq_iff_eq, decide_eq_true_eq]

/-- At an actuator that is another group's, or is healthy no longer once the faults are taken, the chain's end changes nothing. -/
theorem groupTrip_at {g : GroupId} {n k : ActId} {s : State} (ok : ActuatorsOk s)
    (sick : memberOf g s.actuators[k] = true → healthy (groupTripped g n s).actuators[k] = false) :
    (groupTrip g n s).actuators[k] = (groupTripped g n s).actuators[k] ∧
      (groupTrip g n s).outputs[k] = (groupTripped g n s).outputs[k] := by
  have ramps := (chainsEnded_endIfRunning (o := .tripped) (by decide) g (groupTripped g n s)).ramps
  rw [← groupTrip_eq] at ramps
  cases member : memberOf g s.actuators[k] with
  | true =>
    obtain ⟨-, -, -, slew⟩ := (keeps_groupTripped g n s).actuators ok k
    exact rampsRemoved_sick ramps slew (sick member)
  | false =>
    refine rampsRemoved_outside ramps fun h ended => ?_
    simp only [Bool.and_eq_true, beq_iff_eq] at ended
    rw [ended.1, memberOf, (around_groupTripped g n s).cfg k]
    exact member

theorem groupTrip_member {g : GroupId} {n k : ActId} {s : State} (ok : ActuatorsOk s) (other : k ≠ n)
    (member : memberOf g s.actuators[k] = true) :
    (groupTrip g n s).actuators[k] = (tripFault .groupTrip k s).actuators[k] ∧
      (groupTrip g n s).outputs[k] = (tripFault .groupTrip k s).outputs[k] := by
  obtain ⟨a, o⟩ := groupTripped_at g n k s
  rw [if_pos ⟨other, member⟩] at a o
  obtain ⟨a', o'⟩ := groupTrip_at ok (n := n) fun _ => (congrArg healthy a).trans (tripFault_sick ..)
  exact ⟨a'.trans a, o'.trans o⟩

theorem groupTrip_outside {g : GroupId} {n k : ActId} {s : State} (ok : ActuatorsOk s)
    (outside : memberOf g s.actuators[k] = false) :
    (groupTrip g n s).actuators[k] = s.actuators[k] ∧ (groupTrip g n s).outputs[k] = s.outputs[k] := by
  obtain ⟨a, o⟩ := groupTripped_at g n k s
  rw [if_neg (by rw [outside]; simp)] at a o
  obtain ⟨a', o'⟩ := groupTrip_at ok (n := n) fun member => by rw [outside] at member; cases member
  exact ⟨a'.trans a, o'.trans o⟩

/-- The actuator whose fault trips its group stands as that fault left it. -/
theorem groupTrip_self {g : GroupId} {n : ActId} {s : State} (ok : ActuatorsOk s)
    (sick : healthy s.actuators[n] = false) :
    (groupTrip g n s).actuators[n] = s.actuators[n] ∧ (groupTrip g n s).outputs[n] = s.outputs[n] := by
  obtain ⟨a, o⟩ := groupTripped_at g n n s
  rw [if_neg (by simp)] at a o
  obtain ⟨a', o'⟩ := groupTrip_at ok (n := n) fun _ => (congrArg healthy a).trans sick
  exact ⟨a'.trans a, o'.trans o⟩

/-- A fault whose trip reaches the group (R23): every executor that a safe landing could be reported to has ended. -/
theorem raiseFault_group {g : GroupId} {n : ActId} {s : State} (ok : ActuatorsOk s) (member : memberOf g s.actuators[n] = true)
    (scope : s.actuators[n].cfg.tripScope = .group) (well : healthy s.actuators[n] = true) (code : FaultCode) :
    raiseFault code n s = groupTrip g n (firstFault code n s) := by
  have group : s.actuators[n].cfg.group = some g := by
    simp only [memberOf, Bool.and_eq_true, beq_iff_eq] at member
    exact member.2
  have around := around_firstFault code n s
  unfold raiseFault
  rw [if_pos well, scope, group]
  dsimp only
  refine reportSafeLandings_unattended fun k wellBefore faulted h inGroup => ?_
  rw [groupTrip_executors]
  split
  · rfl
  next standing =>
    by_cases e : h = g
    · exact Classical.not_not.1 fun running => standing ⟨e, running⟩
    · exfalso
      have cfg : (groupTrip g n (firstFault code n s)).actuators[k].cfg = s.actuators[k].cfg :=
        (around.trans (around_groupTrip ..)).cfg k
      rw [cfg] at inGroup
      have other : k ≠ n := by
        rintro rfl
        rw [group] at inGroup
        exact e (Option.some.inj inGroup).symm
      have entry : (firstFault code n s).actuators[k] = s.actuators[k] := (onlyActuator_firstFault code n s).1 k other |>.1
      have outside : memberOf g (firstFault code n s).actuators[k] = false := by
        rw [entry, memberOf, inGroup, Bool.and_eq_false_iff]
        exact .inr (by simpa using e)
      rw [(groupTrip_outside ((keeps_firstFault well code).actuators ok) outside).1, entry] at faulted
      exact (healthy_iff.1 wellBefore).2 faulted

/-! ### The timers' expiries -/

theorem FaultTaken.of_before {code : FaultCode} {n : ActId} {s u t : State} (h : FaultTaken code n u t)
    (entry : u.actuators[n] = s.actuators[n]) : FaultTaken code n s t := by
  unfold FaultTaken at h ⊢
  rwa [entry] at h

theorem faulted_alone {n : ActId} {s : State} (alone : Unattended n s) (scope : s.actuators[n].cfg.tripScope = .self)
    (well : healthy s.actuators[n] = true) (code : FaultCode) :
    FaultTaken code n s (raiseFault code n s) ∧ OnlyActuator n s (raiseFault code n s) := by
  rw [raiseFault_alone alone scope, if_pos well]
  exact ⟨firstFault_taken code n s, onlyActuator_firstFault code n s⟩

theorem proofExpiry_due {n : ActId} {s : State} (due : s.actuators[n].proofTimer = some 0) :
    (s.actuators[n].state = .starting → proofExpiry n s = raiseFault .proofFail n s) ∧
      (s.actuators[n].state = .stopping .dropWait → proofExpiry n s = raiseFault .stopFail n s) := by
  unfold proofExpiry
  dsimp only
  rw [due]
  constructor <;> (intro state; rw [state]; rfl)

theorem proofExpiry_still {n : ActId} {s : State} (early : s.actuators[n].proofTimer ≠ some 0) : proofExpiry n s = s := by
  unfold proofExpiry
  dsimp only
  split
  next due _ => exact absurd due early
  next due _ => exact absurd due early
  next => rfl

theorem deviationExpiry_eq (n : ActId) (s : State) :
    deviationExpiry n s = if s.actuators[n].deviationTimer = some 0 then raiseFault .deviation n s else s := by
  unfold deviationExpiry
  split
  next due => rw [if_pos due]
  next early => rw [if_neg early]

theorem lostExpiry_eq (n : ActId) (s : State) :
    lostExpiry n s = if s.actuators[n].lostTimer = some 0 then raiseFault .feedbackLost n s else s := by
  unfold lostExpiry
  split
  next due => rw [if_pos due]
  next early => rw [if_neg early]

theorem changeTripRaw_eq {level : Bool} {s : State} (h : s.ptrip.raw ≠ level) :
    changeTripRaw level s = { s with ptrip := { s.ptrip with raw := level, age := 0 } } := by
  unfold changeTripRaw
  rw [if_neg h]

end Sys2Proof.Machine

namespace Sys2Proof
open Machine

/-- Settles O29: the trip fault of each actuator (`plantTrip_entry`), then the ends of the chains. -/
theorem plantTrip : Obligations.PlantTrip := by
  unfold Obligations.PlantTrip
  refine ⟨fun s off ok => ?_, fun level s differs => congrArg Host.Outcome.next (changeTripRaw_eq differs), fun s on => ?_,
    fun s => ⟨due_tripAssertion, due_tripDeassertion⟩⟩
  · let s1 : State := { s with ptrip := { asserted := true, raw := false, age := 0 } }
    have around : Around s1 (chainsTripped (tripped s1)) :=
      (around_tripped s1).trans (chainsEnded_chainsTripped _).around
    refine ⟨setFlagBoth .trip (chainsTripped (tripped s1)), congrArg Host.Outcome.next (assertTrip_eq off), ?_, fun n => ?_,
      fun g => ?_, fun m => ?_, ?_, ?_⟩
    · rw [setFlagBoth_ptrip, around.ptrip]
    · obtain ⟨well, faulted, out⟩ := plantTrip_entry (s := s1) ok n
      refine ⟨well, fun state => ?_, out⟩
      rw [faulted state]
      simp only [supervise_fault, supervise_commandAtFault, supervise_state, supervise_command, supervise_ramp, true_and]
      exact ⟨rfl, rfl, state, rfl, rfl⟩
    · rw [setFlagBoth_executors, (chainsEnded_chainsTripped _).executors, tripped_executors]
      by_cases idle : s.executors[g].state = .idle
      · rw [if_pos idle, if_neg (by simpa using idle)]
      · rw [if_neg idle, if_pos (by simpa using idle)]
    · rw [flagSet_setFlagBoth]; simp
    · rw [setFlagBoth_governor, around.governor]
    · rw [setFlagBoth_groupHolders, around.groupHolders]
  · exact congrArg Host.Outcome.next (if_pos on)

/-- Settles O30: an expiry raises its fault, which reaches the actuator alone or its group. -/
theorem supervisionExpiriesFault : Obligations.SupervisionExpiriesFault := by
  unfold Obligations.SupervisionExpiriesFault
  refine ⟨fun n s scope alone _ _ => ⟨fun due => ⟨fun state => ?_, fun state => ?_⟩, fun well => ⟨fun due => ?_, fun due => ?_⟩,
    fun early => ?_, fun early => ?_, fun early => ?_⟩, fun n g s ok member scope well due => ?_⟩
  · exact ⟨_, congrArg Host.Outcome.next ((proofExpiry_due due).1 state),
      faulted_alone alone scope (healthy_of_state state (by simp) (by simp)) _⟩
  · exact ⟨_, congrArg Host.Outcome.next ((proofExpiry_due due).2 state),
      faulted_alone alone scope (healthy_of_state state (by simp) (by simp)) _⟩
  · exact ⟨_, congrArg Host.Outcome.next ((deviationExpiry_eq n s).trans (if_pos due)), faulted_alone alone scope well _⟩
  · exact ⟨_, congrArg Host.Outcome.next ((lostExpiry_eq n s).trans (if_pos due)), faulted_alone alone scope well _⟩
  · exact congrArg Host.Outcome.next (proofExpiry_still early)
  · exact congrArg Host.Outcome.next ((deviationExpiry_eq n s).trans (if_neg early))
  · exact congrArg Host.Outcome.next ((lostExpiry_eq n s).trans (if_neg early))
  · have fault : deviationExpiry n s = groupTrip g n (firstFault .deviation n s) := by
      rw [deviationExpiry_eq, if_pos due, raiseFault_group ok member scope well]
    have taken := firstFault_taken .deviation n s
    have after := (keeps_firstFault well .deviation).actuators ok
    have sick : healthy (firstFault .deviation n s).actuators[n] = false := by
      rw [← Bool.not_eq_true, healthy_iff]
      exact fun h => h.2 taken.1
    have told : ∀ m, flagSet m .actFault (groupTrip g n (firstFault .deviation n s)) = true := fun m =>
      (around_groupTrip g n _).flags m _ (by
        obtain ⟨-, -, -, -, -, -, -, -, -, -, -, -, flag⟩ := taken
        exact flag m)
    refine ⟨_, congrArg Host.Outcome.next fault, ?_, fun k other => ?_, fun h => ?_⟩
    · obtain ⟨entry, output⟩ := groupTrip_self (g := g) after sick
      exact taken.of_entry entry output told
    · have entry : (firstFault .deviation n s).actuators[k] = s.actuators[k] := ((onlyActuator_firstFault ..).1 k other).1
      refine ⟨fun inGroup wellThere => ?_, fun inGroup state => ?_, fun aside => ?_⟩
      · rw [← entry] at inGroup wellThere
        obtain ⟨a, o⟩ := groupTrip_member (n := n) after other inGroup
        rw [tripFault_healthy _ wellThere] at a o
        exact ((firstFault_taken .groupTrip k _).of_entry a o told).of_before entry
      · rw [← entry] at inGroup state
        rw [(groupTrip_member (n := n) after other inGroup).1, tripFault_faulted _ state, entry]
        simp only [supervise_fault, supervise_commandAtFault, and_self]
      · rw [← entry] at aside ⊢
        cases inGroup : memberOf g (firstFault .deviation n s).actuators[k] with
        | false => exact (groupTrip_outside (n := n) after inGroup).1
        | true =>
          rw [(groupTrip_member (n := n) after other inGroup).1,
            tripFault_out _ (aside.resolve_left (by rw [inGroup]; simp))]
    · rw [groupTrip_executors, firstFault_executors]

end Sys2Proof
end

section
/-! SUPPORT. The slew generator and the period end: what one expiry does to the entry and its channel, and what many of them
come to (R32 to R36, R42 to R44, R149). -/

namespace Sys2Proof.Machine

/-! ### The arithmetic of a ramp -/

/-- How far a command lies from its target, and on which side. -/
theorem distance_of_lt {x y : Nat} (h : x < y) : distance y x = y - x ∧ distance x y = y - x := by
  unfold distance
  rw [if_neg (by omega), if_pos h]
  exact ⟨rfl, rfl⟩

/-- The entry of an unbroken ramp after `k` expiries. -/
def slewed (r : Ramp) (k : Nat) (a : Actuator) : Actuator := (fun b => (stepRamp r b).1)^[k] a

theorem slewed_succ (r : Ramp) (k : Nat) (a : Actuator) : slewed r (k + 1) a = (stepRamp r (slewed r k a)).1 :=
  Function.iterate_succ_apply' ..

/-- The entry of a ramp that has not landed after `k` expiries from accumulator 0 (R35). -/
structure Slewing (r : Ramp) (k : Nat) (a b : Actuator) : Prop where
  accumulator : b.accumulator = k * r.rateStep % 64
  command : b.command = if a.command < r.target then a.command + k * r.rateStep / 64 else a.command - k * r.rateStep / 64

/-- The units of one expiry more, as the whole units so far and the remainder kept give them. -/
theorem units_succ (k q : Nat) : k * q / 64 + (k * q % 64 + q) / 64 = (k + 1) * q / 64 ∧
    (k * q % 64 + q) % 64 = (k + 1) * q % 64 := by
  rw [Nat.succ_mul]
  omega

theorem Slewing.distance {r : Ramp} {k : Nat} {a b : Actuator} (h : Slewing r k a b)
    (early : k * r.rateStep < 64 * distance r.target a.command) :
    Machine.distance r.target b.command = Machine.distance r.target a.command - k * r.rateStep / 64 ∧
      (b.command < r.target ↔ a.command < r.target) := by
  rw [h.command]
  unfold Machine.distance at *
  generalize k * r.rateStep = x at *
  split at early <;> split <;> split <;> omega

theorem Slewing.moves {r : Ramp} {k : Nat} {a b : Actuator} (h : Slewing r k a b)
    (early : (k + 1) * r.rateStep < 64 * Machine.distance r.target a.command) :
    (stepRamp r b).2 = false ∧ Slewing r (k + 1) a (stepRamp r b).1 := by
  have now : k * r.rateStep < 64 * Machine.distance r.target a.command :=
    lt_of_le_of_lt (Nat.mul_le_mul_right _ (Nat.le_succ k)) early
  obtain ⟨left, side⟩ := h.distance now
  obtain ⟨units, rest⟩ := units_succ k r.rateStep
  have short : (b.accumulator + r.rateStep) / 64 < Machine.distance r.target b.command := by
    rw [left, h.accumulator]
    omega
  rw [stepRamp_moves short]
  refine ⟨rfl, ⟨by rw [← rest, ← h.accumulator], ?_⟩⟩
  dsimp only
  rw [h.accumulator, ← units]
  simp only [side]
  rw [h.command]
  split <;> omega

theorem Slewing.lands {r : Ramp} {k : Nat} {a b : Actuator} (h : Slewing r k a b)
    (now : k * r.rateStep < 64 * Machine.distance r.target a.command)
    (late : 64 * Machine.distance r.target a.command ≤ (k + 1) * r.rateStep) :
    (stepRamp r b).2 = true ∧ (stepRamp r b).1.command = r.target := by
  obtain ⟨left, -⟩ := h.distance now
  obtain ⟨units, -⟩ := units_succ k r.rateStep
  have reached : Machine.distance r.target b.command ≤ (b.accumulator + r.rateStep) / 64 := by
    rw [left, h.accumulator]
    omega
  rw [stepRamp_lands reached]
  exact ⟨rfl, (landRamp_spec ..).1⟩

/-- The exact count law of R35. -/
theorem slewing_slewed {r : Ramp} {a : Actuator} (fresh : a.accumulator = 0) (k : Nat)
    (early : k * r.rateStep < 64 * distance r.target a.command) : Slewing r k a (slewed r k a) := by
  induction k with
  | zero => exact ⟨by simpa [slewed] using fresh, by simp [slewed]⟩
  | succ k ih =>
    rw [slewed_succ]
    exact ((ih (lt_of_le_of_lt (Nat.mul_le_mul_right _ (Nat.le_succ k)) early)).moves early).2

/-- No expiry moves the command by more than its whole units (R42). -/
theorem stepRamp_bound (r : Ramp) (a : Actuator) :
    distance a.command (stepRamp r a).1.command ≤ (a.accumulator + r.rateStep) / 64 := by
  by_cases h : distance r.target a.command ≤ (a.accumulator + r.rateStep) / 64
  · rw [stepRamp_lands h]
    dsimp only
    rw [(landRamp_spec ..).1]
    unfold distance at *
    split at h <;> split <;> omega
  · rw [stepRamp_moves (by omega)]
    unfold distance at *
    dsimp only
    split at h <;> split <;> split <;> omega

/-! ### The expiry of a slew timer -/

/-- The entry at a slew expiry, its timer started anew. -/
def ticking (a : Actuator) : Actuator := { a with slewTimer := slewInterval }

theorem slewTick_ramp {n : ActId} {s : State} {r : Ramp} (ramp : s.actuators[n].ramp = some r) :
    slewTick n s =
      let t := putActuator n (stepRamp r (ticking s.actuators[n])).1 s
      if (stepRamp r (ticking s.actuators[n])).2 then reportLanded n t else t := by
  unfold slewTick
  dsimp only
  split
  next none => rw [none] at ramp; cases ramp
  next q some =>
    cases some.symm.trans ramp
    split
    next b e => rw [show stepRamp r (ticking s.actuators[n]) = (b, true) from e]; rfl
    next b e => rw [show stepRamp r (ticking s.actuators[n]) = (b, false) from e]; rfl

theorem slewTick_moves {n : ActId} {s : State} {r : Ramp} (ramp : s.actuators[n].ramp = some r)
    (short : (s.actuators[n].accumulator + r.rateStep) / 64 < distance r.target s.actuators[n].command) :
    slewTick n s = putActuator n (stepRamp r (ticking s.actuators[n])).1 s := by
  rw [slewTick_ramp ramp, stepRamp_moves (a := ticking s.actuators[n]) short]
  rfl

theorem slewTick_lands {n : ActId} {s : State} {r : Ramp} (ramp : s.actuators[n].ramp = some r) (alone : Unattended n s)
    (reached : distance r.target s.actuators[n].command ≤ (s.actuators[n].accumulator + r.rateStep) / 64) :
    slewTick n s = putActuator n (landRamp r.target (ticking s.actuators[n])) s := by
  rw [slewTick_ramp ramp, stepRamp_lands (a := ticking s.actuators[n]) reached]
  have cfg : (landRamp r.target (ticking s.actuators[n])).cfg = s.actuators[n].cfg := landRamp_cfg ..
  obtain ⟨landed, -⟩ := reports_unattended (alone.putActuator cfg) .none
  dsimp only
  rw [if_pos rfl, landed]

/-- An entry replaced, seen whole: its two supervision timers, its channel, and nothing beside them. -/
theorem putActuator_seen {n : ActId} {a : Actuator} {s : State} (deviation : a.deviationTimer = s.actuators[n].deviationTimer)
    (lost : a.lostTimer = s.actuators[n].lostTimer) :
    let t := putActuator n a s
    t.actuators[n] =
        { a with deviationTimer := t.actuators[n].deviationTimer, lostTimer := t.actuators[n].lostTimer } ∧
      Supervised s.actuators[n] t.actuators[n] ∧
      t.outputs[n].pendingDuty = (a.command * nextPeriod s.outputs[n] + 5000) / 10000 ∧
      t.outputs[n].runOutput = runsOutput a ∧ OnlyActuator n s t := by
  intro t
  obtain ⟨entry, output⟩ := putActuator_self n a s
  have he : t.actuators[n] = supervise a := entry
  have ho : t.outputs[n] = outputFor a s.outputs[n] := output
  rw [he, ho]
  exact ⟨supervise_frame a, supervised_supervise deviation lost, rfl, rfl, onlyActuator_putActuator ..⟩

/-- What a landing does to the entry, beside the fields that it names (R36). -/
theorem landRamp_entry (t : Nat) (a : Actuator) :
    landRamp t a =
        { a with
          command := t, accumulator := 0, ramp := none
          state := match a.state with
            | .moving => .holding
            | .stopping .rampDown => .stopping .dropWait
            | x => x
          proofTimer := (landRamp t a).proofTimer } ∧
      (a.state ≠ .stopping .rampDown → (landRamp t a).proofTimer = a.proofTimer) ∧
      (a.state = .stopping .rampDown →
        (landRamp t a).proofTimer = some (seconds (a.cfg.proofTimeout.getD 0)) ∧ runsOutput (landRamp t a) = false) := by
  obtain ⟨cfg, state, command, ramp, acc, follow, fb, fault, further, atFault, proof, dev, lost, slew⟩ := a
  unfold landRamp
  rcases state with _ | _ | _ | _ | (_ | _) | _ | _ | _ <;> simp [runsOutput]

end Sys2Proof.Machine

namespace Sys2Proof
open Machine

/-- Settles O28, by induction on the number of expiries. -/
theorem rampArithmetic : Obligations.RampArithmetic := by
  unfold Obligations.RampArithmetic
  refine ⟨?_, fun r a _ ramp slew => ?_⟩
  · intro r a fresh _ d after k
    have law : k * r.rateStep < 64 * d → Slewing r k a (after k) := slewing_slewed fresh k
    refine ⟨fun early => ⟨(law early).accumulator, (law early).command⟩, fun early late => (law early).lands early late,
      fun early => ((law ?_).moves early).1⟩
    exact lt_of_le_of_lt (Nat.mul_le_mul_right _ (Nat.le_succ k)) early
  · obtain ⟨small, slew, -⟩ := slew
    rw [ramp] at slew
    obtain ⟨-, -, -, rate, -⟩ := slew
    refine (stepRamp_bound r a).trans ?_
    unfold rateStepOf at rate
    omega

/-- Settles O27. -/
theorem slewExpiryAndPeriodEnd : Obligations.SlewExpiryAndPeriodEnd := by
  unfold Obligations.SlewExpiryAndPeriodEnd
  refine ⟨fun n s => ⟨fun still => congrArg Host.Outcome.next (slewTick_still still), fun r ramp => ?_⟩, fun n s => rfl,
    fun o => ⟨fun driven free early => ?_, fun inactive => ?_⟩⟩
  · intro w left
    have dist : left = distance r.target s.actuators[n].command := by
      simp only [left, distance]
      split <;> split <;> omega
    refine ⟨fun short => ?_, fun reached alone => ?_⟩
    · rw [dist] at short
      refine ⟨_, congrArg Host.Outcome.next (slewTick_moves ramp short), ?_⟩
      obtain ⟨entry, supervised, duty, -, only⟩ := putActuator_seen (n := n) (s := s)
        (a := (stepRamp r (ticking s.actuators[n])).1) (by rw [stepRamp_moves (a := ticking s.actuators[n]) short]; rfl)
        (by rw [stepRamp_moves (a := ticking s.actuators[n]) short]; rfl)
      refine ⟨entry.trans ?_, supervised, duty.trans ?_, only⟩
      · rw [stepRamp_moves (a := ticking s.actuators[n]) short]
        rfl
      · rw [entry]
    · rw [dist] at reached
      refine ⟨_, congrArg Host.Outcome.next (slewTick_lands ramp alone reached), ?_⟩
      obtain ⟨timers, kept, dropped⟩ := landRamp_entry r.target (ticking s.actuators[n])
      obtain ⟨entry, supervised, duty, run, only⟩ := putActuator_seen (n := n) (s := s)
        (a := landRamp r.target (ticking s.actuators[n])) (by rw [timers]; rfl) (by rw [timers]; rfl)
      have proof := congrArg Actuator.proofTimer entry
      have output : (putActuator n (landRamp r.target (ticking s.actuators[n])) s).outputs[n].pendingDuty =
          (r.target * nextPeriod s.outputs[n] + 5000) / 10000 := by
        rw [duty, (landRamp_spec ..).1]
      refine ⟨?_, fun other => proof.trans (kept other), supervised, fun down => ⟨run.trans (dropped down).2, ?_⟩, output, only⟩
      · rw [proof]
        exact entry.trans (congrArg (fun b : Actuator =>
          { b with
            deviationTimer := (putActuator n (landRamp r.target (ticking s.actuators[n])) s).actuators[n].deviationTimer
            lostTimer := (putActuator n (landRamp r.target (ticking s.actuators[n])) s).actuators[n].lostTimer }) timers)
      · exact proof.trans (dropped down).1
  · unfold lineHigh lineActive
    rw [driven, free]
    cases o.polarity <;> simp [early]
  · have off : lineActive o = false := by
      unfold lineActive
      rcases inactive with e | e | e
      · rw [e]; rfl
      · rw [e]; simp
      · simp [Nat.not_lt.2 e]
    unfold lineHigh
    rw [off]
    cases o.polarity <;> simp

end Sys2Proof
end

section
/-! SUPPORT. The requests that are refused, and the requests with one effect: descriptors, cursors, a chain cancelled. -/

namespace Sys2Proof.Machine

/-! ### A request, served -/

theorem exec_served {i : Instr} {q : Req} {code : Byte} {owner : State → State × Reply} {s : State} {r : State × Reply}
    (request : exec i s = .next (answer q code owner s)) (h : Listening q.master s)
    (served : owner (acceptFrame q.master s) = r) : exec i s = .next (respond q code r) := by
  rw [request, answer_listening h, served]

theorem exec_servedInTime {i : Instr} {q : Req} {code : Byte} {owner : State → State × Reply} {s : State} {r : State × Reply}
    (request : exec i s = .next (answerAtClaims q code owner s)) (h : ListeningInTime q.master s)
    (served : owner (acceptFrame q.master s) = r) : exec i s = .next (respond q code r) := by
  rw [request, answerAtClaims_listening h.1 h.2, served]

/-! ### Descriptors (R49, R50) -/

theorem slotFor_outOfRange {slot : Byte} (h : 128 ≤ slot.toNat) (m : Master) (s : State) :
    slotFor m slot s = .error .outOfRange := by
  rw [slotFor, index?_eq_none.2 h]

theorem slotFor_of_index {slot : Byte} {k : SlotId} (h : index? 128 slot = some k) (m : Master) (s : State) :
    slotFor m slot s =
      match s.slots[k].state with
      | .free => .ok k
      | .written w => if w = m.other then .error .ownedByOther else .ok k
      | .bound _ _ => .error .bound := by
  unfold slotFor
  rw [h]
  dsimp only
  cases s.slots[k].state with
  | free => rfl
  | bound w g => rfl
  | written w => simp [isBound, slotWriter]

section
variable {m : Master} {slot : Byte} {k : SlotId} {r : RawDescriptor} {s : State} {c : RefusalCode}

theorem writeDescriptorOwner_refused (h : slotFor m slot s = .error c) : writeDescriptorOwner m slot r s = refuse c s := by
  rw [writeDescriptorOwner, h]

theorem freeDescriptorOwner_refused (h : slotFor m slot s = .error c) : freeDescriptorOwner m slot s = refuse c s := by
  rw [freeDescriptorOwner, h]

theorem writeDescriptorOwner_unread (h : slotFor m slot s = .ok k) (unread : descriptor? r = none) :
    writeDescriptorOwner m slot r s = refuse .outOfRange s := by
  rw [writeDescriptorOwner, h, unread]

theorem writeDescriptorOwner_ok {d : Descriptor} (h : slotFor m slot s = .ok k) (read : descriptor? r = some d) :
    writeDescriptorOwner m slot r s = (putSlot k { state := .written m, record := d } s, .ok []) := by
  rw [writeDescriptorOwner, h, read]

theorem freeDescriptorOwner_ok (h : slotFor m slot s = .ok k) :
    freeDescriptorOwner m slot s = (putSlot k Slot.powerOn s, .ok []) := by
  rw [freeDescriptorOwner, h]

end

/-! ### Cursors (R63 to R65, R88) -/

theorem cursorValue_setCursor (x : Executor) (b c : BaseCursor) (r : RowId) :
    cursorValue (setCursor x b r) c = if c = b ∧ b ≠ .c0 then r else cursorValue x c := by
  cases b <;> cases c <;> rfl

theorem setCursor_rest (x : Executor) (b : BaseCursor) (r : RowId) :
    setCursor x b r = { x with c1 := (setCursor x b r).c1, c2 := (setCursor x b r).c2 } := by
  cases b <;> rfl

/-- A fetch by a row, its pair's second value from the row after it. -/
theorem fetch_row {profile : Table Half 64} {x : Executor} {d : Descriptor} {e : RowId}
    (row : effectiveRow x d.operand = some e) :
    fetch profile x d =
      { first := profile[e]
        second := if d.pair then some profile[(⟨(e.val + 1) % 64, by omega⟩ : RowId)] else none
        row := some e } := by
  unfold fetch
  have after : some profile[mod64 (e.val + 1)] = some profile[(⟨(e.val + 1) % 64, by omega⟩ : RowId)] :=
    congrArg (fun i : RowId => some profile[i]) (mod64_next e)
  rw [row, ← after]
  cases operand : d.operand with
  | imm v => rw [operand] at row; cases row
  | row _ => rfl
  | idx _ _ => rfl
  | idxu _ _ => rfl

theorem CursorName.base_ne_c0 (c : CursorName) : c.base ≠ .c0 := by cases c <;> simp [CursorName.base]

/-! ### Requests that need a group (R71, R94, R97) -/

section
variable {m : Master} {g : GroupId} {s t : State}

theorem invalidForm_congr (actuators : t.actuators = s.actuators) (d : Descriptor) : invalidForm g d t = invalidForm g d s := by
  unfold invalidForm
  rw [actuators]

/-- The walk looks at the slots and the actuators alone. -/
theorem walk_congr (slots : t.slots = s.slots) (actuators : t.actuators = s.actuators) (fuel : Nat) (path seen : List SlotId)
    (k : SlotId) : walk m g t fuel path seen k = walk m g s fuel path seen k := by
  induction fuel generalizing path seen k with
  | zero => rfl
  | succ fuel ih =>
    have unfit : unfitSlot m g seen.length t.slots[k] t = unfitSlot m g seen.length s.slots[k] s := by
      unfold unfitSlot
      rw [slots]
      simp only [invalidForm_congr actuators]
    rw [walk, walk, unfit, slots]
    simp only [ih]

theorem reachable_acceptFrame (n : Master) (k : SlotId) : reachable m g k (acceptFrame n s) = reachable m g k s :=
  walk_congr (acceptFrame_slots n s) (acceptFrame_actuators n s) ..

theorem unfitSlot_start (x : Slot) :
    unfitSlot m g 0 x s =
      match x.state with
      | .free => some .unwrittenSlot
      | .written w => if w ≠ m then some .foreignSlot else if invalidForm g x.record s then some .invalidForm else none
      | .bound w _ => if w ≠ m then some .foreignSlot else some .bound :=
  if_neg (by decide)

theorem unfitSlot_foreign {x : Slot} (foreign : slotWriter x.state = some m.other) :
    unfitSlot m g 0 x s = some .foreignSlot := by
  rw [unfitSlot_start]
  cases state : x.state with
  | free => rw [state] at foreign; cases foreign
  | written w =>
    rw [state] at foreign
    cases foreign
    exact if_pos (Machine.Master.other_ne m)
  | bound w h =>
    rw [state] at foreign
    cases foreign
    exact if_pos (Machine.Master.other_ne m)

/-- A step on an actuator that is no member of the group, or that wants a pump where it is a valve (R67). -/
theorem invalidForm_of_actuator {d : Descriptor} {n : ActId} (op : d.op.actuator = some n)
    (bad : s.actuators[n].cfg.kind = .none ∨ s.actuators[n].cfg.group ≠ some g ∨
      (s.actuators[n].cfg.kind = .valve ∧ (d.op = .start n ∨ d.op = .stop n ∨ d.op = .follow n))) :
    invalidForm g d s = true := by
  unfold invalidForm memberOf
  rw [op]
  dsimp only
  rw [Bool.or_eq_true, Bool.or_eq_true]
  refine .inr ?_
  rcases bad with kind | group | ⟨kind, step⟩
  · exact .inr (by rw [kind]; rfl)
  · right
    rw [Bool.not_eq_true', Bool.and_eq_false_iff]
    exact .inr (by rwa [beq_eq_false_iff_ne])
  · left
    rw [kind]
    rcases step with e | e | e <;> rw [e] <;> rfl

/-- A start slot that is not fit is refused by itself. -/
theorem reachable_unfit {k : SlotId} {c : RefusalCode} (unfit : unfitSlot m g 0 s.slots[k] s = some c) :
    reachable m g k s = .error (c, k) := by
  rw [reachable, walk, List.length_nil, unfit]

/-- A start slot that leads on to itself is a loop. -/
theorem reachable_selfLoop {k : SlotId} (fit : unfitSlot m g 0 s.slots[k] s = none) (next : s.slots[k].record.next = some k) :
    reachable m g k s = .error (.chainLoop, k) := by
  rw [reachable, walk, List.length_nil, fit, linksOf, next]
  simp only [Option.toList_some, List.cons_append, List.nil_append, List.foldlM_cons]
  rw [if_pos (by simp)]
  rfl

end

section
variable {m : Master} {group slot : Byte} {g : GroupId} {k : SlotId} {s : State}

theorem runChainOwner_group (h : index? 5 group = none) : runChainOwner m group slot s = refuse .outOfRange s := by
  rw [runChainOwner, h]

theorem runChainOwner_slot (h : index? 128 slot = none) : runChainOwner m group slot s = refuse .outOfRange s := by
  unfold runChainOwner
  rw [h]
  split <;> rfl

theorem runChainOwner_eq (hg : index? 5 group = some g) (hk : index? 128 slot = some k) :
    runChainOwner m group slot s =
      if s.groupHolders[g] ≠ some m then refuse .notHolder s
      else if s.executors[g].state ≠ .idle then refuse .busy s
      else if s.ptrip.asserted then refuse .tripActive s
      else
        match reachable m g k s with
        | .error (c, j) => (s, .refuse c [indexByte (some j)])
        | .ok ks =>
          (proceed g (putExecutor g (startedExecutor m k (bindSlots g ks s).executors[g]) (bindSlots g ks s), some k),
            .ok (byte1 ks.length)) := by
  unfold runChainOwner
  rw [hg, hk]
  dsimp only
  by_cases h : s.groupHolders[g] = some m
  · exact (if_neg (not_not.2 (holdsGroup_iff.2 h))).trans (if_neg (not_not.2 h)).symm
  · exact (if_pos (mt holdsGroup_iff.1 h)).trans (if_pos h).symm

theorem cancelChainOwner_held (held : heldGroup m group s = .ok g) :
    cancelChainOwner m group s =
      if s.executors[g].state = .idle then refuse .wrongState s else (endChain g .cancelled s, .ok []) := by
  rw [cancelChainOwner, held]

theorem resumeRetryOwner_held (held : heldGroup m group s = .ok g) :
    resumeRetryOwner m group s = if s.executors[g].state = .halted then (retryChain g s, .ok []) else refuse .wrongState s := by
  rw [resumeRetryOwner, held]

theorem resumeSkipOwner_held (held : heldGroup m group s = .ok g) :
    resumeSkipOwner m group s = if s.executors[g].state = .halted then (skipChain g s, .ok []) else refuse .wrongState s := by
  rw [resumeSkipOwner, held]

theorem groupOwners_refused {c : RefusalCode} (refused : heldGroup m group s = .error c) :
    cancelChainOwner m group s = refuse c s ∧ resumeRetryOwner m group s = refuse c s ∧
      resumeSkipOwner m group s = refuse c s := by
  rw [cancelChainOwner, resumeRetryOwner, resumeSkipOwner, refused]
  exact ⟨rfl, rfl, rfl⟩

end

/-! ### Requests that need no group (R104, R128, R145, R147, R161, R166) -/

theorem notValidSet_of {set : Byte} (h : set.toNat = 0 ∨ 64 ≤ set.toNat) : ¬ validSet set = true := by
  unfold validSet
  rw [Bool.and_eq_true, decide_eq_true_eq, decide_eq_true_eq]
  omega

theorem holdsGov_iff {m : Master} {s : State} : holdsGov m s = true ↔ s.govHolder = some m := beq_iff_eq

theorem holdsGov_acceptFrame (m n : Master) (s : State) : holdsGov m (acceptFrame n s) = holdsGov m s := by
  rw [holdsGov, holdsGov, acceptFrame_govHolder]

theorem range?_eq_none {lo hi n : Nat} (h : n < lo ∨ hi < n) : range? lo hi n = none := by
  unfold range?
  rw [if_neg (by omega)]

theorem flag?_eq_none {b : Byte} (h : 2 ≤ b.toNat) : flag? b = none := by
  unfold flag?
  split
  · omega
  · omega
  · rfl

theorem captureMode?_eq_none {b : Byte} (h : 3 ≤ b.toNat) : captureMode? b = none := by
  unfold captureMode?
  split
  · omega
  · omega
  · omega
  · rfl

section
variable {m : Master} {s : State}

theorem governorOwners_notHolder (h : ¬ holdsGov m s = true) :
    modeOnOwner m s = refuse .notHolder s ∧ modeOffOwner m s = refuse .notHolder s ∧
      modeOtherOwner m s = refuse .notHolder s ∧ (∀ r, configureStationOwner m r s = refuse .notHolder s) ∧
      ∀ baud, stationLineOwner m baud s = refuse .notHolder s :=
  ⟨if_pos h, if_pos h, if_pos h, fun _ => if_pos h, fun _ => if_pos h⟩

theorem modeOtherOwner_held (h : holdsGov m s = true) : modeOtherOwner m s = refuse .outOfRange s := if_neg (not_not.2 h)

theorem configureStationOwner_outOfRange (h : holdsGov m s = true) {r : RawStation}
    (bad : 8 ≤ r.entry.toNat ∨ 2 ≤ r.enabled.toNat ∨ r.address.toNat = 0 ∨ 247 < r.address.toNat ∨
      10000 < r.setpoint.toNat ∨ r.staleTime.toNat = 0 ∨ 60 < r.staleTime.toNat) :
    configureStationOwner m r s = refuse .outOfRange s := by
  unfold configureStationOwner
  rw [if_neg (not_not.2 h)]
  split
  next k enabled address setpoint staleTime entry flag addressed set stale =>
    have e := index?_eq_some.1 entry
    have f : ¬ 2 ≤ r.enabled.toNat := fun far => by rw [flag?_eq_none far] at flag; cases flag
    have a := (range?_eq_some.1 addressed).1
    have p := (range?_eq_some.1 set).1
    have t := (range?_eq_some.1 stale).1
    have := k.isLt
    omega
  next => rfl

theorem stationLineOwner_outOfRange (h : holdsGov m s = true) {baud : Half} (bad : baud.toNat < 1200 ∨ 38400 < baud.toNat) :
    stationLineOwner m baud s = refuse .outOfRange s := by
  rw [stationLineOwner, if_neg (not_not.2 h), if_pos bad]

theorem captureWrite?_eq_none {r : RawCapture}
    (bad : 3 ≤ r.mode.toNat ∨ (r.prescale ≠ 1 ∧ r.prescale ≠ 4 ∧ r.prescale ≠ 16) ∨ r.timeout.toNat = 0 ∨
      160 < r.timeout.toNat) : captureWrite? r = none := by
  unfold captureWrite?
  rcases bad with mode | scale | time
  · rw [captureMode?_eq_none mode]
    rfl
  · obtain ⟨one, four, sixteen⟩ := scale
    have other : ¬ (r.prescale = 1 ∨ r.prescale = 4 ∨ r.prescale = 16) := by rintro (e | e | e) <;> contradiction
    simp only [if_neg other, Option.bind_fun_none]
  · rw [range?_eq_none (by omega)]
    cases captureMode? r.mode <;> rfl

theorem configureCaptureOwner_outOfRange {r : RawCapture}
    (bad : 16 ≤ r.channel.toNat ∨ 3 ≤ r.mode.toNat ∨ (r.prescale ≠ 1 ∧ r.prescale ≠ 4 ∧ r.prescale ≠ 16) ∨
      r.timeout.toNat = 0 ∨ 160 < r.timeout.toNat) : configureCaptureOwner r s = refuse .outOfRange s := by
  unfold configureCaptureOwner
  split
  · rfl
  next c channel =>
    have e := index?_eq_some.1 channel
    have := c.isLt
    rw [captureWrite?_eq_none (bad.resolve_left (by omega))]

end

/-! ### Requests whose argument has a code of its own (R94, R128) -/

/-- A frame that its port hands to `owner` is answered with what that owner makes of it. -/
theorem handleFrame_inTime {m : Master} {s : State} (inTime : (port m s).silenceTimer ≠ some 0) {code high low : Byte}
    {payload : List Byte} {q : Req} (hq : q = { master := m, tag := join2 high low }) :
    handleFrame m (code :: high :: low :: payload) s =
      respond q code (serveParsed m (parseRequest q code payload) (acceptFrame m s)) := by
  subst hq
  unfold handleFrame
  dsimp only
  rw [serveAtClaims_running inTime, ite_self]

theorem ne_of_toNat {b : Byte} {n : Nat} (h : n < b.toNat) (k : Nat) (small : k ≤ n) : b ≠ BitVec.ofNat 8 k := by
  rintro rfl
  rw [BitVec.toNat_ofNat] at h
  omega

theorem parseRequest_resumeOther (q : Req) (group : Byte) {action : Byte} (h : 2 ≤ action.toNat) :
    parseRequest q 0x32 [group, action] = .resumeOther group := by
  change (if action = 0 then Parsed.command (.resumeRetry q group) else if action = 1 then .command (.resumeSkip q group)
    else .resumeOther group) = _
  exact (if_neg (ne_of_toNat h 0 (by omega))).trans (if_neg (ne_of_toNat h 1 (by omega)))

theorem parseRequest_modeOther (q : Req) {mode : Byte} (h : 2 ≤ mode.toNat) : parseRequest q 0x61 [mode] = .modeOther := by
  change (if mode = 1 then Parsed.command (.governorModeOn q) else if mode = 0 then .command (.governorModeOff q)
    else .modeOther) = _
  exact (if_neg (ne_of_toNat h 1 (by omega))).trans (if_neg (ne_of_toNat h 0 (by omega)))

end Sys2Proof.Machine

namespace Sys2Proof
open Machine

/-- Settles O10: one case for each state that the slot can have. -/
theorem descriptorWrittenAndFreed : Obligations.DescriptorWrittenAndFreed := by
  unfold Obligations.DescriptorWrittenAndFreed
  intro q slot r s hl u bothRefuse
  have refused : ∀ c, slotFor q.master slot u = .error c → bothRefuse c := fun c h =>
    ⟨exec_served rfl hl (writeDescriptorOwner_refused h), exec_served rfl hl (freeDescriptorOwner_refused h)⟩
  have slots : u.slots = s.slots := acceptFrame_slots q.master s
  refine ⟨fun far => refused _ (slotFor_outOfRange far ..), fun k hk => ?_⟩
  have found := slotFor_of_index hk q.master u
  rw [slots] at found
  refine ⟨fun w g state => refused _ ?_, fun state => refused _ ?_, fun own => ?_⟩
  · rw [found, state]
  · rw [found, state]
    exact if_pos rfl
  · have ok : slotFor q.master slot u = .ok k := by
      rw [found]
      rcases own with state | state <;> rw [state]
      cases q.master <;> rfl
    exact ⟨fun d read => exec_served rfl hl (writeDescriptorOwner_ok ok read),
      fun unread => exec_served rfl hl (writeDescriptorOwner_unread ok unread),
      exec_served rfl hl (freeDescriptorOwner_ok ok)⟩

/-- Settles O13: the cases are the operand modes, and LOAD and ADD. -/
theorem operandFetchAndCursors : Obligations.OperandFetchAndCursors := by
  unfold Obligations.OperandFetchAndCursors
  refine ⟨fun profile x d => ⟨fun v imm => ?_, fun r row => ?_, fun b disp idx => ?_⟩, fun x c v => ?_⟩
  · exact ⟨by rw [fetch, imm], by rw [imm]; rfl⟩
  · exact ⟨fetch_row (by rw [row]; rfl), by rw [row]; rfl⟩
  · refine ⟨mod64 ((cursorValue x b).val + disp.toInt), mod64_val _, fetch_row ?_, fun idxu c => ?_, fun idx => ?_⟩
    · rcases idx with e | e <;> rw [e] <;> rfl
    · rw [idxu]
      exact cursorValue_setCursor ..
    · rw [idx]
      rfl
  · have base := c.base_ne_c0
    refine ⟨?_, ?_, fun b other => ⟨?_, ?_⟩, setCursor_rest .., setCursor_rest ..⟩
    · rw [applyCursor, cursorValue_setCursor, if_pos ⟨rfl, base⟩, mod64_val]
    · rw [applyCursor, cursorValue_setCursor, if_pos ⟨rfl, base⟩, mod64_val]
    · rw [applyCursor, cursorValue_setCursor, if_neg fun h => other h.1]
    · rw [applyCursor, cursorValue_setCursor, if_neg fun h => other h.1]

/-- Settles O14, by what a chain end does (`chainsEnded_endChain`). -/
theorem cancelChainEndsChain : Obligations.CancelChainEndsChain := by
  unfold Obligations.CancelChainEndsChain
  intro q group g s hl hg held running
  have ended := chainsEnded_endChain (o := .cancelled) (by decide) g (acceptFrame q.master s)
  have around := ended.around
  refine ⟨endChain g .cancelled (acceptFrame q.master s), exec_servedInTime rfl hl ?_, ?_, fun k => ?_,
    chainRampsRemoved_congr ended.ramps (acceptFrame_actuators ..).symm (acceptFrame_outputs ..).symm rfl rfl, fun m starter => ?_,
    ?_⟩
  · rw [cancelChainOwner_held (heldGroup_held hg (by rwa [acceptFrame_groupHolders])), acceptFrame_executors, if_neg running]
  · rw [endChain_executors, acceptFrame_executors]
  · rw [ended.slots, acceptFrame_slots]
  · exact endChain_flag g .cancelled _ m (by rwa [acceptFrame_executors])
  · rw [around.groupHolders, around.govHolder, around.profile, around.captures, around.governor, around.stations]
    simp only [acceptFrame_groupHolders, acceptFrame_govHolder, acceptFrame_profile, acceptFrame_captures,
      acceptFrame_governor, acceptFrame_stations, and_self]

/-- Settles O19: one case for each check. -/
theorem requestsRefusedByRange : Obligations.RequestsRefusedByRange := by
  unfold Obligations.RequestsRefusedByRange
  intro q s hl u inTime refused
  refine ⟨fun set bad inTime => ?_, fun inTime other => ?_, fun inTime held => ?_, fun input time far => ?_, fun r bad => ?_⟩
  · have invalid := notValidSet_of bad
    exact ⟨exec_servedInTime rfl ⟨hl, inTime⟩ (if_pos invalid), exec_servedInTime rfl ⟨hl, inTime⟩ (if_pos invalid)⟩
  · have without : ¬ holdsGov q.master u = true := by rwa [holdsGov_acceptFrame, holdsGov_iff]
    obtain ⟨on, off, otherMode, station, line⟩ := governorOwners_notHolder without
    refine ⟨exec_servedInTime rfl ⟨hl, inTime⟩ on, exec_servedInTime rfl ⟨hl, inTime⟩ off, fun high low mode tag far => ?_,
      fun r => exec_servedInTime rfl ⟨hl, inTime⟩ (station r), fun baud => exec_servedInTime rfl ⟨hl, inTime⟩ (line baud)⟩
    rw [handleFrame_inTime (q := q) inTime (by rw [← tag]), parseRequest_modeOther q far]
    exact congrArg _ otherMode
  · have holder : holdsGov q.master u = true := by rwa [holdsGov_acceptFrame, holdsGov_iff]
    refine ⟨fun high low mode tag far => ?_,
      fun r bad => exec_servedInTime rfl ⟨hl, inTime⟩ (configureStationOwner_outOfRange holder bad),
      fun baud bad => exec_servedInTime rfl ⟨hl, inTime⟩ (stationLineOwner_outOfRange holder bad)⟩
    rw [handleFrame_inTime (q := q) inTime (by rw [← tag]), parseRequest_modeOther q far]
    exact congrArg _ (modeOtherOwner_held holder)
  · refine exec_served rfl hl ?_
    rw [setDebounceOwner, index?_eq_none.2 far]
    rfl
  · exact exec_served rfl hl (configureCaptureOwner_outOfRange bad)

/-- Settles O18: the checks in their order, and for the start slot the first check of the walk. -/
theorem groupRequestsRefused : Obligations.GroupRequestsRefused := by
  unfold Obligations.GroupRequestsRefused
  intro q group slot s hl u
  refine ⟨fun noGroup => ?_, fun noSlot => exec_servedInTime rfl hl (runChainOwner_slot noSlot),
    fun high low action tag far => ?_, fun g hg other => ?_, fun g hg held => ?_⟩
  · obtain ⟨cancel, retry, skip⟩ := groupOwners_refused (heldGroup_outOfRange noGroup q.master u)
    exact ⟨exec_servedInTime rfl hl (runChainOwner_group noGroup), exec_servedInTime rfl hl cancel,
      exec_servedInTime rfl hl retry, exec_servedInTime rfl hl skip⟩
  · rw [handleFrame_inTime (q := q) hl.2 (by rw [← tag]), parseRequest_resumeOther q group far]
    rfl
  · have away : u.groupHolders[g] ≠ some q.master := by rwa [acceptFrame_groupHolders]
    obtain ⟨cancel, retry, skip⟩ := groupOwners_refused (heldGroup_notHolder hg away)
    refine ⟨fun hk => ?_, exec_servedInTime rfl hl cancel, exec_servedInTime rfl hl retry, exec_servedInTime rfl hl skip⟩
    obtain ⟨k, hk⟩ := Option.ne_none_iff_exists'.1 hk
    exact exec_servedInTime rfl hl ((runChainOwner_eq hg hk).trans (if_pos away))
  · have own : u.groupHolders[g] = some q.master := by rwa [acceptFrame_groupHolders]
    have held := heldGroup_held hg own
    have record : u.executors[g] = s.executors[g] := by rw [acceptFrame_executors]
    refine ⟨fun idle => exec_servedInTime rfl hl ((cancelChainOwner_held held).trans (if_pos (by rwa [record]))),
      fun halted => ⟨?_, ?_⟩, fun k hk => ?_⟩
    · exact exec_servedInTime rfl hl ((resumeRetryOwner_held held).trans (if_neg (by rwa [record])))
    · exact exec_servedInTime rfl hl ((resumeSkipOwner_held held).trans (if_neg (by rwa [record])))
    · have run := runChainOwner_eq (m := q.master) (s := u) hg hk
      rw [if_neg (not_not.2 own), record, acceptFrame_ptrip, reachable_acceptFrame] at run
      refine ⟨fun busy => exec_servedInTime rfl hl (run.trans (if_pos busy)), fun idle trip => ?_, fun idle off => ?_⟩
      · rw [if_neg (not_not.2 idle), if_pos trip] at run
        exact exec_servedInTime rfl hl run
      · rw [if_neg (not_not.2 idle), if_neg (by rw [off]; exact Bool.false_ne_true)] at run
        have refusedBy : ∀ c j, reachable q.master g k s = .error (c, j) →
            exec (.runChain q group slot) s = .next (respond q 0x30 (u, .refuse c [BitVec.ofNat 8 j.val])) := fun c j h => by
          rw [h] at run
          exact exec_servedInTime rfl hl run
        have name : slot = BitVec.ofNat 8 k.val := by rw [← index?_eq_some.1 hk, BitVec.ofNat_toNat, BitVec.setWidth_eq]
        have unfit : ∀ c, unfitSlot q.master g 0 s.slots[k] s = some c →
            exec (.runChain q group slot) s = .next (respond q 0x30 (u, .refuse c [slot])) := fun c h =>
          name ▸ refusedBy c k (reachable_unfit h)
        refine ⟨refusedBy, fun free => unfit _ ?_, fun foreign => unfit _ ?_, fun h bound => unfit _ ?_,
          fun own invalid => unfit _ ?_, fun n own op bad => unfit _ ?_, fun own fit loop => ?_⟩
        · rw [unfitSlot_start, free]
        · exact unfitSlot_foreign foreign
        · rw [unfitSlot_start, bound]
          exact if_neg (not_not.2 rfl)
        · rw [unfitSlot_start, own]
          exact (if_neg (not_not.2 rfl)).trans (if_pos invalid)
        · rw [unfitSlot_start, own]
          exact (if_neg (not_not.2 rfl)).trans (if_pos (invalidForm_of_actuator op bad))
        · refine name ▸ refusedBy _ k (reachable_selfLoop ?_ loop)
          rw [unfitSlot_start, own]
          exact (if_neg (not_not.2 rfl)).trans (if_neg (by rw [fit]; exact Bool.false_ne_true))

end Sys2Proof
end

section
/-! SUPPORT. The validation walk along a path of slots, each at the first link of the one before it (R72, R73). -/

namespace Sys2Proof.Machine

section
variable {m : Master} {g : GroupId} {s : State}

/-- The walk at slot `k`, reached along the slots of `above`, the nearest first, which are all that it has examined. -/
def walkBelow (m : Master) (g : GroupId) (s : State) (above : List SlotId) (k : SlotId) :
    Except (RefusalCode × SlotId) (List SlotId) :=
  walk m g s (33 - above.length) above above k

/-- A slot that passes the checks that name it. -/
def Fit (m : Master) (g : GroupId) (s : State) (k : SlotId) : Prop :=
  s.slots[k].state = .written m ∧ invalidForm g s.slots[k].record s = false

theorem unfitSlot_fit {k : SlotId} (fit : Fit m g s k) {n : Nat} (few : n < 32) : unfitSlot m g n s.slots[k] s = none := by
  unfold unfitSlot
  rw [if_neg (by omega), fit.1, fit.2]
  exact if_neg (not_not.2 rfl)

theorem walkBelow_unfit {above : List SlotId} {k : SlotId} {c : RefusalCode} (few : above.length ≤ 32)
    (unfit : unfitSlot m g above.length s.slots[k] s = some c) : walkBelow m g s above k = .error (c, k) := by
  rw [walkBelow, show 33 - above.length = 32 - above.length + 1 by omega, walk_succ, unfit]

theorem walkBelow_fit {above : List SlotId} {k : SlotId} (few : above.length < 32) (fit : Fit m g s k) :
    walkBelow m g s above k =
      (linksOf s.slots[k].record).foldlM (followLink m g s (33 - (k :: above).length) above k) (k :: above) := by
  rw [walkBelow, show 33 - above.length = 33 - (k :: above).length + 1 by rw [List.length_cons]; omega, walk_succ,
    unfitSlot_fit fit few]

theorem followLink_fresh {above : List SlotId} {k l : SlotId} (fresh : l ∉ k :: above) :
    followLink m g s (33 - (k :: above).length) above k (k :: above) l = walkBelow m g s (k :: above) l := by
  rw [followLink, if_neg fresh, if_neg fresh, walkBelow]

/-- What stops the walk below the first link of a slot stops it at the slot. -/
theorem walkBelow_stops {above : List SlotId} {k l : SlotId} {e : RefusalCode × SlotId} (few : above.length < 32)
    (fit : Fit m g s k) (first : (linksOf s.slots[k].record).head? = some l)
    (stops : followLink m g s (33 - (k :: above).length) above k (k :: above) l = .error e) :
    walkBelow m g s above k = .error e := by
  obtain ⟨more, links⟩ := List.head?_eq_some_iff.1 first
  rw [walkBelow_fit few fit, links, List.foldlM_cons, stops]
  rfl

/-- Below a slot with one link the walk finds what it finds there. -/
theorem walkBelow_single {above : List SlotId} {k l : SlotId} (few : above.length < 32) (fit : Fit m g s k)
    (one : linksOf s.slots[k].record = [l]) (fresh : l ∉ k :: above) :
    walkBelow m g s above k = walkBelow m g s (k :: above) l := by
  rw [walkBelow_fit few fit, one, List.foldlM_cons, followLink_fresh fresh]
  cases walkBelow m g s (k :: above) l <;> rfl

theorem FitPath.left {p q : List SlotId} (h : FitPath m g (p ++ q) s) : FitPath m g p s := by
  obtain ⟨nodup, few, fit, chain⟩ := h
  rw [List.length_append] at few
  exact ⟨nodup.of_append_left, by omega, fun j mem => fit j (List.mem_append_left q mem), chain.left_of_append⟩

/-- The last two slots of such a path. -/
theorem FitPath.link {p : List SlotId} {j l : SlotId} (h : FitPath m g (p ++ [j] ++ [l]) s) :
    p.reverse.length < 32 ∧ Fit m g s j ∧ (linksOf s.slots[j].record).head? = some l ∧ l ∉ j :: p.reverse := by
  obtain ⟨nodup, few, fit, chain⟩ := h
  rw [List.append_assoc] at chain
  have link := (List.isChain_append.1 chain).2.1
  simp only [List.singleton_append, List.isChain_cons_cons] at link
  rw [List.nodup_append] at nodup
  refine ⟨?_, fit j (by simp), link.1, fun mem => nodup.2.2 l ?_ l (by simp) rfl⟩
  · simp only [List.length_append, List.length_singleton] at few
    rw [List.length_reverse]
    omega
  · simpa [or_comm] using mem

/-- What stops the walk at the last slot of a fit path stops it from the start (R73). -/
theorem reachable_stops {pre : List SlotId} {last k : SlotId} (path : FitPath m g (pre ++ [last]) s)
    (start : (pre ++ [last]).head? = some k) {e : RefusalCode × SlotId}
    (stops : walkBelow m g s pre.reverse last = .error e) : reachable m g k s = .error e := by
  induction pre using List.reverseRecOn generalizing last with
  | nil =>
    cases start
    exact stops
  | append_singleton pre j ih =>
    obtain ⟨few, fit, first, fresh⟩ := path.link
    rw [List.reverse_append, List.reverse_singleton, List.singleton_append] at stops
    rw [List.head?_append_of_ne_nil _ (by simp)] at start
    exact ih path.left start (walkBelow_stops few fit first ((followLink_fresh fresh).trans stops))

/-- Along a fit path without a second link the walk goes from its start to its last slot (R72). -/
theorem reachable_single {pre : List SlotId} {last k : SlotId} (path : FitPath m g (pre ++ [last]) s)
    (start : (pre ++ [last]).head? = some k) (one : ∀ j ∈ pre, (linksOf s.slots[j].record).length ≤ 1) :
    reachable m g k s = walkBelow m g s pre.reverse last := by
  induction pre using List.reverseRecOn generalizing last with
  | nil =>
    cases start
    rfl
  | append_singleton pre j ih =>
    obtain ⟨few, fit, first, fresh⟩ := path.link
    obtain ⟨more, links⟩ := List.head?_eq_some_iff.1 first
    have single : linksOf s.slots[j].record = [last] := by
      have := one j (by simp)
      rw [links, List.length_cons] at this
      rw [links, List.eq_nil_of_length_eq_zero (by omega : more.length = 0)]
    rw [List.head?_append_of_ne_nil _ (by simp)] at start
    rw [ih path.left start fun i mem => one i (List.mem_append_left _ mem), walkBelow_single few fit single fresh,
      List.reverse_append, List.reverse_singleton, List.singleton_append]

/-- The walk at the last slot of a fit path. -/
theorem FitPath.last {pre : List SlotId} {last : SlotId} (path : FitPath m g (pre ++ [last]) s) :
    pre.reverse.length < 32 ∧ Fit m g s last ∧ (last :: pre.reverse).length = (pre ++ [last]).length := by
  obtain ⟨-, few, fit, -⟩ := path
  rw [List.length_append, List.length_singleton] at few
  refine ⟨by rw [List.length_reverse]; omega, fit last (by simp), by simp⟩

/-- The slot that the last one of a fit path names stops the walk where it stands on the path already. -/
theorem reachable_loop {pre : List SlotId} {last k j : SlotId} (path : FitPath m g (pre ++ [last]) s)
    (start : (pre ++ [last]).head? = some k) (first : (linksOf s.slots[last].record).head? = some j)
    (back : j ∈ pre ++ [last]) : reachable m g k s = .error (.chainLoop, last) := by
  obtain ⟨few, fit, -⟩ := path.last
  refine reachable_stops path start (walkBelow_stops few fit first ?_)
  rw [followLink, if_pos (by simpa [or_comm] using back)]

/-- It stops the walk where it fails a check. -/
theorem reachable_next_unfit {pre : List SlotId} {last k j : SlotId} (path : FitPath m g (pre ++ [last]) s)
    (start : (pre ++ [last]).head? = some k) (first : (linksOf s.slots[last].record).head? = some j)
    (new : j ∉ pre ++ [last]) {c : RefusalCode} (unfit : unfitSlot m g (pre ++ [last]).length s.slots[j] s = some c) :
    reachable m g k s = .error (c, j) := by
  obtain ⟨few, fit, length⟩ := path.last
  rw [← length] at unfit
  refine reachable_stops path start (walkBelow_stops few fit first ?_)
  rw [followLink_fresh (by simpa [or_comm] using new)]
  exact walkBelow_unfit (by rw [List.length_cons]; omega) unfit

theorem unfitSlot_few {n : Nat} (few : n < 32) (x : Slot) : unfitSlot m g n x s = unfitSlot m g 0 x s := by
  unfold unfitSlot
  rw [if_neg (by omega : ¬ 32 ≤ n), if_neg (by decide : ¬ 32 ≤ 0)]

end

end Sys2Proof.Machine

namespace Sys2Proof
open Machine

/-- Settles O17: the walk by its invariant (`reachable_ok`, `reachable_error`), the paths by induction from their end. -/
theorem validationWalkSound : Obligations.ValidationWalkSound := by
  unfold Obligations.ValidationWalkSound
  refine fun m g k s => ⟨fun ks ok => ?_, fun c j => reachable_error, fun path last fit start final => ?_⟩
  · obtain ⟨w, mem⟩ := reachable_ok ok
    obtain ⟨rank, ranked⟩ := w.ranked
    refine ⟨mem, w.few, w.nodup, fun j found => ?_, rank, fun j found => ranked j found List.not_mem_nil⟩
    obtain ⟨leads, state, form⟩ := w.fit j found
    exact ⟨leads, state, form, fun l link => (w.links j found List.not_mem_nil l link).1⟩
  · obtain ⟨pre, rfl⟩ := List.getLast?_eq_some_iff.1 final
    obtain ⟨few, good, -⟩ := fit.last
    refine ⟨fun ending one => ?_, fun j first => ⟨reachable_loop fit start first, fun new => ⟨fun full => ?_, fun room => ?_⟩⟩⟩
    · refine ⟨last :: pre.reverse, ?_, fun j => by simp [or_comm]⟩
      rw [reachable_single fit start fun j mem => one j (List.mem_append_left _ mem), walkBelow_fit few good, ending]
      rfl
    · refine reachable_next_unfit fit start first new ?_
      rw [unfitSlot, if_pos (by omega)]
    · have stops : ∀ c, unfitSlot m g 0 s.slots[j] s = some c → reachable m g k s = .error (c, j) := fun c unfit =>
        reachable_next_unfit fit start first new ((unfitSlot_few room _).trans unfit)
      refine ⟨fun free => stops _ ?_, fun foreign => stops _ (unfitSlot_foreign foreign), fun h bound => stops _ ?_,
        fun own invalid => stops _ ?_⟩
      · rw [unfitSlot_start, free]
      · rw [unfitSlot_start, bound]
        exact if_neg (not_not.2 rfl)
      · rw [unfitSlot_start, own]
        exact (if_neg (not_not.2 rfl)).trans (if_pos invalid)

end Sys2Proof
end

section
/-! SUPPORT. A silence expiry as a whole (R111, R112), alone and met by a request that claims bear on (R113). -/

namespace Sys2Proof.Machine

/-- The chains that a master's silence ends: those of the groups that it holds. -/
def silenced (m : Master) (s : State) (g : GroupId) : Bool :=
  decide (s.groupHolders[g] = some m) && decide (s.executors[g].state ≠ .idle)

/-- What a silence expiry of a master comes to (R111, R112). -/
structure Freed (m : Master) (s t : State) : Prop where
  holders : ∀ r : Resource, holderOf r t = if holderOf r s = some m then none else holderOf r s
  executors : ∀ g : GroupId, t.executors[g] = if silenced m s g then Ended .cancelled s.executors[g] else s.executors[g]
  told : ∀ g : GroupId, silenced m s g = true → flagSet m (.chainEnd g) t = true
  ramps : ChainRampsRemoved (silenced m s) s t
  slots : ∀ k : SlotId, t.slots[k] =
    if slotWriter s.slots[k].state = some m then { state := .free, record := Descriptor.cleared } else s.slots[k]
  line : (port m.other t).line = (port m.other s).line
  lost : flagSet m .claimLost t = true
  changed : flagSet m.other .claimsChanged t =
    (flagSet m.other .claimsChanged s || decide (∃ r : Resource, holderOf r s = some m))

/-- The slots of a silent master, bound or not, after the ends of its chains (R54). -/
theorem slot_silenced {m : Master} {s : State} (ok : DispatchOk s) (k : SlotId) :
    (if (Unbound (silenced m s) s.slots[k]).state = .written m then Slot.powerOn else Unbound (silenced m s) s.slots[k]) =
      if slotWriter s.slots[k].state = some m then { state := .free, record := Descriptor.cleared } else s.slots[k] := by
  obtain ⟨hold, belong⟩ := ok
  have belongs := belong k
  generalize s.slots[k] = x at *
  obtain ⟨state, record⟩ := x
  cases state with
  | free => rfl
  | written w =>
    by_cases e : w = m
    · subst e; exact (if_pos rfl).trans (if_pos rfl).symm
    · exact (if_neg fun h => e (SlotState.written.inj h)).trans (if_neg fun h => e (Option.some.inj h)).symm
  | bound w g =>
    obtain ⟨running, starter⟩ := belongs
    obtain ⟨v, same, holds⟩ := hold g running
    cases same.symm.trans starter
    by_cases e : w = m
    · subst e
      have ended : silenced w s g = true := by rw [silenced, decide_eq_true holds, decide_eq_true running]; rfl
      simp [Unbound, slotWriter, ended, Slot.powerOn]
    · have stands : silenced m s g = false := by
        rw [silenced, Bool.and_eq_false_iff]
        exact .inl (decide_eq_false fun h => e (Option.some.inj (holds.symm.trans h)))
      simp [Unbound, slotWriter, stands, e]

theorem flagSet_freeSlotsOf (m n : Master) (f : Attention) (s : State) : flagSet n f (freeSlotsOf m s) = flagSet n f s := by
  cases n <;> simp only [flagSet, freeSlotsOf, port]

theorem freeSlotsOf_holders (m : Master) (s : State) (r : Resource) : holderOf r (freeSlotsOf m s) = holderOf r s :=
  holderOf_congr (by simp only [freeSlotsOf]) (by simp only [freeSlotsOf]) r

theorem freeSlotsOf_executors (m : Master) (s : State) : (freeSlotsOf m s).executors = s.executors := by simp only [freeSlotsOf]

theorem freeSlotsOf_actuators (m : Master) (s : State) : (freeSlotsOf m s).actuators = s.actuators := by simp only [freeSlotsOf]

theorem freeSlotsOf_outputs (m : Master) (s : State) : (freeSlotsOf m s).outputs = s.outputs := by simp only [freeSlotsOf]

theorem freeSlotsOf_slot (m : Master) (s : State) (k : SlotId) :
    (freeSlotsOf m s).slots[k] = if s.slots[k].state = .written m then Slot.powerOn else s.slots[k] := by
  have table : (freeSlotsOf m s).slots = each (fun _ x => if x.state = .written m then Slot.powerOn else x) s.slots := by
    simp only [freeSlotsOf]
  rw [table, get_each]

theorem freed_silenceAtOwners {m : Master} {s : State} (ok : DispatchOk s) : Freed m s (silenceAtOwners m s) := by
  have chains : ChainsEnded (silenced m s) .cancelled (mapHolders (unclaimed m fun _ => true) s) (endClaims m (fun _ => true) s) :=
    (chainsEnded_endClaims m _ s).congr fun g => by rw [Bool.true_and]; rfl
  have parts : silenceAtOwners m s = if (allResources.any fun r => holderOf r s == some m) = true
      then setFlag m.other .claimsChanged (setFlag m .claimLost (freeSlotsOf m (endClaims m (fun _ => true) s)))
      else setFlag m .claimLost (freeSlotsOf m (endClaims m (fun _ => true) s)) := rfl
  have flags : ∀ n f, flagSet n f (silenceAtOwners m s) =
      (flagSet n f (endClaims m (fun _ => true) s) || decide (n = m ∧ .claimLost = f) ||
        decide ((allResources.any fun r => holderOf r s == some m) = true ∧ n = m.other ∧ .claimsChanged = f)) := fun n f => by
    rw [parts, flagSet_ite_setFlag, flagSet_setFlag, flagSet_freeSlotsOf, ← Bool.decide_and]
  have any : (allResources.any fun r => holderOf r s == some m) = true ↔ ∃ r : Resource, holderOf r s = some m := by
    rw [any_allResources]
    simp only [beq_iff_eq]
  refine ⟨fun r => ?_, fun g => ?_, fun g running => ?_, ?_, fun k => ?_, ?_, ?_, ?_⟩
  · rw [parts, ite_setFlag_keeps (holderOf r) (holderOf_setFlag r _ _), holderOf_setFlag, freeSlotsOf_holders,
      holderOf_endClaims]
    simp only [unclaimed, Bool.true_and, decide_eq_true_eq]
  · rw [parts, ite_setFlag_keeps State.executors (by simp), setFlag_executors, freeSlotsOf_executors]
    exact chains.executors g
  · obtain ⟨hold, -⟩ := ok
    have both := running
    simp only [silenced, Bool.and_eq_true, decide_eq_true_eq] at both
    obtain ⟨w, starter, holds⟩ := hold g both.2
    cases holds.symm.trans both.1
    have due : ∃ k : GroupId, silenced m s k = true ∧
        (mapHolders (unclaimed m fun _ => true) s).executors[k].starter = some m ∧ Attention.chainEnd k = .chainEnd g :=
      ⟨g, running, starter, rfl⟩
    rw [flags, chains.flags, decide_eq_true due]
    simp
  · exact chainRampsRemoved_congr chains.ramps rfl rfl
      (by rw [parts, ite_setFlag_keeps State.actuators (by simp), setFlag_actuators, freeSlotsOf_actuators])
      (by rw [parts, ite_setFlag_keeps State.outputs (by simp), setFlag_outputs, freeSlotsOf_outputs])
  · rw [parts, ite_setFlag_keeps State.slots (by simp), setFlag_slots, freeSlotsOf_slot, chains.slots]
    exact slot_silenced ok k
  · rw [(aside_silenceAtOwners m s).ports]
  · rw [flags]
    simp
  · rw [flags, chains.flags, flagSet_mapHolders]
    simp [any]

/-! ### The expiry at the port, and after an answer -/

theorem flagSet_setPort {m n : Master} {f : Attention} {p : Port} {s : State} (flags : p.flags = (port m s).flags) :
    flagSet n f (setPort m p s) = flagSet n f s := by
  unfold flagSet
  cases m <;> cases n <;> first | rfl | exact congrArg (fun x : Half => x.getLsbD (flagBit f)) flags

theorem holderOf_setPort (m : Master) (p : Port) (s : State) (r : Resource) : holderOf r (setPort m p s) = holderOf r s :=
  holderOf_congr (by simp) (by simp) r

theorem line_setPort (m : Master) (p : Port) (s : State) : (port m.other (setPort m p s)).line = (port m.other s).line := by
  rw [port_setPort_other]

/-- What a silence expiry comes to does not speak of the port of its master, its flags aside. -/
theorem Freed.of_port {m : Master} {p q : Port} {s t : State} (h : Freed m s t) (hp : p.flags = (port m s).flags)
    (hq : q.flags = (port m t).flags) : Freed m (setPort m p s) (setPort m q t) where
  holders r := by rw [holderOf_setPort, holderOf_setPort]; exact h.holders r
  executors g := by
    rw [silenced, setPort_executors, setPort_executors, setPort_groupHolders]; exact h.executors g
  told g running := by
    rw [silenced, setPort_executors, setPort_groupHolders] at running
    rw [flagSet_setPort hq]
    exact h.told g running
  ramps := by
    have same : silenced m (setPort m p s) = silenced m s := by
      funext g
      rw [silenced, setPort_executors, setPort_groupHolders]
      rfl
    rw [same]
    exact chainRampsRemoved_congr h.ramps (by simp) (by simp) (by simp) (by simp)
  slots k := by rw [setPort_slots, setPort_slots]; exact h.slots k
  line := by rw [line_setPort, line_setPort]; exact h.line
  lost := by rw [flagSet_setPort hq]; exact h.lost
  changed := by
    rw [flagSet_setPort hq, flagSet_setPort hp]
    simp only [holderOf_setPort]
    exact h.changed

theorem Freed.respond {q : Req} {r : State × Reply} {t : State} {reply : Reply} (h : Freed q.master r.1 t) (code : Byte) :
    Freed q.master (respond q code r) (respond q code (t, reply)) := by
  unfold Machine.respond
  exact h.of_port rfl rfl

theorem Freed.before {m : Master} {p : Port} {s t : State} (h : Freed m (setPort m p s) t) (hp : p.flags = (port m s).flags) :
    Freed m s t := by
  have back := h.of_port (p := port m s) (q := port m t) (by rw [port_setPort_self]; exact hp.symm) rfl
  have hs : setPort m (port m s) (setPort m p s) = s := by cases m <;> rfl
  have ht : setPort m (port m t) t = t := by cases m <;> rfl
  rwa [hs, ht] at back

theorem dispatchOk_setPort {m : Master} {p : Port} {s : State} (h : DispatchOk s) : DispatchOk (setPort m p s) := by
  unfold DispatchOk StartersHold SlotsBelong at *
  rwa [setPort_executors, setPort_groupHolders, setPort_slots]

/-- The port of a silent master once its timer has run out. -/
def silentPort (p : Port) : Port := { p with silenceTimer := none, active := false }

theorem silenceEvent_due {m : Master} {s : State} (due : (port m s).silenceTimer = some 0) :
    silenceEvent m s = silenceAtOwners m (setPort m (silentPort (port m s)) s) := by
  unfold silenceEvent
  dsimp only
  rw [due]
  rfl

end Sys2Proof.Machine

namespace Sys2Proof
open Machine

/-- Settles O9: the expiry alone, and the two ways in which it can meet a request (`serveAtClaims_meeting`). -/
theorem silenceExpiryFreesEverything : Obligations.SilenceExpiryFreesEverything := by
  unfold Obligations.SilenceExpiryFreesEverything
  intro freedOf m s due ok
  have freed : ∀ u t, Freed m u t → freedOf m u t := fun u t h =>
    ⟨h.holders, h.executors, h.told, h.ramps, h.slots, h.line, h.lost, h.changed⟩
  refine ⟨?_, fun c q claims request own listening => ?_⟩
  · have aside := (aside_silenceAtOwners m (setPort m (silentPort (port m s)) s)).ports m
    rw [port_setPort_self] at aside
    refine ⟨_, congrArg Host.Outcome.next (silenceEvent_due due),
      freed _ _ ((freed_silenceAtOwners (dispatchOk_setPort ok)).before rfl), by rw [aside]; rfl, by rw [aside]; rfl⟩
  · intro running
    subst own
    obtain ⟨code, -, served⟩ := exec_atClaims claims request
    have accepted : acceptFrame q.master running = acceptFrame q.master { s with freeCount := s.freeCount + 1 } := by
      cases e : q.master <;> simp only [running, e] <;> rfl
    have listens : ListeningInTime q.master running := by
      refine ⟨?_, ?_⟩
      · rw [Listening, port_setPort_self]; exact listening
      · rw [port_setPort_self]; simp
    have alone := answerAtClaims_listening listens.1 listens.2 code (serve c)
    rw [accepted] at alone
    have met : exec c s = .next (respond q code (serveAtClaims q.master (serve c) s)) := by
      rw [served, answerAtClaims, settle_listening listening]
    rw [served running, alone, met]
    rcases serveAtClaims_meeting due (serve c) with first | second
    · exact .inl (by rw [first])
    · right
      rw [second]
      have after : DispatchOk (serve c (acceptFrame q.master { s with freeCount := s.freeCount + 1 })).1 :=
        ((keeps_acceptFrame ..).trans (keeps_serve ..)).dispatch ok
      have port := ((aside_serve c (acceptFrame q.master { s with freeCount := s.freeCount + 1 })).trans
        (aside_silenceAtOwners q.master _)).ports q.master
      rw [port_acceptFrame_self] at port
      refine ⟨_, _, rfl, rfl, freed _ _ ((freed_silenceAtOwners after).respond code), ?_, ?_, ?_, ?_⟩
      · rw [port_respond_self, port_respond_self]
      · rw [port_respond_self]
      · rw [port_respond_self, port]
      · rw [port_respond_self, port]
        rfl

end Sys2Proof
end

section
/-! SUPPORT. What an executor does within one event (R76 to R79, R90 to R93): a slot taken, a step completed, a step failed. -/

namespace Sys2Proof.Machine

/-! ### Slots taken -/

theorem putExecutor_self (g : GroupId) (x : Executor) (s : State) : (putExecutor g x s).executors[g] = x := put_self ..

theorem putExecutor_putExecutor (g : GroupId) (x y : Executor) (s : State) :
    putExecutor g y (putExecutor g x s) = putExecutor g y s := by
  unfold putExecutor
  rw [put_put]

/-- The chain record of an executor that takes a slot (R76). -/
def takenAt (k : SlotId) (x : Executor) : Executor :=
  { x with state := .active, current := some k, waiting := none, timer := none, currentAccepted := none }

/-- What a step with an immediate operand retains (R63). -/
def immediate (v : Half) : Retained := { first := v, second := none, row := none }

/-- The chain record once the step of a slot is accepted with an immediate operand (R78). -/
def acceptedAt (k : SlotId) (v : Half) (x : Executor) : Executor :=
  { takenAt k x with retained := some (immediate v), stepCount := x.stepCount + 1 }

theorem fetch_imm {profile : Table Half 64} {x : Executor} {d : Descriptor} {v : Half} (operand : d.operand = .imm v) :
    fetch profile x d = immediate v := by
  unfold fetch
  simp only [operand]
  rfl

theorem acceptStep_imm {g : GroupId} {d : Descriptor} {v : Half} {s : State} (operand : d.operand = .imm v) :
    acceptStep g d s =
      putExecutor g { s.executors[g] with retained := some (immediate v), stepCount := s.executors[g].stepCount + 1 } s := by
  unfold acceptStep
  dsimp only
  rw [fetch_imm operand, operand] <;> rfl

theorem takeSlot_accepted {g : GroupId} {k : SlotId} {v : Half} {s : State} (operand : s.slots[k].record.operand = .imm v)
    (fits : acceptanceFailure g s.slots[k].record.op s = none) :
    takeSlot g k s =
      settleStep g (beginStep g s.slots[k].record.op (immediate v)
        (putExecutor g (acceptedAt k v s.executors[g]) s)) := by
  have taken : takeSlot g k s =
      match acceptanceFailure g s.slots[k].record.op (putExecutor g (takenAt k s.executors[g]) s) with
      | some r => failStep g r .acceptance false (putExecutor g (takenAt k s.executors[g]) s)
      | none =>
        settleStep g (beginStep g s.slots[k].record.op
          (fetch s.profile (putExecutor g (takenAt k s.executors[g]) s).executors[g] s.slots[k].record)
          (acceptStep g s.slots[k].record (putExecutor g (takenAt k s.executors[g]) s))) := rfl
  rw [taken, acceptanceFailure_putExecutor, fits]
  dsimp only
  rw [acceptStep_imm operand, putExecutor_self, putExecutor_putExecutor, fetch_imm operand]
  rfl

theorem takeSlot_refused {g : GroupId} {k : SlotId} {r : FailReason} {s : State}
    (fails : acceptanceFailure g s.slots[k].record.op s = some r) :
    takeSlot g k s = failStep g r .acceptance false (putExecutor g (takenAt k s.executors[g]) s) := by
  have taken : takeSlot g k s =
      match acceptanceFailure g s.slots[k].record.op (putExecutor g (takenAt k s.executors[g]) s) with
      | some r => failStep g r .acceptance false (putExecutor g (takenAt k s.executors[g]) s)
      | none =>
        settleStep g (beginStep g s.slots[k].record.op
          (fetch s.profile (putExecutor g (takenAt k s.executors[g]) s).executors[g] s.slots[k].record)
          (acceptStep g s.slots[k].record (putExecutor g (takenAt k s.executors[g]) s))) := rfl
  rw [taken, acceptanceFailure_putExecutor, fails]

theorem proceed_none (g : GroupId) (t : State) : proceed g (t, none) = t := rfl

theorem proceed_to {g : GroupId} {k : SlotId} {s t : State} (taken : takeSlot g k s = (t, none)) :
    proceed g (s, some k) = t := by
  have run : proceed g (s, some k) = runFrom 128 g k s := rfl
  rw [run, runFrom, taken]

/-- A DWELL with an immediate operand, taken: it is accepted, counted and waits with its clamped duration (R85). -/
theorem takeSlot_dwell {g : GroupId} {j : SlotId} {v : Half} {s : State} (dwell : DwellAt j v s) :
    takeSlot g j s = (putExecutor g (EnteredDwell j v s.executors[g]) s, none) := by
  obtain ⟨op, operand, -⟩ := dwell
  rw [takeSlot_accepted operand (by rw [op]; rfl), op, beginStep, settleStep, waitFor, putExecutor_self,
    putExecutor_putExecutor]
  rfl

theorem proceed_dwell {g : GroupId} {j : SlotId} {v : Half} {s : State} (dwell : DwellAt j v s) :
    proceed g (s, some j) = putExecutor g (EnteredDwell j v s.executors[g]) s := proceed_to (takeSlot_dwell dwell)

/-! ### Completion (R90) -/

theorem completeStep_eq {g : GroupId} {k : SlotId} {s : State} (current : s.executors[g].current = some k) :
    completeStep g s =
      match s.slots[k].record.next with
      | none => (endChain g .complete s, none)
      | some j => (s, some j) := by
  rw [completeStep, currentRecord, current] <;> rfl

theorem completeAndProceed_end {g : GroupId} {k : SlotId} {s : State} (current : s.executors[g].current = some k)
    (last : s.slots[k].record.next = none) : completeAndProceed g s = endChain g .complete s := by
  rw [completeAndProceed, completeStep_eq current, last]
  exact proceed_none ..

theorem completeAndProceed_dwell {g : GroupId} {j k : SlotId} {v : Half} {s : State}
    (current : s.executors[g].current = some k) (next : s.slots[k].record.next = some j) (dwell : DwellAt j v s) :
    completeAndProceed g s = putExecutor g (EnteredDwell j v s.executors[g]) s := by
  rw [completeAndProceed, completeStep_eq current, next]
  exact proceed_dwell dwell

/-! ### Failure (R91 to R93) -/

/-- The chain record with a failure recorded. -/
def failedAt (k : SlotId) (r : FailReason) (st : FailStage) (x : Executor) : Executor :=
  { x with lastFailure := some { slot := k, reason := r, stage := st }, waiting := none, timer := none }

section
variable {g : GroupId} {k : SlotId} {r : FailReason} {st : FailStage} {accepted : Bool} {s : State}

theorem failStep_eq (current : s.executors[g].current = some k) :
    failStep g r st accepted s =
      match s.slots[k].record.onFail with
      | .halt => (haltChain g accepted (putExecutor g (failedAt k r st s.executors[g]) s), none)
      | .continue =>
        match s.slots[k].record.next with
        | none => (endChain g .failed (putExecutor g (failedAt k r st s.executors[g]) s), none)
        | some n => (putExecutor g (failedAt k r st s.executors[g]) s, some n)
      | .abort => (endChain g .failed (putExecutor g (failedAt k r st s.executors[g]) s), none)
      | .branch (some n) => (putExecutor g (failedAt k r st s.executors[g]) s, some n)
      | .branch none => (endChain g .failed (putExecutor g (failedAt k r st s.executors[g]) s), none) := by
  unfold failStep
  rw [current]
  rfl

/-- On-fail HALT (R93). -/
theorem failStep_halt (current : s.executors[g].current = some k) (onFail : s.slots[k].record.onFail = .halt) {m : Master}
    (holder : s.groupHolders[g] = some m) :
    failStep g r st accepted s =
      (setFlag m (.chainHalted g)
        (putExecutor g { failedAt k r st s.executors[g] with state := .halted, currentAccepted := some accepted } s), none) := by
  rw [failStep_eq current, onFail, haltChain]
  dsimp only
  rw [putExecutor_putExecutor, putExecutor_self]
  have holds : (putExecutor g { failedAt k r st s.executors[g] with state := .halted, currentAccepted := some accepted }
    s).groupHolders[g] = some m := holder
  dsimp only [failedAt] at holds ⊢
  rw [holds]

/-- On-fail ABORT, and CONTINUE at END (R92). -/
theorem failStep_end (current : s.executors[g].current = some k)
    (onFail : s.slots[k].record.onFail = .abort ∨
      (s.slots[k].record.onFail = .continue ∧ s.slots[k].record.next = none)) :
    failStep g r st accepted s = (endChain g .failed (putExecutor g (failedAt k r st s.executors[g]) s), none) := by
  rw [failStep_eq current]
  rcases onFail with e | ⟨e, n⟩
  · rw [e]
  · rw [e, n]

/-- On-fail BRANCH, and CONTINUE with a next (R92). -/
theorem failStep_next {j : SlotId} (current : s.executors[g].current = some k)
    (onFail : s.slots[k].record.onFail = .branch (some j) ∨
      (s.slots[k].record.onFail = .continue ∧ s.slots[k].record.next = some j)) :
    failStep g r st accepted s = (putExecutor g (failedAt k r st s.executors[g]) s, some j) := by
  rw [failStep_eq current]
  rcases onFail with e | ⟨e, n⟩
  · rw [e]
  · rw [e, n]

theorem failAndProceed_halt (current : s.executors[g].current = some k) (onFail : s.slots[k].record.onFail = .halt)
    {m : Master} (holder : s.groupHolders[g] = some m) :
    failAndProceed g r s =
      setFlag m (.chainHalted g)
        (putExecutor g { failedAt k r .execution s.executors[g] with state := .halted, currentAccepted := some true } s) := by
  rw [failAndProceed, failStep_halt current onFail holder, proceed_none]

theorem failAndProceed_end (current : s.executors[g].current = some k)
    (onFail : s.slots[k].record.onFail = .abort ∨
      (s.slots[k].record.onFail = .continue ∧ s.slots[k].record.next = none)) :
    failAndProceed g r s = endChain g .failed (putExecutor g (failedAt k r .execution s.executors[g]) s) := by
  rw [failAndProceed, failStep_end current onFail, proceed_none]

theorem failAndProceed_dwell {j : SlotId} {v : Half} (current : s.executors[g].current = some k)
    (onFail : s.slots[k].record.onFail = .branch (some j) ∨
      (s.slots[k].record.onFail = .continue ∧ s.slots[k].record.next = some j)) (dwell : DwellAt j v s) :
    failAndProceed g r s = putExecutor g (EnteredDwell j v (failedAt k r .execution s.executors[g])) s := by
  rw [failAndProceed, failStep_next current onFail, proceed_dwell (s := putExecutor g _ s) dwell, putExecutor_self,
    putExecutor_putExecutor]

end

/-- A chain ended at its group's record `x`: the record, the slots and the flag for the starter. -/
theorem endChain_putExecutor (g : GroupId) (o : ChainOutcome) (x : Executor) (s : State) :
    (endChain g o (putExecutor g x s)).executors = put s.executors g (Ended o x) ∧
      (∀ j : SlotId, (endChain g o (putExecutor g x s)).slots[j] = Unbound (fun h => h == g) s.slots[j]) ∧
      ∀ m, x.starter = some m → flagSet m (.chainEnd g) (endChain g o (putExecutor g x s)) = true := by
  refine ⟨?_, fun j => ?_, fun m starter => endChain_flag _ _ _ m (by rw [putExecutor_self]; exact starter)⟩
  · rw [endChain_executors, putExecutor_self]
    exact put_put ..
  · rw [endChain_slots]
    rfl

/-! ### The timers of steps (R85 to R87) -/

theorem dwellExpiry_due {g : GroupId} {s : State} (active : s.executors[g].state = .active)
    (timer : s.executors[g].timer = some 0) (waiting : s.executors[g].waiting = some .timer) :
    dwellExpiry g s = completeAndProceed g s := by
  unfold dwellExpiry stepExpires timedWait
  rw [active, timer, waiting]
  rfl

theorem awaitExpiry_due {g : GroupId} {s : State} (active : s.executors[g].state = .active)
    (timer : s.executors[g].timer = some 0)
    (waiting : s.executors[g].waiting = some .input ∨ s.executors[g].waiting = some .measurement) :
    awaitExpiry g s = failAndProceed g .timeout s := by
  unfold awaitExpiry stepExpires timedWait
  rcases waiting with w | w
  all_goals
    rw [active, timer, w]
    rfl

theorem clampInt_duration (x : Int) :
    clampInt 1 3600 x = if x < 1 then 1 else if 3600 < x then 3600 else x.toNat := rfl

end Sys2Proof.Machine

namespace Sys2Proof
open Machine

/-- Settles O20: the completion and the failure of a step, by its next and its on-fail. -/
theorem stepTimerExpiries : Obligations.StepTimerExpiries := by
  unfold Obligations.StepTimerExpiries
  intro g k s active timer current x d failed
  refine ⟨fun waiting last => ?_, fun waiting j v next dwell => ?_,
    fun waiting => ⟨fun onFail m holder => ?_, fun onFail => ?_, fun j v onFail dwell => ?_⟩⟩
  · obtain ⟨actuators, outputs⟩ := endChain_complete_actuators g s
    refine ⟨_, congrArg Host.Outcome.next ((dwellExpiry_due active timer waiting).trans (completeAndProceed_end current last)),
      endChain_executors .., actuators, outputs, fun j => endChain_slots .., fun m => endChain_flag g .complete s m⟩
  · exact congrArg Host.Outcome.next
      ((dwellExpiry_due active timer waiting).trans (completeAndProceed_dwell current next dwell))
  · exact congrArg Host.Outcome.next
      ((awaitExpiry_due active timer waiting).trans (failAndProceed_halt current onFail holder))
  · exact ⟨_, congrArg Host.Outcome.next
      ((awaitExpiry_due active timer waiting).trans (failAndProceed_end current onFail)), endChain_putExecutor ..⟩
  · exact congrArg Host.Outcome.next
      ((awaitExpiry_due active timer waiting).trans (failAndProceed_dwell current onFail dwell))

end Sys2Proof
end

section
/-! SUPPORT. The start of a chain by RUN CHAIN (R53, R74), and RESUME (R94 to R96). -/

namespace Sys2Proof.Machine

/-! ### RUN CHAIN -/

/-- The state in which a chain's first slot is taken (R74). -/
def chainStarted (m : Master) (g : GroupId) (k : SlotId) (ks : List SlotId) (s : State) : State :=
  putExecutor g (startedExecutor m k s.executors[g]) (bindSlots g ks s)

theorem runChainOwner_ok {m : Master} {group slot : Byte} {g : GroupId} {k : SlotId} {ks : List SlotId} {s : State}
    (hg : index? 5 group = some g) (hk : index? 128 slot = some k) (held : s.groupHolders[g] = some m)
    (idle : s.executors[g].state = .idle) (off : s.ptrip.asserted = false) (fit : reachable m g k s = .ok ks) :
    runChainOwner m group slot s = (proceed g (chainStarted m g k ks s, some k), .ok (byte1 ks.length)) := by
  rw [runChainOwner_eq hg hk, if_neg (not_not.2 held), if_neg (not_not.2 idle),
    if_neg (by rw [off]; exact Bool.false_ne_true), fit]
  dsimp only
  rw [bindSlots_executors, chainStarted]

/-- A fit slot without links is a chain by itself (R72). -/
theorem reachable_alone {m : Master} {g : GroupId} {k : SlotId} {s : State} (own : s.slots[k].state = .written m)
    (form : invalidForm g s.slots[k].record s = false) (links : linksOf s.slots[k].record = []) :
    reachable m g k s = .ok [k] := by
  have stays : reachable m g k s = walkBelow m g s [] k := rfl
  rw [stays, walkBelow_fit (by decide) ⟨own, form⟩, links]
  rfl

theorem bindSlots_written {m : Master} {g : GroupId} {ks : List SlotId} {s : State}
    (written : ∀ j ∈ ks, s.slots[j].state = .written m) (j : SlotId) :
    (bindSlots g ks s).slots[j] = if j ∈ ks then { state := .bound m g, record := s.slots[j].record } else s.slots[j] := by
  rw [bindSlots_at]
  by_cases mem : j ∈ ks
  · rw [if_pos mem, if_pos mem, written j mem]
  · rw [if_neg mem, if_neg mem]

theorem bindSlots_one {m : Master} {g : GroupId} {k : SlotId} {d : Descriptor} {s : State}
    (own : s.slots[k] = { state := .written m, record := d }) :
    (bindSlots g [k] s).slots = put s.slots k { state := .bound m g, record := d } := by
  refine table_ext fun j => ?_
  have written : ∀ j ∈ [k], s.slots[j].state = .written m := fun j mem => by
    rw [List.mem_singleton.1 mem, own]
  rw [bindSlots_written written, get_put]
  by_cases e : j = k
  · rw [if_pos (List.mem_singleton.2 e), if_pos e, e, own]
  · rw [if_neg (mt List.mem_singleton.1 e), if_neg e]

theorem dwellAt_bindSlots {g : GroupId} {ks : List SlotId} {j : SlotId} {v : Half} {s : State} (h : DwellAt j v s) :
    DwellAt j v (bindSlots g ks s) := by
  have same : (bindSlots g ks s).slots[j].record = s.slots[j].record := by
    rw [bindSlots_at]
    split
    · split <;> rfl
    · rfl
  unfold DwellAt
  rwa [same]

theorem dwellAt_putExecutor {g : GroupId} {x : Executor} {j : SlotId} {v : Half} {s : State} (h : DwellAt j v s) :
    DwellAt j v (putExecutor g x s) := ⟨h.1, h.2.1, h.2.2⟩

/-- RUN CHAIN of a chain that begins with a DWELL (R85). -/
theorem proceed_chainStarted_dwell {m : Master} {g : GroupId} {k : SlotId} {ks : List SlotId} {v : Half} {s : State}
    (dwell : DwellAt k v s) :
    proceed g (chainStarted m g k ks s, some k) =
      { s with
        slots := (bindSlots g ks s).slots
        executors := put s.executors g (EnteredDwell k v (startedExecutor m k s.executors[g])) } := by
  rw [chainStarted, proceed_dwell (dwellAt_putExecutor (dwellAt_bindSlots dwell)), putExecutor_self, putExecutor_putExecutor]
  simp only [putExecutor, bindSlots]

end Sys2Proof.Machine

namespace Sys2Proof
open Machine

/-- Settles O15. -/
theorem runChainStartsDwell : Obligations.RunChainStartsDwell := by
  unfold Obligations.RunChainStartsDwell
  intro q group slot g k v s hl hg hk held idle off
  have slots : (acceptFrame q.master s).slots = s.slots := acceptFrame_slots q.master s
  have served : ∀ ks x, reachable q.master g k s = .ok ks → DwellAt k v s → x = (acceptFrame q.master s).executors[g] →
      exec (.runChain q group slot) s =
        .next (respond q 0x30
          ({ acceptFrame q.master s with
              slots := (bindSlots g ks (acceptFrame q.master s)).slots
              executors := put (acceptFrame q.master s).executors g
                (EnteredDwell k v (startedExecutor q.master k x)) },
            .ok (byte1 ks.length))) := fun ks x fit dwell record => by
    subst record
    refine exec_servedInTime rfl hl ((runChainOwner_ok hg hk (by rwa [acceptFrame_groupHolders])
      (by rwa [acceptFrame_executors]) (by rwa [acceptFrame_ptrip]) (by rwa [reachable_acceptFrame])).trans ?_)
    rw [proceed_chainStarted_dwell (by unfold DwellAt; rwa [slots])]
  refine ⟨fun own => ?_, fun ks fit dwell => ?_⟩
  · have alone : reachable q.master g k s = .ok [k] := reachable_alone (by rw [own]) (by rw [own]; rfl) (by rw [own]; rfl)
    rw [served [k] _ alone (by unfold DwellAt; rw [own]; exact ⟨rfl, rfl, rfl⟩) rfl,
      bindSlots_one (m := q.master) (by rw [slots]; exact own)]
    rfl
  · refine ⟨_, served ks s.executors[g] fit dwell (by rw [acceptFrame_executors]), fun j => ?_⟩
    have found := (reachable_ok fit).1
    rw [bindSlots_written (m := q.master) fun j mem => by rw [slots]; exact (found.fit j mem).2.1, slots]

end Sys2Proof
end

section
/-! SUPPORT. Steps that move an actuator: what they begin, and what they change of the plant (R77 to R84). -/

namespace Sys2Proof.Machine

/-! ### One actuator alone -/

/-- Of the plant one actuator alone and its channel may differ. -/
structure OnlyEntry (n : ActId) (s t : State) : Prop where
  others : ∀ j, j ≠ n → t.actuators[j] = s.actuators[j] ∧ t.outputs[j] = s.outputs[j]
  cfg : t.actuators[n].cfg = s.actuators[n].cfg
  profile : t.profile = s.profile
  groupHolders : t.groupHolders = s.groupHolders
  govHolder : t.govHolder = s.govHolder
  captures : t.captures = s.captures
  governor : t.governor = s.governor
  stations : t.stations = s.stations
  ptrip : t.ptrip = s.ptrip

section
variable {n : ActId} {s t u : State}

theorem OnlyEntry.trans (h : OnlyEntry n s t) (k : OnlyEntry n t u) : OnlyEntry n s u where
  others j other := ⟨(k.others j other).1.trans (h.others j other).1, (k.others j other).2.trans (h.others j other).2⟩
  cfg := k.cfg.trans h.cfg
  profile := k.profile.trans h.profile
  groupHolders := k.groupHolders.trans h.groupHolders
  govHolder := k.govHolder.trans h.govHolder
  captures := k.captures.trans h.captures
  governor := k.governor.trans h.governor
  stations := k.stations.trans h.stations
  ptrip := k.ptrip.trans h.ptrip

/-- Where the plant's tables are the same, nothing beside them is looked at. -/
theorem Around.onlyEntry (h : Around s t) (actuators : ∀ j, j ≠ n → t.actuators[j] = s.actuators[j])
    (outputs : ∀ j, j ≠ n → t.outputs[j] = s.outputs[j]) : OnlyEntry n s t where
  others j other := ⟨actuators j other, outputs j other⟩
  cfg := h.cfg n
  profile := h.profile
  groupHolders := h.groupHolders
  govHolder := h.govHolder
  captures := h.captures
  governor := h.governor
  stations := h.stations
  ptrip := h.ptrip

theorem onlyEntry_acceptFrame (n : ActId) (m : Master) (s : State) : OnlyEntry n s (acceptFrame m s) := by
  constructor <;> simp

theorem onlyEntry_putExecutor (n : ActId) (g : GroupId) (x : Executor) (s : State) : OnlyEntry n s (putExecutor g x s) :=
  (around_putExecutor g x s).onlyEntry (fun _ _ => rfl) fun _ _ => rfl

theorem onlyEntry_bindSlots (n : ActId) (g : GroupId) (ks : List SlotId) (s : State) : OnlyEntry n s (bindSlots g ks s) := by
  constructor <;> simp

theorem onlyEntry_setFlag (n : ActId) (m : Master) (f : Attention) (s : State) : OnlyEntry n s (setFlag m f s) :=
  (around_setFlag m f s).onlyEntry (fun _ _ => by rw [setFlag_actuators]) fun _ _ => by rw [setFlag_outputs]

theorem onlyEntry_putActuator {a : Actuator} (cfg : a.cfg = s.actuators[n].cfg) : OnlyEntry n s (putActuator n a s) where
  others j other := putActuator_other other a s
  cfg := by rw [(putActuator_self n a s).1, supervise_cfg, cfg]
  profile := rfl
  groupHolders := rfl
  govHolder := rfl
  captures := rfl
  governor := rfl
  stations := rfl
  ptrip := rfl

theorem onlyEntry_firstFault (n : ActId) (code : FaultCode) (s : State) : OnlyEntry n s (firstFault code n s) :=
  (around_firstFault code n s).onlyEntry (fun j other => ((onlyActuator_firstFault code n s).1 j other).1)
    fun j other => ((onlyActuator_firstFault code n s).1 j other).2

theorem onlyEntry_endChain_complete (n : ActId) (g : GroupId) (s : State) : OnlyEntry n s (endChain g .complete s) := by
  obtain ⟨actuators, outputs⟩ := endChain_complete_actuators g s
  exact (around_endChain g .complete s).onlyEntry (fun _ _ => by rw [actuators]) fun _ _ => by rw [outputs]

end

/-! ### What a step begins -/

section
variable {g : GroupId} {k : SlotId} {n : ActId} {v : Half} {s : State}

/-- The entry of an actuator replaced and the executor put to wait for it. -/
def stepWaits (g : GroupId) (n : ActId) (w : Waiting) (e : Actuator) (y : Executor) (s : State) : State :=
  putExecutor g { y with waiting := some w, timer := none } (putActuator n e s)

theorem waitFor_putActuator (w : Waiting) (e : Actuator) (y : Executor) :
    waitFor g w none (putActuator n e (putExecutor g y s)) = stepWaits g n w e y s := by
  have record : (putActuator n e (putExecutor g y s)).executors[g] = y := putExecutor_self g y s
  have order : putActuator n e (putExecutor g y s) = putExecutor g y (putActuator n e s) := rfl
  rw [waitFor, record, order, putExecutor_putExecutor, stepWaits]

theorem acceptanceFailure_fit {op : Op} (actuator : op.actuator = some n) (member : memberOf g s.actuators[n] = true)
    (well : healthy s.actuators[n] = true) (suited : suits op s.actuators[n] = true) :
    acceptanceFailure g op s =
      match op with
      | .start _ => if permits s.actuators[n] s then none else some .permissive
      | .follow _ => if s.governor.mode = .off then some .governorOff else none
      | _ => none := by
  unfold acceptanceFailure
  rw [actuator]
  dsimp only
  rw [if_neg (not_not.2 (by rw [member, well]; rfl)), if_neg (not_not.2 suited)] <;> rfl

theorem acceptanceFailure_sick {op : Op} (actuator : op.actuator = some n) (sick : healthy s.actuators[n] = false) :
    acceptanceFailure g op s = some .notAvailable := by
  unfold acceptanceFailure
  rw [actuator]
  dsimp only
  rw [if_pos (by rw [sick]; simp)]

theorem permits_congr {t : State} {a : Actuator} (inputs : t.inputs = s.inputs) : permits a t = permits a s := by
  simp only [permits, filteredLevel, inputs]

/-- A START of a STOPPED pump whose proof does not run yet (R13, R82). -/
theorem takeSlot_start (op : s.slots[k].record.op = .start n) (operand : s.slots[k].record.operand = .imm v)
    (member : memberOf g s.actuators[n] = true) (state : s.actuators[n].state = .stopped)
    (permitted : permits s.actuators[n] s = true) (proof : ∀ d, s.actuators[n].cfg.proofInput = some d → s.inputs[d].filtered = false) :
    takeSlot g k s = (stepWaits g n .runProof (startEntry false s.actuators[n]) (acceptedAt k v s.executors[g]) s, none) := by
  have well := healthy_of_state state (by simp) (by simp)
  have fits : acceptanceFailure g s.slots[k].record.op s = none := by
    rw [op, acceptanceFailure_fit rfl member well (by rw [suits, state]; rfl)]
    exact if_pos permitted
  have off : proofRunning s.actuators[n] s = false := by
    unfold proofRunning
    split
    · rfl
    next d input => exact proof d input
  rw [takeSlot_accepted operand fits, op]
  have begun : beginStep g (.start n) (immediate v) (putExecutor g (acceptedAt k v s.executors[g]) s) =
      beginStart g n (putExecutor g (acceptedAt k v s.executors[g]) s) := rfl
  have running : proofRunning (putExecutor g (acceptedAt k v s.executors[g]) s).actuators[n]
      (putExecutor g (acceptedAt k v s.executors[g]) s) = false := off
  rw [begun, beginStart, running, ← waitFor_putActuator]
  rfl

/-- A STOP of a RUNNING pump (R15, R83). -/
theorem takeSlot_stop (op : s.slots[k].record.op = .stop n) (operand : s.slots[k].record.operand = .imm v)
    (member : memberOf g s.actuators[n] = true) (state : s.actuators[n].state = .running) :
    takeSlot g k s =
      (stepWaits g n .stopProof (stopEntry v.toInt s.actuators[n]) (acceptedAt k v s.executors[g]) s, none) := by
  have well := healthy_of_state state (by simp) (by simp)
  have fits : acceptanceFailure g s.slots[k].record.op s = none := by
    rw [op, acceptanceFailure_fit rfl member well (by rw [suits, state]; rfl)]
  rw [takeSlot_accepted operand fits, op, ← waitFor_putActuator]
  rfl

/-- A FOLLOW of a RUNNING pump (R39, R84). -/
theorem takeSlot_follow (op : s.slots[k].record.op = .follow n) (operand : s.slots[k].record.operand = .imm v)
    (member : memberOf g s.actuators[n] = true) (state : s.actuators[n].state = .running) (on : s.governor.mode ≠ .off) :
    takeSlot g k s =
      completeStep g (putActuator n (followEntry v.toInt s.actuators[n]) (putExecutor g (acceptedAt k v s.executors[g]) s)) := by
  have well := healthy_of_state state (by simp) (by simp)
  have fits : acceptanceFailure g s.slots[k].record.op s = none := by
    rw [op, acceptanceFailure_fit rfl member well (by rw [suits, state]; rfl)]
    exact if_neg on
  rw [takeSlot_accepted operand fits, op]
  rfl

/-- The entry of an actuator with the ramp of a MOVE (R33, R34, R80). -/
def movingEntry (target rate : Int) (a : Actuator) : Actuator :=
  { a with
    follow := none
    ramp := some { target := clampTarget a target, rateStep := rateStep a rate, origin := .move }
    accumulator := 0
    state := if a.state = .holding then .moving else a.state }

theorem requestRamp_installed {a : Actuator} {target rate : Int} {p : Bool} (away : clampTarget a target ≠ a.command)
    (free : a.state = .holding → p = true) :
    requestRamp .move target (rateStep { a with follow := none } rate) p { a with follow := none } =
      (movingEntry target rate a, .installed) := by
  unfold requestRamp
  rw [if_neg (show clampTarget { a with follow := none } target ≠ _ from away),
    if_neg (by rintro ⟨-, holding, barred⟩; rw [free holding] at barred; cases barred)]
  simp only [true_and]
  rfl

theorem beginMove_installed {x rate : Int} {wait : Bool} (away : clampTarget s.actuators[n] x ≠ s.actuators[n].command)
    (free : s.actuators[n].state = .holding → permits s.actuators[n] s = true) :
    beginMove g n x rate wait s =
      if wait then (waitFor g .landing none (putActuator n (movingEntry x rate s.actuators[n]) s), .waits)
      else (putActuator n (movingEntry x rate s.actuators[n]) s, .completes) := by
  have ramp := requestRamp_installed (rate := rate) (p := permits { s.actuators[n] with follow := none } s) away free
  unfold beginMove
  dsimp only at ramp ⊢
  rw [ramp]

theorem beginMove_barred {x rate : Int} {wait : Bool} (away : clampTarget s.actuators[n] x ≠ s.actuators[n].command)
    (state : s.actuators[n].state = .holding) (barred : permits s.actuators[n] s = false)
    (scope : s.actuators[n].cfg.tripScope = .self) :
    beginMove g n x rate wait s = (firstFault .permissiveLost n s, .fails .faultedDuring) := by
  have ramp : requestRamp .move x (rateStep { s.actuators[n] with follow := none } rate)
      (permits { s.actuators[n] with follow := none } s) { s.actuators[n] with follow := none } =
        ({ s.actuators[n] with follow := none }, .barred) := by
    unfold requestRamp
    exact (if_neg away).trans (if_pos ⟨rfl, state, barred⟩)
  unfold beginMove
  dsimp only at ramp ⊢
  rw [ramp]
  dsimp only
  rw [scope]

/-- A MOVE that begins a stroke (R80). -/
theorem takeSlot_move {rate : Nat} {wait : Bool} (op : s.slots[k].record.op = .move n rate wait)
    (operand : s.slots[k].record.operand = .imm v) (member : memberOf g s.actuators[n] = true)
    (state : s.actuators[n].state = .running ∨ (s.actuators[n].state = .holding ∧ permits s.actuators[n] s = true))
    (away : clampTarget s.actuators[n] v.toInt ≠ s.actuators[n].command) :
    takeSlot g k s =
      if wait then (stepWaits g n .landing (movingEntry v.toInt rate s.actuators[n]) (acceptedAt k v s.executors[g]) s, none)
      else completeStep g
        (putActuator n (movingEntry v.toInt rate s.actuators[n]) (putExecutor g (acceptedAt k v s.executors[g]) s)) := by
  have well : healthy s.actuators[n] = true := by
    rcases state with e | ⟨e, -⟩ <;> exact healthy_of_state e (by simp) (by simp)
  have suited : suits (.move n rate wait) s.actuators[n] = true := by
    rcases state with e | ⟨e, -⟩ <;> (rw [suits, e]; rfl)
  have fits : acceptanceFailure g s.slots[k].record.op s = none := by
    rw [op, acceptanceFailure_fit rfl member well suited]
  have free : s.actuators[n].state = .holding → permits s.actuators[n] s = true := fun holding =>
    (state.resolve_left (by rw [holding]; simp)).2
  have begun : beginStep g (.move n rate wait) (immediate v) (putExecutor g (acceptedAt k v s.executors[g]) s) =
      beginMove g n v.toInt rate wait (putExecutor g (acceptedAt k v s.executors[g]) s) := rfl
  rw [takeSlot_accepted operand fits, op, begun, beginMove_installed (s := putExecutor g _ s) away free, ← waitFor_putActuator]
  cases wait <;> rfl

/-- A MOVE on a HOLDING valve that may not begin its stroke (R17, R80). -/
theorem takeSlot_barred {rate : Nat} {wait : Bool} (op : s.slots[k].record.op = .move n rate wait)
    (operand : s.slots[k].record.operand = .imm v) (member : memberOf g s.actuators[n] = true)
    (state : s.actuators[n].state = .holding) (barred : permits s.actuators[n] s = false)
    (scope : s.actuators[n].cfg.tripScope = .self)
    (away : clampTarget s.actuators[n] v.toInt ≠ s.actuators[n].command) :
    takeSlot g k s =
      failStep g .faultedDuring .execution true
        (firstFault .permissiveLost n (putExecutor g (acceptedAt k v s.executors[g]) s)) := by
  have well := healthy_of_state state (by simp) (by simp)
  have fits : acceptanceFailure g s.slots[k].record.op s = none := by
    rw [op, acceptanceFailure_fit rfl member well (by rw [suits, state]; rfl)]
  have begun : beginStep g (.move n rate wait) (immediate v) (putExecutor g (acceptedAt k v s.executors[g]) s) =
      beginMove g n v.toInt rate wait (putExecutor g (acceptedAt k v s.executors[g]) s) := rfl
  rw [takeSlot_accepted operand fits, op, begun, beginMove_barred (s := putExecutor g _ s) away state barred scope]
  rfl

theorem stepWaits_entry (w : Waiting) (e : Actuator) (y : Executor) :
    (stepWaits g n w e y s).actuators[n] = supervise e ∧ (stepWaits g n w e y s).outputs[n] = outputFor e s.outputs[n] :=
  putActuator_self n e s

theorem onlyEntry_stepWaits {w : Waiting} {e : Actuator} {y : Executor} (cfg : e.cfg = s.actuators[n].cfg) :
    OnlyEntry n s (stepWaits g n w e y s) := (onlyEntry_putActuator cfg).trans (onlyEntry_putExecutor ..)

end

/-! ### RESUME (R94 to R96) -/

section
variable {g : GroupId} {k : SlotId} {s : State}

/-- The chain record of a halted executor that runs again. -/
def resumed (x : Executor) : Executor := { x with state := .active, currentAccepted := none }

theorem skipChain_end (current : s.executors[g].current = some k) (last : s.slots[k].record.next = none) :
    skipChain g s = endChain g .complete (putExecutor g (resumed s.executors[g]) s) :=
  completeAndProceed_end (s := putExecutor g (resumed s.executors[g]) s) (by rw [putExecutor_self]; exact current) last

theorem skipChain_dwell {j : SlotId} {v : Half} (current : s.executors[g].current = some k)
    (next : s.slots[k].record.next = some j) (dwell : DwellAt j v s) :
    skipChain g s = putExecutor g (EnteredDwell j v s.executors[g]) s := by
  have done := completeAndProceed_dwell (s := putExecutor g (resumed s.executors[g]) s)
    (by rw [putExecutor_self]; exact current) next (dwellAt_putExecutor dwell)
  rw [putExecutor_self, putExecutor_putExecutor] at done
  exact done

theorem retryChain_eq (g : GroupId) (s : State) :
    retryChain g s =
      match s.executors[g].currentAccepted, s.executors[g].current with
      | some true, _ => proceed g (retryAccepted g (putExecutor g (resumed s.executors[g]) s))
      | _, some k => proceed g (putExecutor g (resumed s.executors[g]) s, some k)
      | _, none => putExecutor g (resumed s.executors[g]) s := rfl

/-- A RETRY of a step that had not been accepted takes its slot anew (R95). -/
theorem retryChain_anew (current : s.executors[g].current = some k) (accepted : s.executors[g].currentAccepted = some false) :
    retryChain g s = proceed g (putExecutor g (resumed s.executors[g]) s, some k) := by
  rw [retryChain_eq, current, accepted]

/-- A RETRY of an AWAIT_MEAS that had been accepted starts its timer again (R87, R95). -/
theorem retryChain_awaitMeas {c : CaptureId} {rel : Relation} {time : Nat} {r : Retained}
    (current : s.executors[g].current = some k) (accepted : s.executors[g].currentAccepted = some true)
    (retained : s.executors[g].retained = some r) (op : s.slots[k].record.op = .awaitMeas c rel time) :
    retryChain g s =
      putExecutor g { resumed s.executors[g] with waiting := some .measurement, timer := some (seconds time) } s := by
  have again : retryChain g s = proceed g (retryAccepted g (putExecutor g (resumed s.executors[g]) s)) := by
    rw [retryChain_eq, current, accepted]
  have record : (putExecutor g (resumed s.executors[g]) s).executors[g] = resumed s.executors[g] := putExecutor_self ..
  have slots : (putExecutor g (resumed s.executors[g]) s).slots = s.slots := rfl
  have retry : retryAccepted g (putExecutor g (resumed s.executors[g]) s) =
      (putExecutor g { resumed s.executors[g] with waiting := some .measurement, timer := some (seconds time) } s, none) := by
    unfold retryAccepted
    rw [record]
    rw [show (resumed s.executors[g]).current = some k from current,
      show (resumed s.executors[g]).retained = some r from retained]
    dsimp only
    rw [slots, op, acceptanceFailure_putExecutor]
    have fits : acceptanceFailure g (.awaitMeas c rel time) s = none := rfl
    rw [fits, beginStep, waitFor, record, putExecutor_putExecutor]
    rfl
  rw [again, retry, proceed_none]

end

/-- Taken anew, a slot is accepted as it would be by the executor that had not halted on it. -/
theorem acceptedAt_resumed (k : SlotId) (v : Half) (x : Executor) : acceptedAt k v (resumed x) = acceptedAt k v x := rfl

end Sys2Proof.Machine

namespace Sys2Proof
open Machine

/-- Settles O21: SKIP by the completion of the step, RETRY by the step's own beginning. -/
theorem resumeOfHaltedChain : Obligations.ResumeOfHaltedChain := by
  unfold Obligations.ResumeOfHaltedChain
  intro q group g k s hl hg held halted current u x
  have slots : u.slots = s.slots := acceptFrame_slots q.master s
  have executors : u.executors = s.executors := acceptFrame_executors q.master s
  have actuators : u.actuators = s.actuators := acceptFrame_actuators q.master s
  have outputs : u.outputs = s.outputs := acceptFrame_outputs q.master s
  have inputs : u.inputs = s.inputs := acceptFrame_inputs q.master s
  have heldNow := heldGroup_held (s := u) hg (by rwa [acceptFrame_groupHolders])
  have record : u.executors[g] = x := by rw [executors]
  have haltedNow : u.executors[g].state = .halted := by rwa [executors]
  have currentNow : u.executors[g].current = some k := by rwa [executors]
  have skipped : ∀ t, skipChain g u = t → exec (.resumeSkip q group) s = .next (respond q 0x32 (t, .ok [])) := fun t h => by
    subst h
    exact exec_servedInTime rfl hl ((resumeSkipOwner_held heldNow).trans (if_pos haltedNow))
  have retried : ∀ t, retryChain g u = t → exec (.resumeRetry q group) s = .next (respond q 0x32 (t, .ok [])) := fun t h => by
    subst h
    exact exec_servedInTime rfl hl ((resumeRetryOwner_held heldNow).trans (if_pos haltedNow))
  refine ⟨fun last => ?_, fun j v next dwell => ?_, fun c rel time r op accepted retained => ?_, fun n v refused member operand
    pair kind => ?_⟩
  · obtain ⟨ended, unbound, -⟩ := endChain_putExecutor g .complete (resumed u.executors[g]) u
    refine ⟨_, skipped _ (skipChain_end currentNow (by rwa [slots])), ?_, ?_, fun j => ?_⟩
    · rw [ended, executors]
      rfl
    · rw [(endChain_complete_actuators ..).1]
      exact actuators
    · rw [unbound, slots]
  · refine skipped _ ((skipChain_dwell currentNow (by rwa [slots]) (by unfold DwellAt; rwa [slots])).trans ?_)
    rw [record]
    rfl
  · refine retried _ ((retryChain_awaitMeas currentNow (by rwa [executors]) (by rwa [executors]) (by rw [slots, op])).trans ?_)
    rw [record]
    rfl
  · intro a anew
    generalize ready : putExecutor g (resumed u.executors[g]) u = r
    have slotsOf : r.slots = s.slots := by subst ready; exact slots
    have plant : r.actuators = s.actuators := by subst ready; exact actuators
    have levels : r.inputs = s.inputs := by subst ready; exact inputs
    have entry : r.actuators[n] = a := by rw [plant]
    have taken : ∀ w e,
        takeSlot g k r = (stepWaits g n w e (acceptedAt k v r.executors[g]) r, none) →
        e.cfg = a.cfg → ∃ t, anew w t ∧ t.actuators[n] = supervise e := fun w e step cfg => by
      subst ready
      have only : OnlyEntry n s (stepWaits g n w e (acceptedAt k v x) u) :=
        (onlyEntry_acceptFrame n q.master s).trans (onlyEntry_stepWaits (cfg.trans (by rw [actuators])))
      have same : stepWaits g n w e (acceptedAt k v (putExecutor g (resumed u.executors[g]) u).executors[g])
          (putExecutor g (resumed u.executors[g]) u) = stepWaits g n w e (acceptedAt k v x) u := by
        rw [putExecutor_self, acceptedAt_resumed, record]
        exact putExecutor_putExecutor g (resumed x) _ (putActuator n e u)
      refine ⟨_, ⟨retried _ ((retryChain_anew currentNow (by rwa [executors])).trans ((proceed_to step).trans same)), slots, ?_,
        only.others⟩, (stepWaits_entry w e _).1⟩
      have back : { x with current := some k } = x := by rw [← current]
      exact (congrArg (fun t => put t g { acceptedAt k v x with waiting := some w, timer := none }) executors).trans
        (congrArg (fun y : Executor => put s.executors g
          { y with
            state := .active, currentAccepted := none, waiting := some w, timer := none
            stepCount := y.stepCount + 1, retained := some (immediate v) }) back)
    refine ⟨fun op state permitted proof => ?_, ?_⟩
    · obtain ⟨t, resumes, now⟩ := taken .runProof (startEntry false r.actuators[n])
        (takeSlot_start (by rw [slotsOf]; exact op) (by rw [slotsOf]; exact operand) (by rw [entry]; exact member)
          (by rw [entry]; exact state) (by rw [permits_congr levels, entry]; exact permitted)
          (by rw [entry, levels]; exact proof)) (by rw [entry]; rfl)
      rw [entry] at now
      refine ⟨t, resumes, ?_, ?_, ?_⟩
      · rw [now, supervise_state]; rfl
      · rw [now, supervise_command]; rfl
      · rw [now, supervise_proofTimer]; rfl
    · intro rate op state target away
      obtain ⟨t, resumes, now⟩ := taken .landing (movingEntry v.toInt rate r.actuators[n])
        ((takeSlot_move (by rw [slotsOf]; exact op) (by rw [slotsOf]; exact operand) (by rw [entry]; exact member)
          (.inl (by rw [entry]; exact state)) (by rw [entry]; exact away)).trans (if_pos rfl)) (by rw [entry]; rfl)
      rw [entry] at now
      refine ⟨t, resumes, ?_, ?_, ?_, ?_⟩
      · rw [now, supervise_state]
        exact (if_neg (by rw [state]; simp)).trans state
      · rw [now, supervise_command]; rfl
      · rw [now, supervise_ramp]; rfl
      · rw [now, supervise_ramp]; rfl

end Sys2Proof
end

section
/-! SUPPORT. RUN CHAIN of a single step that moves an actuator (R74 to R84, R93). -/

namespace Sys2Proof.Machine

section
variable {m : Master} {g : GroupId} {k : SlotId} {d : Descriptor} {s : State}

/-- The state in which the single slot of a chain is taken. -/
theorem chainStarted_fields (n : ActId) (own : s.slots[k] = { state := .written m, record := d }) :
    (chainStarted m g k [k] s).slots = put s.slots k { state := .bound m g, record := d } ∧
      (chainStarted m g k [k] s).executors = put s.executors g (startedExecutor m k s.executors[g]) ∧
      (chainStarted m g k [k] s).actuators = s.actuators ∧ (chainStarted m g k [k] s).outputs = s.outputs ∧
      (chainStarted m g k [k] s).inputs = s.inputs ∧ OnlyEntry n s (chainStarted m g k [k] s) := by
  have only : OnlyEntry n s (chainStarted m g k [k] s) :=
    (onlyEntry_bindSlots n g [k] s).trans (onlyEntry_putExecutor n g _ _)
  refine ⟨?_, ?_, ?_, ?_, ?_, only⟩
  · rw [← bindSlots_one own]; rfl
  · rw [chainStarted, putExecutor, bindSlots_executors]
  · simp only [chainStarted, putExecutor, bindSlots_actuators]
  · simp only [chainStarted, putExecutor, bindSlots_outputs]
  · simp only [chainStarted, putExecutor, bindSlots_inputs]

/-- The end of the chain gives its slot back. -/
theorem unbound_put (own : s.slots[k] = { state := .written m, record := d }) (j : SlotId) :
    Unbound (fun h => h == g) (put s.slots k { state := .bound m g, record := d })[j] = Unbound (fun h => h == g) s.slots[j] := by
  rw [get_put]
  by_cases e : j = k
  · subst e
    rw [if_pos rfl, own]
    simp [Unbound]
  · rw [if_neg e]

end

/-- A single step with an immediate operand has no invalid form (R67). -/
theorem invalidForm_single {g : GroupId} {n : ActId} {op : Op} {v : Half} {s : State} (actuator : op.actuator = some n)
    (member : memberOf g s.actuators[n] = true) (pump : op.needsPump = true → s.actuators[n].cfg.kind = .pump)
    (zero : op = .start n → v = 0) :
    invalidForm g { op := op, operand := .imm v, pair := false, onFail := .halt, next := none } s = false := by
  have form : invalidRecord { op := op, operand := .imm v, pair := false, onFail := .halt, next := none } = false := by
    cases op with
    | start j =>
      cases actuator
      rw [zero rfl]
      rfl
    | _ => rfl
  have fits : (op.needsPump && s.actuators[n].cfg.kind == .valve) = false := by
    cases needs : op.needsPump with
    | false => rfl
    | true => rw [pump needs]; rfl
  unfold invalidForm
  rw [form, actuator]
  dsimp only
  rw [fits, member]
  rfl

/-- The entry of a pump that a STOP ramps down (R15, R33). -/
theorem stopEntry_ramp {a : Actuator} (rate : Int) (above : a.cfg.min < a.command) (limits : a.cfg.min ≤ a.cfg.max) :
    stopEntry rate a =
      { a with
        state := .stopping .rampDown, follow := none, accumulator := 0
        ramp := some { target := a.cfg.min, rateStep := rateStep a rate, origin := .stop } } := by
  have target : clampTarget { a with state := .stopping .rampDown, follow := none } a.cfg.min = a.cfg.min :=
    clampInt_of_mem (le_refl _) limits
  unfold stopEntry requestRamp
  dsimp only at target ⊢
  rw [target, if_neg (by omega), if_neg (by simp)]
  simp

/-- A step that fails at its acceptance halts the chain on it, with on-fail HALT (R79, R93). -/
theorem takeSlot_refused_halt {g : GroupId} {k : SlotId} {r : FailReason} {m : Master} {s : State}
    (fails : acceptanceFailure g s.slots[k].record.op s = some r) (onFail : s.slots[k].record.onFail = .halt)
    (holder : s.groupHolders[g] = some m) :
    takeSlot g k s =
      (setFlag m (.chainHalted g)
        (putExecutor g
          { failedAt k r .acceptance (takenAt k s.executors[g]) with state := .halted, currentAccepted := some false } s),
        none) := by
  rw [takeSlot_refused fails, failStep_halt (s := putExecutor g _ s) (by rw [putExecutor_self]; rfl) onFail holder,
    putExecutor_self, putExecutor_putExecutor]

/-- A step that fails once accepted, its plant changed, halts the chain on it, with on-fail HALT (R91, R93). -/
theorem failStep_begun_halt {g : GroupId} {k : SlotId} {r : FailReason} {m : Master} {y : Executor} {s t : State}
    (record : t.executors = put s.executors g y) (slots : t.slots = s.slots) (current : y.current = some k)
    (onFail : s.slots[k].record.onFail = .halt) (holder : t.groupHolders[g] = some m) :
    failStep g r .execution true t =
      (setFlag m (.chainHalted g)
        (putExecutor g { failedAt k r .execution y with state := .halted, currentAccepted := some true } t), none) := by
  have now : t.executors[g] = y := by rw [record, put_self]
  rw [failStep_halt (by rw [now]; exact current) (by rw [slots]; exact onFail) holder, now]

end Sys2Proof.Machine

namespace Sys2Proof
open Machine

/-- Settles O16: each clause from what `takeSlot` makes of its step. -/
theorem runChainMovesActuator : Obligations.RunChainMovesActuator := by
  unfold Obligations.RunChainMovesActuator
  intro q group slot g k n op v s hl hg hk held idle off member record own a accepted taken runs waits completes
  generalize hu : acceptFrame q.master s = u at *
  have same : u.slots = s.slots ∧ u.executors = s.executors ∧ u.actuators = s.actuators ∧ u.outputs = s.outputs ∧
      u.inputs = s.inputs ∧ u.groupHolders = s.groupHolders ∧ u.ptrip = s.ptrip ∧ u.governor = s.governor := by
    subst hu; simp
  obtain ⟨uslots, uexecutors, uactuators, uoutputs, uinputs, uholders, utrip, ugovernor⟩ := same
  have ownNow : u.slots[k] = { state := .written q.master, record := record } := by rw [uslots]; exact own
  obtain ⟨rslots, rexecutors, ractuators, routputs, rinputs, ronly⟩ := chainStarted_fields (g := g) n ownNow
  have ran : ∀ t, invalidForm g record u = false → takeSlot g k (chainStarted q.master g k [k] u) = (t, none) →
      OnlyEntry n (chainStarted q.master g k [k] u) t → runs t := fun t form step only => by
    have alone : reachable q.master g k u = .ok [k] :=
      reachable_alone (by rw [ownNow]) (by rw [ownNow]; exact form) (by rw [ownNow]; rfl)
    have all : OnlyEntry n s t := ((hu ▸ onlyEntry_acceptFrame n q.master s).trans ronly).trans only
    refine ⟨exec_servedInTime rfl hl ?_, all.cfg, all.others, all.profile, all.groupHolders, all.govHolder, all.captures,
      all.governor, all.stations, all.ptrip⟩
    rw [hu, runChainOwner_ok hg hk (by rw [uholders]; exact held) (by rw [uexecutors]; exact idle)
      (by rw [utrip]; exact off) alone, proceed_to step]
    rfl
  generalize hr : chainStarted q.master g k [k] u = r at *
  have entry : r.actuators[n] = a := by rw [ractuators, uactuators]
  have slotNow : r.slots[k].record = record := by rw [rslots, put_self]
  have holder : r.groupHolders[g] = some q.master := by rw [ronly.groupHolders, uholders]; exact held
  have acceptedNow : acceptedAt k v r.executors[g] = accepted := by rw [rexecutors, put_self, uexecutors]; rfl
  have waiting : ∀ (t : State) (x : Executor), t.slots = r.slots → t.executors = put r.executors g x → waits t x :=
    fun t x slots executors => ⟨by rw [executors, rexecutors, put_put, uexecutors], by rw [slots, rslots, uslots]⟩
  have waitsWith : ∀ w e, e.cfg = a.cfg → invalidForm g record u = false →
      takeSlot g k r = (stepWaits g n w e (acceptedAt k v r.executors[g]) r, none) →
      ∃ t, runs t ∧ waits t { accepted with waiting := some w } ∧ t.actuators[n] = supervise e ∧
        t.outputs[n].runOutput = runsOutput e := fun w e cfg form step => by
    obtain ⟨now, output⟩ := stepWaits_entry (g := g) (n := n) (s := r) w e (acceptedAt k v r.executors[g])
    refine ⟨_, ran _ form step (onlyEntry_stepWaits (by rw [entry, cfg])), waiting _ _ rfl ?_, now, by rw [output]; rfl⟩
    rw [← acceptedNow]
    rfl
  have completesWith : ∀ e, e.cfg = a.cfg → invalidForm g record u = false →
      takeSlot g k r = completeStep g (putActuator n e (putExecutor g (acceptedAt k v r.executors[g]) r)) →
      ∃ t, runs t ∧ completes t ∧ t.actuators[n] = supervise e := fun e cfg form step => by
    rw [acceptedNow] at step
    generalize ht : putActuator n e (putExecutor g accepted r) = t at step
    have slots : t.slots = r.slots := by rw [← ht]; rfl
    have executors : t.executors = put r.executors g accepted := by rw [← ht]; rfl
    have now : t.executors[g] = accepted := by rw [executors, put_self]
    have changed : OnlyEntry n r t := by
      rw [← ht]
      exact (onlyEntry_putExecutor ..).trans (onlyEntry_putActuator (cfg.trans (congrArg Actuator.cfg entry).symm))
    rw [completeStep_eq (k := k) (by rw [now]), slots, slotNow] at step
    refine ⟨endChain g .complete t, ran _ form step (changed.trans (onlyEntry_endChain_complete ..)),
      ⟨?_, fun j => ?_, endChain_flag g .complete t q.master (by rw [now])⟩, ?_⟩
    · rw [endChain_executors, now, executors, put_put, rexecutors, put_put, uexecutors]
    · rw [endChain_slots, slots, rslots, unbound_put ownNow, uslots]
    · rw [(endChain_complete_actuators g t).1, ← ht]
      exact (putActuator_self n e _).1
  have haltsWith : ∀ reason, invalidForm g record u = false → acceptanceFailure g r.slots[k].record.op r = some reason →
      ∃ t, runs t ∧ t.actuators[n] = a ∧
         waits t
           { accepted with
             state := .halted, stepCount := 0, retained := none, currentAccepted := some false
             lastFailure := some { slot := k, reason := reason, stage := .acceptance } } ∧
         flagSet q.master (.chainHalted g) t = true := fun reason form fails => by
    have step := takeSlot_refused_halt fails (by rw [slotNow]) holder
    refine ⟨_, ran _ form step ((onlyEntry_putExecutor ..).trans (onlyEntry_setFlag ..)), ?_, waiting _ _ ?_ ?_, ?_⟩
    · rw [setFlag_actuators]
      exact entry
    · rw [setFlag_slots]
      rfl
    · rw [setFlag_executors]
      refine congrArg (put r.executors g) ?_
      rw [rexecutors, put_self, uexecutors]
      rfl
    · rw [flagSet_setFlag]
      simp
  have permitted : permits r.actuators[n] r = permits a s := by rw [permits_congr (rinputs.trans uinputs), entry]
  have memberNow : memberOf g r.actuators[n] = true := by rw [entry]; exact member
  have memberThen : memberOf g u.actuators[n] = true := by rw [uactuators]; exact member
  have kindThen : u.actuators[n].cfg.kind = a.cfg.kind := by rw [uactuators]
  have stateNow : ∀ x, a.state = x → r.actuators[n].state = x := fun x h => by rw [entry]; exact h
  have operand : r.slots[k].record.operand = .imm v := by rw [slotNow]
  have opNow : ∀ x, op = x → r.slots[k].record.op = x := fun x h => by rw [slotNow]; exact h
  have form : op.actuator = some n → (op.needsPump = true → a.cfg.kind = .pump) → (op = .start n → v = 0) →
      invalidForm g record u = false := fun actuator pump zero =>
    invalidForm_single actuator memberThen (fun needs => kindThen.trans (pump needs)) zero
  refine ⟨fun e zero pump state permit proof => ?_, fun e pump state above limits => ?_, fun e pump state on => ?_,
    fun rate e state => ?_, fun rate e valve state => ?_, ?_⟩
  · obtain ⟨t, run, wait, now, output⟩ := waitsWith .runProof (startEntry false r.actuators[n]) (by rw [entry]; rfl)
      (form (by rw [e]; rfl) (fun _ => pump) fun _ => zero)
      (takeSlot_start (opNow _ e) operand memberNow (stateNow _ state) (by rw [permitted]; exact permit)
        (by rw [entry, rinputs, uinputs]; exact proof))
    rw [entry] at now output
    refine ⟨t, run, wait, ?_, ?_, ?_, output⟩
    · rw [now, supervise_state]; rfl
    · rw [now, supervise_command]; rfl
    · rw [now, supervise_proofTimer]; rfl
  · obtain ⟨t, run, wait, now, output⟩ := waitsWith .stopProof (stopEntry v.toInt r.actuators[n]) (by rw [stopEntry_cfg, entry])
      (form (by rw [e]; rfl) (fun _ => pump) fun start => by rw [e] at start; cases start)
      (takeSlot_stop (opNow _ e) operand memberNow (stateNow _ state))
    rw [entry, stopEntry_ramp v.toInt above limits] at now output
    refine ⟨t, run, wait, ?_, ?_, ?_, ?_, ?_, output⟩
    · rw [now, supervise_state]
    · rw [now, supervise_command]
    · rw [now, supervise_follow]
    · rw [now, supervise_accumulator]
    · rw [now, supervise_ramp]; rfl
  · obtain ⟨t, run, complete, now⟩ := completesWith (followEntry v.toInt r.actuators[n]) (by rw [entry]; rfl)
      (form (by rw [e]; rfl) (fun _ => pump) fun start => by rw [e] at start; cases start)
      (takeSlot_follow (opNow _ e) operand memberNow (stateNow _ state) (by rw [ronly.governor, ugovernor]; exact on))
    rw [entry] at now
    refine ⟨t, run, complete, ?_, ?_, ?_, ?_⟩
    · rw [now, supervise_follow]; rfl
    · rw [now, supervise_ramp]; rfl
    · rw [now, supervise_command]; rfl
    · rw [now, supervise_state]; exact state
  · intro target away
    obtain ⟨t, run, complete, now⟩ := completesWith (movingEntry v.toInt rate r.actuators[n]) (by rw [entry]; rfl)
      (form (by rw [e]; rfl) (fun needs => by rw [e] at needs; cases needs) fun start => by rw [e] at start; cases start)
      ((takeSlot_move (opNow _ e) operand memberNow (.inl (stateNow _ state)) (by rw [entry]; exact away)).trans
        (if_neg Bool.false_ne_true))
    rw [entry] at now
    refine ⟨t, run, complete, ?_, ?_, ?_, ?_, ?_⟩
    · rw [now, supervise_follow]; rfl
    · rw [now, supervise_accumulator]; rfl
    · rw [now, supervise_ramp]; rfl
    · rw [now, supervise_command]; rfl
    · rw [now, supervise_state]; exact (if_neg (by rw [state]; simp)).trans state
  · intro target away
    have single : invalidForm g record u = false :=
      form (by rw [e]; rfl) (fun needs => by rw [e] at needs; cases needs) fun start => by rw [e] at start; cases start
    refine ⟨fun permit => ?_, fun bar scope => ?_⟩
    · obtain ⟨t, run, complete, now⟩ := completesWith (movingEntry v.toInt rate r.actuators[n]) (by rw [entry]; rfl) single
        ((takeSlot_move (opNow _ e) operand memberNow (.inr ⟨stateNow _ state, by rw [permitted]; exact permit⟩)
          (by rw [entry]; exact away)).trans (if_neg Bool.false_ne_true))
      rw [entry] at now
      refine ⟨t, run, complete, ?_, ?_, ?_, ?_⟩
      · rw [now, supervise_accumulator]; rfl
      · rw [now, supervise_ramp]; rfl
      · rw [now, supervise_command]; rfl
      · rw [now, supervise_state]; exact if_pos state
    · have barred := takeSlot_barred (opNow _ e) operand memberNow (stateNow _ state) (by rw [permitted]; exact bar)
        (by rw [entry]; exact scope) (by rw [entry]; exact away)
      rw [acceptedNow] at barred
      have fault := firstFault_taken .permissiveLost n (putExecutor g accepted r)
      have only : OnlyEntry n r (firstFault .permissiveLost n (putExecutor g accepted r)) :=
        (onlyEntry_putExecutor ..).trans (onlyEntry_firstFault ..)
      have executors : (firstFault .permissiveLost n (putExecutor g accepted r)).executors = put r.executors g accepted :=
        firstFault_executors ..
      have slots : (firstFault .permissiveLost n (putExecutor g accepted r)).slots = r.slots := firstFault_slots ..
      generalize firstFault .permissiveLost n (putExecutor g accepted r) = t at *
      have step := barred.trans (failStep_begun_halt executors slots rfl (by rw [slotNow]) (by rw [only.groupHolders]; exact holder))
      refine ⟨_, ran _ single step (only.trans ((onlyEntry_putExecutor ..).trans (onlyEntry_setFlag ..))), ?_,
        waiting _ _ (by rw [setFlag_slots]; exact slots) ?_, ?_⟩
      · have told := fault
        obtain ⟨-, -, -, -, -, -, -, -, -, -, -, -, told⟩ := told
        refine (fault.of_before entry).of_entry (by rw [setFlag_actuators]; rfl) (by rw [setFlag_outputs]; rfl) fun m => ?_
        rw [flagSet_setFlag, Bool.or_eq_true]
        exact .inl (told m)
      · rw [setFlag_executors]
        exact (congrArg (fun x => put x g _) executors).trans (put_put ..)
      · rw [flagSet_setFlag]
        simp
  · intro refused
    refine ⟨fun e zero pump state bar => ?_, fun rate wait e state => ?_⟩
    · refine haltsWith .permissive (form (by rw [e]; rfl) (fun _ => pump) fun _ => zero) ?_
      rw [opNow _ e, acceptanceFailure_fit rfl memberNow (healthy_of_state (stateNow _ state) (by simp) (by simp))
        (by rw [suits, stateNow _ state]; rfl)]
      exact if_neg (by rw [permitted, bar]; exact Bool.false_ne_true)
    · refine haltsWith .notAvailable
        (form (by rw [e]; rfl) (fun needs => by rw [e] at needs; cases needs) fun start => by rw [e] at start; cases start) ?_
      rw [opNow _ e]
      refine acceptanceFailure_sick rfl ?_
      rw [← Bool.not_eq_true, healthy_iff]
      exact fun well => well.2 (stateNow _ state)

end Sys2Proof
end

section
/-! SUPPORT. Capture channels: a configuration, an edge and a timeout, and whom they are reported to (R153 to R164). -/

namespace Sys2Proof.Machine

/-! ### Reports (R160) -/

theorem reportTakers_congr {c : CaptureId} {completed : Bool} {s t : State} (actuators : t.actuators = s.actuators)
    (executors : t.executors = s.executors) (slots : t.slots = s.slots) :
    reportTakers c completed t = reportTakers c completed s := by
  unfold reportTakers awaitsMeasurement currentRecord
  rw [actuators, executors, slots]

theorem reportCapture_unheard {c : CaptureId} {completed : Bool} {s : State} (none : reportTakers c completed s = []) :
    reportCapture c completed s = s := by
  rw [reportCapture, none, takeInOpenOrder_nil]

theorem reportCapture_one {c : CaptureId} {completed : Bool} {k : ReportTaker} {s : State}
    (one : reportTakers c completed s = [k]) : reportCapture c completed s = takeReport c k s := by
  rw [reportCapture, one, takeInOpenOrder_singleton]

/-- A channel that no actuator names has no taker but the executors that wait on it. -/
theorem reportTakers_unnamed {c : CaptureId} {s : State}
    (unnamed : ∀ n : ActId, s.actuators[n].cfg.feedback.map FeedbackConfig.channel ≠ some c) : reportTakers c false s = [] := by
  unfold reportTakers
  rw [List.append_eq_nil_iff]
  refine ⟨?_, rfl⟩
  rw [List.map_eq_nil_iff, List.filter_eq_nil_iff]
  intro n _ names
  split at names
  next f named => exact unnamed n (by rw [named]; exact congrArg some (beq_iff_eq.1 names))
  next => cases names

theorem feedbackFrom_eq (x : Capture) :
    feedbackFrom x = { value := if 10000 < x.value then 10000 else x.value, status := x.status } := by
  unfold feedbackFrom clampNat
  rw [if_neg (Nat.not_lt_zero _)]

/-- The entry of an actuator with feedback taken from a channel (R18). -/
def fedEntry (x : Capture) (a : Actuator) : Actuator := { a with feedback := some (feedbackFrom x) }

/-- A report to one actuator that no executor waits on (R18, R160). -/
theorem reportCapture_alone {c : CaptureId} {completed : Bool} {n : ActId} {s : State}
    (one : reportTakers c completed s = [.actuator n]) (alone : Unattended n s) :
    reportCapture c completed s =
      if s.actuators[n].feedback = some (feedbackFrom s.captures[c]) then s
      else putActuator n (fedEntry s.captures[c] s.actuators[n]) s := by
  have kept : Unattended n (putActuator n (fedEntry s.captures[c] s.actuators[n]) s) := alone.putActuator rfl
  have quiet := (reports_unattended kept .none).2.1
  rw [reportCapture_one one]
  unfold takeReport
  dsimp only
  split
  · rfl
  · exact quiet

/-! ### CONFIGURE CAPTURE (R161, R163) -/

theorem captureInUse_iff {c : CaptureId} {s : State} :
    captureInUse c s = true ↔
      ∃ n : ActId, s.actuators[n].state ≠ .outOfService ∧
        s.actuators[n].cfg.feedback.map FeedbackConfig.channel = some c := by
  unfold captureInUse inService
  rw [List.any_eq_true]
  simp only [Bool.and_eq_true, bne_iff_ne]
  refine exists_congr fun n => ?_
  rw [and_iff_right (mem_allActuators n)]
  refine and_congr_right fun _ => ?_
  cases s.actuators[n].cfg.feedback with
  | none => simp
  | some f => simp

theorem configureCaptureOwner_inUse {r : RawCapture} {c : CaptureId} {w : CaptureWrite} {s : State}
    (channel : index? 16 r.channel = some c) (write : captureWrite? r = some w) (used : captureInUse c s = true) :
    configureCaptureOwner r s = refuse .inUse s := by
  unfold configureCaptureOwner
  rw [channel, write]
  exact if_pos used

theorem configureCaptureOwner_unnamed {r : RawCapture} {c : CaptureId} {w : CaptureWrite} {s : State}
    (channel : index? 16 r.channel = some c) (write : captureWrite? r = some w)
    (unnamed : ∀ n : ActId, s.actuators[n].cfg.feedback.map FeedbackConfig.channel ≠ some c) :
    configureCaptureOwner r s = (putCapture c (writeCapture w s.captures[c]) s, .ok []) := by
  have free : ¬ captureInUse c s = true := fun used => by
    obtain ⟨n, -, names⟩ := captureInUse_iff.1 used
    exact unnamed n names
  have silent : reportCapture c false (putCapture c (writeCapture w s.captures[c]) s) =
      putCapture c (writeCapture w s.captures[c]) s := reportCapture_unheard (reportTakers_unnamed unnamed)
  unfold configureCaptureOwner
  rw [channel, write]
  dsimp only
  rw [if_neg free, silent, ite_self]

/-- The value that a channel takes as its mode changes (R161). -/
theorem offsetValue_or (x : Capture) (p : Prop) [Decidable p] :
    (if p then offsetValue x else 0) = if p ∧ 0 ≤ x.offset.toInt then x.offset.toInt.toNat else 0 := by
  rw [offsetValue_eq]
  by_cases h : p
  · simp only [h, true_and, if_true]
    split_ifs <;> omega
  · simp only [h, false_and, if_false]

theorem captureExpiry_still {c : CaptureId} {s : State} (early : s.captures[c].timer ≠ some 0) : captureExpiry c s = s := by
  unfold captureExpiry
  split
  next due => exact absurd due early
  next => rfl

/-! ### Timeouts (R157, R159) -/

theorem captureExpiry_due {c : CaptureId} {s : State} (due : s.captures[c].timer = some 0) :
    captureExpiry c s = timeOutCapture c s := by
  unfold captureExpiry
  rw [due] <;> rfl

theorem timeOutCapture_unnamed {c : CaptureId} {s : State}
    (unnamed : ∀ n : ActId, s.actuators[n].cfg.feedback.map FeedbackConfig.channel ≠ some c) :
    timeOutCapture c s = putCapture c (timedOut s.captures[c]) s := by
  have silent : reportCapture c false (putCapture c (timedOut s.captures[c]) s) = putCapture c (timedOut s.captures[c]) s :=
    reportCapture_unheard (reportTakers_unnamed unnamed)
  unfold timeOutCapture
  dsimp only
  rw [silent, ite_self]

theorem spanOverflow_due {c : CaptureId} {s : State} (inside : s.captures[c].phase ≠ .waitEdge)
    (late : 16777216 ≤ s.captures[c].age) : spanOverflow c s = timeOutCapture c s := by
  unfold spanOverflow
  split
  next waits => exact absurd waits inside
  next => exact if_pos late

theorem spanOverflow_still {c : CaptureId} {s : State}
    (early : s.captures[c].phase = .waitEdge ∨ s.captures[c].age < 16777216) : spanOverflow c s = s := by
  unfold spanOverflow
  split
  next => rfl
  next inside => exact if_neg (Nat.not_le.2 (early.resolve_left inside))

/-! ### Edges (R154 to R156) -/

/-- A channel with the level of its pin. -/
def pinned (level : Bool) (x : Capture) : Capture := { x with input := { x.input with level := level } }

theorem spanOf_eq (start stamp : Stamp) : spanOf start stamp = (stamp.toNat + 16777216 - start.toNat) % 16777216 := by
  have := start.isLt
  have := stamp.isLt
  rw [spanOf, BitVec.toNat_sub]
  omega

section
variable {c : CaptureId} {stamp : Stamp} {rising : Bool} {s : State}

/-- An edge that the channel does not see (R154). -/
theorem takeEdge_unseen
    (unseen : s.captures[c].mode = .off ∨ s.captures[c].sample = rising ∨ s.captures[c].edge = some stamp) :
    takeEdge c rising stamp s = putCapture c (pinned rising s.captures[c]) { s with counter := stamp } := by
  have blind : ¬ seesEdge rising stamp (pinned rising s.captures[c]) = true := by
    unfold seesEdge pinned
    simp only [Bool.and_eq_true, bne_iff_ne]
    rintro ⟨⟨mode, sample⟩, edge⟩
    rcases unseen with e | e | e
    · exact mode e
    · exact sample e
    · exact edge e
  exact if_neg blind

theorem takeEdge_seen (mode : s.captures[c].mode ≠ .off) (sample : s.captures[c].sample = !rising)
    (edge : s.captures[c].edge ≠ some stamp) :
    takeEdge c rising stamp s =
      let x := pinned rising s.captures[c]
      let r := edgeResult (Config.freeRaw s.freeCount) rising stamp (withEdge rising stamp x)
      let t := putCapture c r.channel
        { s with counter := stamp, freeCount := if rising && meetsOverflow stamp x then s.freeCount + 1 else s.freeCount }
      if r.completed then reportCapture c true t else t := by
  have sees : seesEdge rising stamp (pinned rising s.captures[c]) = true := by
    unfold seesEdge pinned
    simp only [Bool.and_eq_true, bne_iff_ne]
    exact ⟨⟨mode, by rw [sample]; cases rising <;> simp⟩, edge⟩
  exact if_pos sees

/-- A falling edge completes nothing (R155, R156). -/
theorem takeEdge_falling (mode : s.captures[c].mode ≠ .off) (sample : s.captures[c].sample = true)
    (edge : s.captures[c].edge ≠ some stamp) :
    takeEdge c false stamp s =
      putCapture c (fallingEdge stamp (withEdge false stamp (pinned false s.captures[c]))) { s with counter := stamp } :=
  takeEdge_seen mode (by rw [sample]; rfl) edge

/-- A rising edge that completes no measurement. -/
theorem takeEdge_rising {y : Capture} (mode : s.captures[c].mode ≠ .off) (sample : s.captures[c].sample = false)
    (edge : s.captures[c].edge ≠ some stamp) (early : meetsOverflow stamp (pinned true s.captures[c]) = false)
    (goesOn : risingEdge (Config.freeRaw s.freeCount) stamp (withEdge true stamp (pinned true s.captures[c])) =
      { channel := y, completed := false }) :
    takeEdge c true stamp s = putCapture c y { s with counter := stamp } := by
  rw [takeEdge_seen mode (by rw [sample]; rfl) edge]
  dsimp only
  rw [edgeResult, if_pos rfl, goesOn, early]
  rfl

/-- A rising edge that completes a measurement is reported (R160). -/
theorem takeEdge_completes {phase : CapturePhase} {raw : Nat} (mode : s.captures[c].mode ≠ .off)
    (sample : s.captures[c].sample = false) (edge : s.captures[c].edge ≠ some stamp)
    (completes : risingEdge (Config.freeRaw s.freeCount) stamp (withEdge true stamp (pinned true s.captures[c])) =
      measurementCompleted phase raw (withEdge true stamp (pinned true s.captures[c]))) :
    takeEdge c true stamp s =
      reportCapture c true (putCapture c
        (measurementCompleted phase raw (withEdge true stamp (pinned true s.captures[c]))).channel
        { s with
          counter := stamp
          freeCount := if meetsOverflow stamp (pinned true s.captures[c]) then s.freeCount + 1 else s.freeCount }) := by
  rw [takeEdge_seen mode (by rw [sample]; rfl) edge]
  dsimp only
  rw [edgeResult, if_pos rfl, completes, Bool.true_and]
  exact if_pos rfl

end

theorem spanOf_ne_zero {start stamp : Stamp} (h : start ≠ stamp) : spanOf start stamp ≠ 0 := by
  have := start.isLt
  have := stamp.isLt
  have apart : start.toNat ≠ stamp.toNat := fun e => h (BitVec.eq_of_toNat_eq e)
  rw [spanOf_eq]
  omega

theorem fallingEdge_high {start stamp : Stamp} {x : Capture} (mode : x.mode = .duty) (phase : x.phase = .high start)
    (apart : start ≠ stamp) : fallingEdge stamp x = { x with phase := .low start (spanOf start stamp) } := by
  unfold fallingEdge
  rw [mode, phase]
  exact if_neg (spanOf_ne_zero apart)

theorem fallingEdge_frequency {stamp : Stamp} {x : Capture} (mode : x.mode = .frequency) : fallingEdge stamp x = x := by
  unfold fallingEdge
  rw [mode]

section
variable {free : Nat} {stamp start : Stamp} {x : Capture}

theorem risingEdge_begins (waits : x.phase = .waitEdge) :
    (x.mode = .frequency → risingEdge free stamp x =
      { channel := restartTimeout { x with phase := .counting 0 stamp, age := 0 }, completed := false }) ∧
    (x.mode = .duty → risingEdge free stamp x =
      { channel := restartTimeout { x with phase := .high stamp, age := 0 }, completed := false }) := by
  constructor <;> intro mode <;> (unfold risingEdge; rw [mode, waits])

theorem meetsOverflow_waitEdge (waits : x.phase = .waitEdge) : meetsOverflow stamp x = false := by
  unfold meetsOverflow
  rw [waits]
  cases x.mode <;> rfl

theorem meetsOverflow_counting {seen : Nat} (mode : x.mode = .frequency) (phase : x.phase = .counting seen start) :
    meetsOverflow stamp x = true ↔
      x.prescale ≤ seen + 1 ∧ spanOf start stamp < 2 * x.prescale ∧ 16777216 ≤ x.age := by
  unfold meetsOverflow
  rw [mode, phase]
  simp only [Bool.and_eq_true, decide_eq_true_eq, and_assoc]
  exact Iff.rfl

theorem meetsOverflow_low {high : Nat} (mode : x.mode = .duty) (phase : x.phase = .low start high) :
    meetsOverflow stamp x = true ↔ spanOf start stamp ≤ high ∧ 16777216 ≤ x.age := by
  unfold meetsOverflow
  rw [mode, phase]
  simp only [Bool.and_eq_true, decide_eq_true_eq]
  exact Iff.rfl

theorem risingEdge_counting {seen : Nat} (mode : x.mode = .frequency) (phase : x.phase = .counting seen start) :
    risingEdge free stamp x =
      if seen + 1 < x.prescale then
        { channel := restartTimeout { x with phase := .counting (seen + 1) start }, completed := false }
      else if meetsOverflow stamp x then measurementCompleted (.counting 0 stamp) (free % 10000001) x
      else if spanOf start stamp < 2 * x.prescale then { channel := x, completed := false }
      else measurementCompleted (.counting 0 stamp)
        ((10000000 * x.prescale + spanOf start stamp / 2) / spanOf start stamp) x := by
  unfold risingEdge
  rw [mode, phase]

theorem risingEdge_low {high : Nat} (mode : x.mode = .duty) (phase : x.phase = .low start high) :
    risingEdge free stamp x =
      if meetsOverflow stamp x then measurementCompleted (.high stamp) (free % 10001) x
      else if spanOf start stamp ≤ high then { channel := x, completed := false }
      else measurementCompleted (.high stamp) ((high * 10000 + spanOf start stamp / 2) / spanOf start stamp) x := by
  unfold risingEdge
  rw [mode, phase]

end

/-- A frequency measurement whose span is long enough completes (R155, R158). -/
theorem takeEdge_frequency {c : CaptureId} {stamp start : Stamp} {seen : Nat} {s : State}
    (mode : s.captures[c].mode = .frequency) (sample : s.captures[c].sample = false)
    (edge : s.captures[c].edge ≠ some stamp) (phase : s.captures[c].phase = .counting seen start)
    (scale : s.captures[c].prescale = seen + 1) (long : 2 * s.captures[c].prescale ≤ spanOf start stamp) :
    takeEdge c true stamp s =
      reportCapture c true (putCapture c
        (measurementCompleted (.counting 0 stamp)
          ((10000000 * s.captures[c].prescale + spanOf start stamp / 2) / spanOf start stamp)
          (withEdge true stamp (pinned true s.captures[c]))).channel { s with counter := stamp }) := by
  have early : ∀ y : Capture, y.mode = s.captures[c].mode → y.phase = s.captures[c].phase →
      y.prescale = s.captures[c].prescale → ¬ meetsOverflow stamp y = true := fun y m p n => by
    rw [meetsOverflow_counting (m.trans mode) (p.trans phase), n]
    omega
  have completes := risingEdge_counting (free := Config.freeRaw s.freeCount) (stamp := stamp)
    (x := withEdge true stamp (pinned true s.captures[c])) mode phase
  rw [if_neg (by have : (withEdge true stamp (pinned true s.captures[c])).prescale = seen + 1 := scale
                 omega), if_neg (early (withEdge true stamp (pinned true s.captures[c])) rfl rfl rfl),
    if_neg (show ¬ spanOf start stamp < 2 * (withEdge true stamp (pinned true s.captures[c])).prescale from Nat.not_lt.2 long)]
    at completes
  rw [takeEdge_completes (by rw [mode]; simp) sample edge completes,
    if_neg (early (pinned true s.captures[c]) rfl rfl rfl)]
  rfl

/-- What is reported of a measurement at once completed is heard by nothing where the channel is one that nothing hears. -/
theorem reportCapture_of_unheard {c : CaptureId} {y : Capture} {stamp : Stamp} {k : Nat} {s : State} (h : Unheard c s) :
    reportCapture c true (putCapture c y { s with counter := stamp, freeCount := k }) =
      putCapture c y { s with counter := stamp, freeCount := k } :=
  reportCapture_unheard ((reportTakers_congr rfl rfl rfl).trans h)

end Sys2Proof.Machine

namespace Sys2Proof
open Machine

/-- Settles O33. -/
theorem configureCaptureAccepted : Obligations.ConfigureCaptureAccepted := by
  unfold Obligations.ConfigureCaptureAccepted
  intro q r c w s hl channel write u x written timer
  have captures : u.captures = s.captures := acceptFrame_captures q.master s
  have actuators : u.actuators = s.actuators := acceptFrame_actuators q.master s
  refine ⟨fun used => exec_served rfl hl (configureCaptureOwner_inUse channel write ?_), fun unnamed => ?_⟩
  · rw [captureInUse_iff, actuators]
    exact used
  · have done : exec (.configureCapture q r) s =
        .next (respond q 0x51 (putCapture c (writeCapture w u.captures[c]) u, .ok [])) :=
      exec_served rfl hl (configureCaptureOwner_unnamed channel write (by rwa [actuators]))
    refine ⟨done.trans ?_, fun t after => ?_⟩
    · have kept : u.captures[c] = x := by rw [captures]
      rw [kept, writeCapture]
      dsimp only
      rw [offsetValue_or]
      rfl
    · rw [done] at after
      cases after
      refine congrArg Host.Outcome.next (captureExpiry_still ?_)
      have field : (respond q 0x51 (putCapture c (writeCapture w u.captures[c]) u, Reply.ok [])).captures[c] =
          writeCapture w u.captures[c] := by
        unfold respond
        rw [setPort_captures]
        exact put_self ..
      rw [field]
      exact writeCapture_timer w _ (captureWrite?_timeout r w write).1

/-- Settles O34. -/
theorem completedMeasurements : Obligations.CompletedMeasurements := by
  unfold Obligations.CompletedMeasurements
  intro c stamp s x pin took after
  refine ⟨fun rising unseen => ?_, fun edge sample mode start phase other => ?_, fun edge sample mode => ?_,
    fun edge sample => ?_⟩
  · have unseenNow := takeEdge_unseen (rising := rising) unseen
    refine ⟨congrArg Host.Outcome.next unseenNow, fun up => ?_⟩
    subst up
    exact ⟨congrArg Host.Outcome.next unseenNow, congrArg Host.Outcome.next unseenNow⟩
  · refine congrArg Host.Outcome.next ((takeEdge_falling (by rw [mode]; simp) sample edge).trans ?_)
    rw [fallingEdge_high (x := withEdge false stamp (pinned false s.captures[c])) mode phase other, spanOf_eq]
    rfl
  · refine congrArg Host.Outcome.next ((takeEdge_falling (by rw [mode]; simp) sample edge).trans ?_)
    rw [fallingEdge_frequency (x := withEdge false stamp (pinned false s.captures[c])) mode]
    rfl
  · intro begun
    have rising : ∀ y, x.mode ≠ .off → meetsOverflow stamp (pinned true x) = false →
        risingEdge (Config.freeRaw s.freeCount) stamp (withEdge true stamp (pinned true x)) =
          { channel := y, completed := false } →
        exec (.captureEdge c true stamp) s = .next (after y) := fun y on early step =>
      congrArg Host.Outcome.next (takeEdge_rising on sample edge early step)
    refine ⟨fun mode waits => ?_, fun mode waits => ?_, fun seen start mode phase more => ?_, fun unheard start => ?_⟩
    · exact rising _ (by rw [mode]; simp) (meetsOverflow_waitEdge waits)
        ((risingEdge_begins (x := withEdge true stamp (pinned true x)) waits).1 mode)
    · exact rising _ (by rw [mode]; simp) (meetsOverflow_waitEdge waits)
        ((risingEdge_begins (x := withEdge true stamp (pinned true x)) waits).2 mode)
    · refine rising _ (by rw [mode]; simp) ?_
        ((risingEdge_counting (x := withEdge true stamp (pinned true x)) mode phase).trans (if_pos more))
      rw [← Bool.not_eq_true, meetsOverflow_counting (x := pinned true x) mode phase]
      exact fun meets => Nat.not_lt.2 meets.1 more
    · intro span measured
      have spanEq : spanOf start stamp = span := spanOf_eq ..
      have completed : ∀ raw phase k,
          reportCapture c true (putCapture c
            (measurementCompleted phase raw (withEdge true stamp (pinned true x))).channel
              { s with counter := stamp, freeCount := k }) = { measured raw phase with freeCount := k } := fun raw phase k => by
        rw [reportCapture_of_unheard unheard]
        rfl
      refine ⟨fun seen mode phase scale long => ?_, fun seen mode phase scale short late => ?_,
        fun high mode phase short late => ?_, fun high mode phase pos long => ⟨?_, ?_⟩⟩
      · have taken := takeEdge_frequency mode sample edge phase scale (by rw [spanEq]; exact long)
        rw [spanEq] at taken
        exact congrArg Host.Outcome.next (taken.trans (completed _ _ s.freeCount))
      · have meets : ∀ y : Capture, y.mode = x.mode → y.phase = x.phase → y.prescale = x.prescale → y.age = x.age →
            meetsOverflow stamp y = true := fun y m p n a => by
          rw [meetsOverflow_counting (m.trans mode) (p.trans phase), n, a, spanEq]
          exact ⟨by omega, short, late⟩
        have step := risingEdge_counting (free := Config.freeRaw s.freeCount) (stamp := stamp)
          (x := withEdge true stamp (pinned true x)) mode phase
        rw [if_neg (show ¬ seen + 1 < (withEdge true stamp (pinned true x)).prescale from fun more => by
            rw [show (withEdge true stamp (pinned true x)).prescale = seen + 1 from scale] at more
            omega), if_pos (meets (withEdge true stamp (pinned true x)) rfl rfl rfl rfl)]
          at step
        have taken := takeEdge_completes (by rw [mode]; simp) sample edge step
        rw [if_pos (meets (pinned true x) rfl rfl rfl rfl), completed] at taken
        exact ⟨Config.freeRaw s.freeCount % 10000001, by omega, congrArg Host.Outcome.next taken⟩
      · have meets : ∀ y : Capture, y.mode = x.mode → y.phase = x.phase → y.age = x.age →
            meetsOverflow stamp y = true := fun y m p a => by
          rw [meetsOverflow_low (m.trans mode) (p.trans phase), a, spanEq]
          exact ⟨short, late⟩
        have step := risingEdge_low (free := Config.freeRaw s.freeCount) (stamp := stamp)
          (x := withEdge true stamp (pinned true x)) mode phase
        rw [if_pos (meets (withEdge true stamp (pinned true x)) rfl rfl rfl)] at step
        have taken := takeEdge_completes (by rw [mode]; simp) sample edge step
        rw [if_pos (meets (pinned true x) rfl rfl rfl), completed] at taken
        exact ⟨Config.freeRaw s.freeCount % 10001, by omega, congrArg Host.Outcome.next taken⟩
      · exact Nat.lt_succ_iff.1 ((Nat.div_lt_iff_lt_mul (by omega)).2 (by omega))
      · have early : ∀ y : Capture, y.mode = x.mode → y.phase = x.phase → ¬ meetsOverflow stamp y = true := fun y m p => by
          rw [meetsOverflow_low (m.trans mode) (p.trans phase), spanEq]
          exact fun meets => Nat.not_le.2 long meets.1
        have step := risingEdge_low (free := Config.freeRaw s.freeCount) (stamp := stamp)
          (x := withEdge true stamp (pinned true x)) mode phase
        rw [if_neg (early (withEdge true stamp (pinned true x)) rfl rfl), spanEq, if_neg (Nat.not_le.2 long)] at step
        have taken := takeEdge_completes (by rw [mode]; simp) sample edge step
        rw [if_neg (early (pinned true x) rfl rfl), completed] at taken
        exact congrArg Host.Outcome.next taken

/-- Settles O35. -/
theorem captureTimeouts : Obligations.CaptureTimeouts := by
  unfold Obligations.CaptureTimeouts
  refine ⟨fun c s unnamed => ?_, fun c n f s due signal takers alone named lost known => ?_, ?_⟩
  · intro x abandoned
    have gone : timeOutCapture c s = abandoned := by
      rw [timeOutCapture_unnamed unnamed, timedOut, offsetValue_eq]
      rfl
    exact ⟨fun due => congrArg Host.Outcome.next ((captureExpiry_due due).trans gone),
      fun inside late => congrArg Host.Outcome.next ((spanOverflow_due inside late).trans gone),
      fun early => congrArg Host.Outcome.next (captureExpiry_still early),
      fun early => congrArg Host.Outcome.next (spanOverflow_still early)⟩
  · have channel : (putCapture c (timedOut s.captures[c]) s).captures[c] = timedOut s.captures[c] := put_self ..
    have reported := reportCapture_alone (s := putCapture c (timedOut s.captures[c]) s)
      ((reportTakers_congr rfl rfl rfl).trans takers) alone
    have other : s.actuators[n].feedback ≠ some (feedbackFrom (timedOut s.captures[c])) := by
      obtain ⟨v, held, ok⟩ := known
      rw [held]
      intro e
      rw [Option.some.inj e] at ok
      exact ok rfl
    rw [channel] at reported
    have gone : captureExpiry c s = putActuator n (fedEntry (timedOut s.captures[c]) s.actuators[n])
        (putCapture c (timedOut s.captures[c]) s) := by
      rw [captureExpiry_due due]
      exact (if_pos (.inl signal)).trans (reported.trans (if_neg other))
    obtain ⟨entry, -⟩ := putActuator_self n (fedEntry (timedOut s.captures[c]) s.actuators[n])
      (putCapture c (timedOut s.captures[c]) s)
    have value : (putActuator n (fedEntry (timedOut s.captures[c]) s.actuators[n])
      (putCapture c (timedOut s.captures[c]) s)).captures[c] = timedOut s.captures[c] := channel
    obtain ⟨deviation, lostNow⟩ := supervise_noSignal (b := fedEntry (timedOut s.captures[c]) s.actuators[n]) lost
      fun _ _ => ⟨_, rfl, rfl⟩
    have configured : (fedEntry (timedOut s.captures[c]) s.actuators[n]).cfg.feedback = some f := named
    rw [configured] at lostNow
    refine ⟨_, congrArg Host.Outcome.next gone, by rw [value]; rfl, ?_, ?_, ?_, ?_, ?_, fun k other => ?_⟩
    · rw [entry, supervise_feedback, value, fedEntry, feedbackFrom_eq]
      rfl
    · rw [entry, deviation]
    · rw [entry, lostNow]
      dsimp only [fedEntry]
      by_cases well : healthy s.actuators[n] = true
      · obtain ⟨out, faulted⟩ := healthy_iff.1 well
        exact (if_neg (by rintro (e | e); exacts [out e, faulted e])).trans (if_pos well).symm
      · have sick := well
        rw [healthy_iff, not_and_or, not_not, not_not] at sick
        exact (if_pos sick).trans (if_neg well).symm
    · rw [entry, supervise_command]; rfl
    · rw [entry, supervise_state]; rfl
    · exact (putActuator_other other _ _).1
  · intro c n seen start stamp s takers alone x a mode sample edge phase scale long
    have taken := takeEdge_frequency mode sample edge phase scale (by rw [spanOf_eq]; exact long)
    generalize hy : (measurementCompleted (.counting 0 stamp)
      ((10000000 * s.captures[c].prescale + spanOf start stamp / 2) / spanOf start stamp)
      (withEdge true stamp (pinned true s.captures[c]))).channel = y at taken
    have measured : y.status ≠ .noSignal := by
      rw [← hy]
      show (if _ then CaptureStatus.overrange else .ok) ≠ .noSignal
      split <;> simp
    have channel : (putCapture c y { s with counter := stamp }).captures[c] = y := put_self ..
    have reported := reportCapture_alone (s := putCapture c y { s with counter := stamp })
      ((reportTakers_congr rfl rfl rfl).trans takers) alone
    rw [channel] at reported
    by_cases same : a.feedback = some (feedbackFrom y)
    · have after := taken.trans (reported.trans (if_pos same))
      refine ⟨_, congrArg Host.Outcome.next after, by rw [channel]; exact measured, ?_⟩
      intro w
      refine ⟨fun _ => ⟨rfl, rfl⟩, fun differs => absurd ?_ differs, rfl, rfl⟩
      rw [same, feedbackFrom_eq]
      simp only [w, channel]
    · have after := taken.trans (reported.trans (if_neg same))
      obtain ⟨entry, supervised, -, -, only⟩ := putActuator_seen (n := n) (s := putCapture c y { s with counter := stamp })
        (a := fedEntry y s.actuators[n]) rfl rfl
      have value : (putActuator n (fedEntry y s.actuators[n]) (putCapture c y { s with counter := stamp })).captures[c] = y :=
        channel
      refine ⟨putActuator n (fedEntry y s.actuators[n]) (putCapture c y { s with counter := stamp }),
        congrArg Host.Outcome.next after, by rw [value]; exact measured, ?_⟩
      intro w
      have read : w = feedbackFrom y := by
        rw [feedbackFrom_eq]
        simp only [w, value]
      rw [read]
      exact ⟨fun e => absurd e same, fun _ => ⟨entry, supervised, only.1⟩, rfl, rfl⟩

end Sys2Proof
end

section
/-! SUPPORT. A step that waits, and the report it waits for (R25, R81 to R93). -/

namespace Sys2Proof.Machine

section
variable {g : GroupId} {k : SlotId} {n : ActId} {s t : State}

/-- What a completed step leaves of a state `s` in which it is the current one (R90). -/
structure CompletedFrom (g : GroupId) (k : SlotId) (s t : State) : Prop where
  atEnd : s.slots[k].record.next = none →
    t.executors = put s.executors g (Ended .complete s.executors[g]) ∧
      (∀ j : SlotId, t.slots[j] = Unbound (fun h => h == g) s.slots[j]) ∧
      ∀ m, s.executors[g].starter = some m → flagSet m (.chainEnd g) t = true
  onward : ∀ j v, s.slots[k].record.next = some j → DwellAt j v s →
    t.slots = s.slots ∧ t.executors = put s.executors g (EnteredDwell j v s.executors[g])

/-- The current step's next is END, or a slot that holds a DWELL. -/
def GoesOnto (k : SlotId) (s : State) : Prop :=
  s.slots[k].record.next = none ∨ ∃ j v, s.slots[k].record.next = some j ∧ DwellAt j v s

theorem dwellAt_congr (slots : t.slots = s.slots) {j : SlotId} {v : Half} (h : DwellAt j v s) : DwellAt j v t := by
  unfold DwellAt
  rwa [slots]

/-- A completion in a state that has the chain records and the slots of `s`. -/
theorem completedFrom (executors : t.executors = s.executors) (slots : t.slots = s.slots)
    (current : s.executors[g].current = some k) : CompletedFrom g k s (completeAndProceed g t) where
  atEnd last := by
    rw [completeAndProceed_end (by rw [executors]; exact current) (by rw [slots]; exact last), endChain_executors, executors]
    refine ⟨rfl, fun j => ?_, fun m starter => endChain_flag g .complete t m (by rw [executors]; exact starter)⟩
    rw [endChain_slots, slots]
  onward j v next dwell := by
    rw [completeAndProceed_dwell (by rw [executors]; exact current) (by rw [slots]; exact next) (dwellAt_congr slots dwell),
      executors]
    exact ⟨slots, congrArg (fun x => put x g _) executors⟩

/-- A completion leaves the plant and the field alone. -/
theorem completeAndProceed_plant (executors : t.executors = s.executors) (slots : t.slots = s.slots)
    (current : s.executors[g].current = some k) (onto : GoesOnto k s) :
    (completeAndProceed g t).actuators = t.actuators ∧ (completeAndProceed g t).captures = t.captures := by
  rcases onto with last | ⟨j, v, next, dwell⟩
  · rw [completeAndProceed_end (by rw [executors]; exact current) (by rw [slots]; exact last)]
    exact ⟨(endChain_complete_actuators g t).1, (around_endChain g .complete t).captures⟩
  · rw [completeAndProceed_dwell (by rw [executors]; exact current) (by rw [slots]; exact next) (dwellAt_congr slots dwell)]
    exact ⟨rfl, rfl⟩

theorem waitsOn_iff {w : Waiting} (active : s.executors[g].state = .active) (current : s.executors[g].current = some k)
    (actuator : s.slots[k].record.op.actuator = some n) : waitsOn g n w s = true ↔ s.executors[g].waiting = some w := by
  unfold waitsOn currentRecord
  rw [current]
  simp only [active, actuator, beq_self_eq_true, Bool.true_and, Bool.and_true, beq_iff_eq]

theorem waitsOn_congr {w : Waiting} (executors : t.executors = s.executors) (slots : t.slots = s.slots) :
    waitsOn g n w t = waitsOn g n w s := by
  unfold waitsOn currentRecord
  rw [executors, slots]

/-! ### Reports of an actuator -/

theorem reportStarted_waiting (group : s.actuators[n].cfg.group = some g) (waits : waitsOn g n .runProof s = true) :
    reportStarted n s = completeAndProceed g s := by
  unfold reportStarted
  rw [group]
  exact if_pos waits

theorem reportStopped_waiting (group : s.actuators[n].cfg.group = some g) (waits : waitsOn g n .stopProof s = true) :
    reportStopped n s = completeAndProceed g s := by
  unfold reportStopped
  rw [group]
  exact if_pos waits

theorem reportFeedback_waiting (group : s.actuators[n].cfg.group = some g) (waits : waitsOn g n .feedback s = true) :
    reportFeedback n s = if feedbackReached s.actuators[n] (retainedTarget g s) then completeAndProceed g s else s := by
  unfold reportFeedback
  rw [group]
  dsimp only
  rw [waits, Bool.true_and]

theorem reportLanded_waiting (group : s.actuators[n].cfg.group = some g) (waits : waitsOn g n .landing s = true) :
    reportLanded n s =
      if feedbackReached s.actuators[n] (retainedTarget g s) then completeAndProceed g s
      else waitFor g .feedback none s := by
  unfold reportLanded
  rw [group]
  dsimp only
  rw [if_pos waits, afterLanding]
  split
  · rfl
  · rfl

theorem reportLanded_still (group : s.actuators[n].cfg.group = some g) (waits : waitsOn g n .landing s = false) :
    reportLanded n s = s := by
  unfold reportLanded
  rw [group]
  dsimp only
  rw [if_neg (by rw [waits]; exact Bool.false_ne_true)]

/-- A fault's report to a step that waits on the actuator (R25). -/
theorem reportFault_waiting (group : s.actuators[n].cfg.group = some g) (active : s.executors[g].state = .active)
    (current : s.executors[g].current = some k) (actuator : s.slots[k].record.op.actuator = some n) {w : Waiting}
    (waiting : s.executors[g].waiting = some w)
    (fit : w = .runProof ∨ w = .stopProof ∨ w = .landing ∨ w = .feedback) (code : FaultCode) :
    reportFault n code s = failAndProceed g (faultReason w code) s := by
  have waits : ∀ v, waitsOn g n v s = decide (w = v) := fun v => by
    rw [Bool.eq_iff_iff, waitsOn_iff active current actuator, waiting, decide_eq_true_eq, Option.some.injEq]
  unfold reportFault
  rw [group]
  dsimp only
  rw [waits, waits, waits, waits]
  rcases fit with e | e | e | e <;> subst e <;> rfl

theorem retainedTarget_of {v : Retained} (retained : s.executors[g].retained = some v) : retainedTarget g s = v.first.toInt := by
  unfold retainedTarget
  rw [retained]

theorem feedbackReached_congr {a b : Actuator} (cfg : b.cfg = a.cfg) (feedback : b.feedback = a.feedback) (x : Int) :
    feedbackReached b x = feedbackReached a x := by
  unfold feedbackReached clampTarget
  rw [cfg, feedback]

theorem feedbackReached_none {a : Actuator} (none : a.cfg.feedback = none) (x : Int) : feedbackReached a x = true := by
  unfold feedbackReached
  rw [none]

theorem feedbackReached_some {a : Actuator} {f : FeedbackConfig} {w : Feedback} (named : a.cfg.feedback = some f)
    (held : a.feedback = some w) (x : Int) :
    feedbackReached a x = true ↔ w.status ≠ .noSignal ∧ distance w.value (clampTarget a x) ≤ f.tolerance := by
  unfold feedbackReached
  rw [named, held]
  simp only [Bool.and_eq_true, bne_iff_ne, decide_eq_true_eq]

/-- The report of a landing to a MOVE that waits for it (R81). -/
theorem slewTick_waiting {r : Ramp} {v : Retained} (group : s.actuators[n].cfg.group = some g)
    (waits : waitsOn g n .landing s = true) (retained : s.executors[g].retained = some v)
    (ramp : s.actuators[n].ramp = some r)
    (reached : distance r.target s.actuators[n].command ≤ (s.actuators[n].accumulator + r.rateStep) / 64) :
    slewTick n s =
      let t := putActuator n (landRamp r.target (ticking s.actuators[n])) s
      if feedbackReached s.actuators[n] v.first.toInt then completeAndProceed g t else waitFor g .feedback none t := by
  have landed := slewTick_ramp ramp
  rw [stepRamp_lands (a := ticking s.actuators[n]) reached] at landed
  dsimp only at landed ⊢
  rw [if_pos rfl] at landed
  obtain ⟨entry, -⟩ := putActuator_self n (landRamp r.target (ticking s.actuators[n])) s
  have cfg : (putActuator n (landRamp r.target (ticking s.actuators[n])) s).actuators[n].cfg = s.actuators[n].cfg := by
    rw [entry, supervise_cfg, landRamp_cfg]
    rfl
  have feedback : (putActuator n (landRamp r.target (ticking s.actuators[n])) s).actuators[n].feedback =
      s.actuators[n].feedback := by
    obtain ⟨-, -, -, -, same, -⟩ := landRamp_spec r.target (ticking s.actuators[n])
    rw [entry, supervise_feedback, same]
    rfl
  have report := reportLanded_waiting (s := putActuator n (landRamp r.target (ticking s.actuators[n])) s)
    (cfg ▸ group) ((waitsOn_congr rfl rfl).trans waits)
  rw [feedbackReached_congr cfg feedback,
    retainedTarget_of (v := v) (s := putActuator n (landRamp r.target (ticking s.actuators[n])) s) retained] at report
  exact landed.trans report

/-- The report of a changed feedback to a MOVE that waits for it (R81). -/
theorem takeReport_waiting {c : CaptureId} {v : Retained} (group : s.actuators[n].cfg.group = some g)
    (waits : waitsOn g n .feedback s = true) (retained : s.executors[g].retained = some v) :
    takeReport c (.actuator n) s =
      if s.actuators[n].feedback = some (feedbackFrom s.captures[c]) then s
      else
        let t := putActuator n (fedEntry s.captures[c] s.actuators[n]) s
        if feedbackReached (fedEntry s.captures[c] s.actuators[n]) v.first.toInt then completeAndProceed g t else t := by
  obtain ⟨entry, -⟩ := putActuator_self n (fedEntry s.captures[c] s.actuators[n]) s
  have cfg : (putActuator n (fedEntry s.captures[c] s.actuators[n]) s).actuators[n].cfg = s.actuators[n].cfg := by
    rw [entry, supervise_cfg]
    rfl
  have report := reportFeedback_waiting (s := putActuator n (fedEntry s.captures[c] s.actuators[n]) s)
    (cfg ▸ group) ((waitsOn_congr rfl rfl).trans waits)
  rw [entry, feedbackReached_congr (supervise_cfg _) (supervise_feedback _),
    retainedTarget_of (v := v) (s := putActuator n (fedEntry s.captures[c] s.actuators[n]) s) retained] at report
  unfold takeReport
  dsimp only
  split
  · rfl
  · exact report

/-- The report of a completed measurement to an AWAIT_MEAS on its channel (R87). -/
theorem takeReport_executor {c : CaptureId} {rel : Relation} {time : Nat} {v : Retained}
    (active : s.executors[g].state = .active) (current : s.executors[g].current = some k)
    (op : s.slots[k].record.op = .awaitMeas c rel time) (waiting : s.executors[g].waiting = some .measurement)
    (retained : s.executors[g].retained = some v) (signal : s.captures[c].status ≠ .noSignal) :
    takeReport c (.executor g) s =
      if (rel = .above ∧ v.first.toInt < (s.captures[c].value : Int)) ∨
          (rel = .below ∧ (s.captures[c].value : Int) < v.first.toInt) then completeAndProceed g s
      else s := by
  have record : currentRecord g s = some s.slots[k].record := by rw [currentRecord, current]
  have awaits : awaitsMeasurement g c s = true := by
    unfold awaitsMeasurement
    rw [record]
    simp only [active, waiting, op, beq_self_eq_true, Bool.and_self]
  have met : satisfies g s.captures[c].value s.captures[c].status s = true ↔
      (rel = .above ∧ v.first.toInt < (s.captures[c].value : Int)) ∨
        (rel = .below ∧ (s.captures[c].value : Int) < v.first.toInt) := by
    unfold satisfies
    rw [record, retainedTarget_of retained]
    cases rel <;>
      simp only [op, Bool.and_eq_true, bne_iff_ne, ne_eq, signal, not_false_eq_true, true_and, decide_eq_true_eq,
        reduceCtorEq, false_and, or_false, false_or]
  unfold takeReport
  dsimp only
  rw [awaits, Bool.true_and]
  simp only [met]

/-- A frequency measurement that completes: what is reported, and what it is reported of (R155, R160). -/
theorem takeEdge_measured {c : CaptureId} {stamp start : Stamp} {seen : Nat}
    (mode : s.captures[c].mode = .frequency) (sample : s.captures[c].sample = false)
    (edge : s.captures[c].edge ≠ some stamp) (phase : s.captures[c].phase = .counting seen start)
    (scale : s.captures[c].prescale = seen + 1)
    (long : 2 * s.captures[c].prescale ≤ (stamp.toNat + 16777216 - start.toNat) % 16777216) :
    ∃ u, takeEdge c true stamp s = reportCapture c true u ∧ u.executors = s.executors ∧ u.slots = s.slots ∧
      u.actuators = s.actuators ∧ u.captures[c].status ≠ .noSignal := by
  refine ⟨_, takeEdge_frequency mode sample edge phase scale (by rw [spanOf_eq]; exact long), rfl, rfl, rfl, ?_⟩
  rw [putCapture, put_self]
  show (if _ then CaptureStatus.overrange else .ok) ≠ .noSignal
  split <;> simp

/-- The change of an input to the level that an AWAIT_INPUT names (R86). -/
theorem takeInputUse_wait {d : InputId} {level : Bool} {time : Nat} (active : s.executors[g].state = .active)
    (current : s.executors[g].current = some k) (op : s.slots[k].record.op = .awaitInput d level time)
    (waiting : s.executors[g].waiting = some .input) : takeInputUse d level (.wait g) s = completeAndProceed g s := by
  have record : currentRecord g s = some s.slots[k].record := by rw [currentRecord, current]
  have awaits : awaitsInput g d level s = true := by
    unfold awaitsInput
    rw [record]
    simp only [active, waiting, op, beq_self_eq_true, Bool.and_self]
  exact if_pos awaits

/-- The proof of a start, and of a stop, comes to the report (R13, R15). -/
theorem takeProof_reports :
    (s.actuators[n].state = .starting →
      takeProof n true s = reportStarted n (putActuator n (provenEntry s.actuators[n]) s)) ∧
      (s.actuators[n].state = .stopping .dropWait →
        takeProof n false s = reportStopped n (putActuator n (stoppedEntry s.actuators[n]) s)) := by
  unfold takeProof
  constructor <;> (intro state; simp only [state]; rfl)

/-! ### Faults of an actuator that a step waits on -/

/-- The report of a first fault to a step that waits on the actuator. -/
theorem firstFault_reported {w : Waiting} (group : s.actuators[n].cfg.group = some g) (active : s.executors[g].state = .active)
    (current : s.executors[g].current = some k) (actuator : s.slots[k].record.op.actuator = some n)
    (waiting : s.executors[g].waiting = some w)
    (fit : w = .runProof ∨ w = .stopProof ∨ w = .landing ∨ w = .feedback) (code : FaultCode) :
    reportFault n code (firstFault code n s) = failAndProceed g (faultReason w code) (firstFault code n s) := by
  have executors := firstFault_executors code n s
  have slots := firstFault_slots code n s
  exact reportFault_waiting (by rw [(around_firstFault code n s).cfg n]; exact group) (by rw [executors]; exact active)
    (by rw [executors]; exact current) (by rw [slots]; exact actuator) (by rw [executors]; exact waiting) fit code

/-- A fault of trip scope SELF whose report an executor takes, its safe landing having no taker after that (R21, log entry 15). -/
theorem raiseFault_waiting {code : FaultCode} {reason : FailReason} (scope : s.actuators[n].cfg.tripScope = .self)
    (group : s.actuators[n].cfg.group = some g) (well : healthy s.actuators[n] = true)
    (taken : reportFault n code (firstFault code n s) = failAndProceed g reason (firstFault code n s))
    (gone : failAndProceed g reason (firstFault code n s) = t) (cfg : t.actuators[n].cfg = s.actuators[n].cfg)
    (free : t.executors[g].state ≠ .active ∨ t.executors[g].waiting ≠ some .landing) : raiseFault code n s = t := by
  have still : waitsOn g n .landing t = false := by
    unfold waitsOn
    rw [← Bool.not_eq_true, Bool.and_eq_true, Bool.and_eq_true, beq_iff_eq, beq_iff_eq]
    rintro ⟨⟨active, waiting⟩, -⟩
    rcases free with e | e
    · exact e active
    · exact e waiting
  unfold raiseFault
  rw [if_pos well, scope]
  dsimp only
  rw [taken, gone, reportSafeLanding]
  split
  · exact reportLanded_still (by rw [cfg]; exact group) still
  · rfl

/-- The end of a chain leaves a FAULTED actuator so, and its code. -/
theorem faulted_of_rampsRemoved {ended : GroupId → Bool} (h : ChainRampsRemoved ended s t)
    (faulted : s.actuators[n].state = .faulted) :
    t.actuators[n].state = .faulted ∧ t.actuators[n].fault = s.actuators[n].fault := by
  have hn := h n
  dsimp only at hn
  split at hn
  · rw [hn]
    dsimp only
    rw [faulted]
    exact ⟨if_neg (by simp), rfl⟩
  · rw [hn.1]
    exact ⟨faulted, rfl⟩

/-- What a fault under a waiting step comes to, by its on-fail (R91 to R93): the chain record, the slots and the flags. -/
structure FaultLeaves (g : GroupId) (k : SlotId) (n : ActId) (reason : FailReason) (code : FaultCode) (s t : State)
    (leaves : Executor → State → Prop) : Prop where
  state : t.actuators[n].state = .faulted
  fault : t.actuators[n].fault = code
  leaves : leaves (failedAt k reason .execution s.executors[g]) t

section
variable {code : FaultCode} {reason : FailReason} (scope : s.actuators[n].cfg.tripScope = .self)
  (group : s.actuators[n].cfg.group = some g) (well : healthy s.actuators[n] = true)
  (current : s.executors[g].current = some k)
  (taken : reportFault n code (firstFault code n s) = failAndProceed g reason (firstFault code n s))
include scope group well current taken

theorem fault_halts {m : Master} (onFail : s.slots[k].record.onFail = .halt) (holder : s.groupHolders[g] = some m) :
    FaultLeaves g k n reason code s (raiseFault code n s) fun failed t =>
      t.slots = s.slots ∧ flagSet m (.chainHalted g) t = true ∧
        t.executors = put s.executors g { failed with state := .halted, currentAccepted := some true } := by
  have raised := fun t => raiseFault_waiting (t := t) scope group well taken
  have executors := firstFault_executors code n s
  have slots := firstFault_slots code n s
  have around := around_firstFault code n s
  obtain ⟨faulted, coded, -⟩ := firstFault_taken code n s
  generalize firstFault code n s = u at *
  have gone := failAndProceed_halt (r := reason) (by rw [executors]; exact current) (by rw [slots]; exact onFail)
    (by rw [around.groupHolders]; exact holder)
  rw [executors] at gone
  have record : (setFlag m (.chainHalted g) (putExecutor g
      { failedAt k reason .execution s.executors[g] with state := .halted, currentAccepted := some true } u)).executors =
      put s.executors g { failedAt k reason .execution s.executors[g] with state := .halted, currentAccepted := some true } := by
    rw [setFlag_executors, putExecutor, executors]
  rw [raised _ gone (by rw [setFlag_actuators]; exact around.cfg n) (.inl (by rw [record, put_self]; simp))]
  refine ⟨by rw [setFlag_actuators]; exact faulted, by rw [setFlag_actuators]; exact coded, by rw [setFlag_slots]; exact slots,
    ?_, record⟩
  rw [flagSet_setFlag]
  simp

theorem fault_goesOn {j : SlotId} {v : Half}
    (onFail : s.slots[k].record.onFail = .branch (some j) ∨
      (s.slots[k].record.onFail = .continue ∧ s.slots[k].record.next = some j)) (dwell : DwellAt j v s) :
    FaultLeaves g k n reason code s (raiseFault code n s) fun failed t =>
      t.slots = s.slots ∧ t.executors = put s.executors g (EnteredDwell j v failed) := by
  have raised := fun t => raiseFault_waiting (t := t) scope group well taken
  have executors := firstFault_executors code n s
  have slots := firstFault_slots code n s
  have around := around_firstFault code n s
  obtain ⟨faulted, coded, -⟩ := firstFault_taken code n s
  generalize firstFault code n s = u at *
  have gone := failAndProceed_dwell (r := reason) (by rw [executors]; exact current) (by rw [slots]; exact onFail)
    (dwellAt_congr slots dwell)
  rw [executors] at gone
  have record : (putExecutor g (EnteredDwell j v (failedAt k reason .execution s.executors[g])) u).executors =
      put s.executors g (EnteredDwell j v (failedAt k reason .execution s.executors[g])) := by
    rw [putExecutor, executors]
  rw [raised _ gone (around.cfg n) (.inr (by rw [record, put_self]; simp [EnteredDwell]))]
  exact ⟨faulted, coded, slots, record⟩

theorem fault_ends
    (onFail : s.slots[k].record.onFail = .abort ∨
      (s.slots[k].record.onFail = .continue ∧ s.slots[k].record.next = none)) :
    FaultLeaves g k n reason code s (raiseFault code n s) fun failed t =>
      t.executors = put s.executors g (Ended .failed failed) ∧
        (∀ j : SlotId, t.slots[j] = Unbound (fun h => h == g) s.slots[j]) ∧
        (∀ m, s.executors[g].starter = some m → flagSet m (.chainEnd g) t = true) := by
  have raised := fun t => raiseFault_waiting (t := t) scope group well taken
  have executors := firstFault_executors code n s
  have slots := firstFault_slots code n s
  have around := around_firstFault code n s
  obtain ⟨faulted, coded, -⟩ := firstFault_taken code n s
  generalize firstFault code n s = u at *
  have gone := failAndProceed_end (r := reason) (by rw [executors]; exact current) (by rw [slots]; exact onFail)
  rw [executors] at gone
  obtain ⟨record, unbound, told⟩ := endChain_putExecutor g .failed (failedAt k reason .execution s.executors[g]) u
  have ended := chainsEnded_endChain (o := .failed) (by decide) g
    (putExecutor g (failedAt k reason .execution s.executors[g]) u)
  obtain ⟨state, fault⟩ := faulted_of_rampsRemoved ended.ramps faulted
  rw [raised _ gone ((ended.around.cfg n).trans (around.cfg n)) (.inl (by rw [record, put_self]; simp [Ended]))]
  refine ⟨state, fault.trans coded, by rw [record, executors], fun j => ?_, told⟩
  rw [unbound, slots]

end

end

end Sys2Proof.Machine

namespace Sys2Proof
open Machine

/-- Settles O22: each report finds the step that waits for it, which completes, waits on or fails. -/
theorem waitingStepsTakeReports : Obligations.WaitingStepsTakeReports := by
  unfold Obligations.WaitingStepsTakeReports
  intro g k n s active current x record a completed
  have settles : ∀ t, CompletedFrom g k s t → completed t := fun t h => ⟨h.atEnd, h.onward⟩
  have waits : ∀ w, record.op.actuator = some n → x.waiting = some w → waitsOn g n w s = true := fun w actuator waiting =>
    (waitsOn_iff active current actuator).2 waiting
  refine ⟨fun onto => ⟨fun rate r v op waiting group retained ramp reached => ?_, ?_, fun d op waiting state group level uses => ?_,
    fun d op waiting state group level uses => ?_, fun d level time op waiting differs uses => ?_, ?_⟩, fun scope group => ?_⟩
  · have landed := slewTick_waiting group (waits .landing (by rw [op]; rfl) waiting) retained ramp reached
    generalize ht : putActuator n (landRamp r.target (ticking s.actuators[n])) s = t at landed
    have executors : t.executors = s.executors := by rw [← ht]; rfl
    have slots : t.slots = s.slots := by rw [← ht]; rfl
    have command : t.actuators[n].command = r.target := by
      rw [← ht, (putActuator_self n _ s).1, supervise_command, (landRamp_spec ..).1]
    have done := completedFrom (k := k) executors slots current
    have plant := (completeAndProceed_plant executors slots current onto).1
    refine ⟨fun none => ?_, fun f w named held => ⟨fun far => ?_, fun signal near => ?_⟩⟩
    · exact ⟨_, congrArg Host.Outcome.next (landed.trans (if_pos (feedbackReached_none none _))), settles _ done,
        by rw [plant]; exact command⟩
    · have away : ¬ feedbackReached s.actuators[n] v.first.toInt = true := by
        rw [feedbackReached_some named held, not_and_or, not_not, Nat.not_le]
        exact far
      refine ⟨_, congrArg Host.Outcome.next (landed.trans (if_neg away)), ?_, slots, command⟩
      rw [waitFor, putExecutor, executors]
    · exact ⟨_, congrArg Host.Outcome.next (landed.trans (if_pos ((feedbackReached_some named held _).2 ⟨signal, near⟩))),
        settles _ done⟩
  · intro rate seen start stamp v f op waiting group retained named takers y mode sample edge phase scale long
    obtain ⟨u, taken, executors, slots, actuators, signal⟩ := takeEdge_measured mode sample edge phase scale long
    have entry : u.actuators[n] = a := by rw [actuators]
    have report := takeReport_waiting (s := u) (c := f.channel) (v := v) (by rw [entry]; exact group)
      ((waitsOn_congr executors slots).trans (waits .feedback (by rw [op]; rfl) waiting)) (by rw [executors]; exact retained)
    rw [reportCapture_one ((reportTakers_congr actuators executors slots).trans takers), report, entry] at taken
    have read : ∀ t : State, t.captures = u.captures →
        ({ value := if 10000 < t.captures[f.channel].value then 10000 else t.captures[f.channel].value
           status := t.captures[f.channel].status } : Feedback) = feedbackFrom u.captures[f.channel] := fun t h => by
      rw [h, feedbackFrom_eq]
    have judged : feedbackReached (fedEntry u.captures[f.channel] a) v.first.toInt = true ↔
        distance (feedbackFrom u.captures[f.channel]).value (clampTarget a v.first.toInt) ≤ f.tolerance :=
      (feedbackReached_some (a := fedEntry u.captures[f.channel] a) named rfl _).trans (and_iff_right signal)
    have fed : (putActuator n (fedEntry u.captures[f.channel] a) u).actuators[n].feedback =
        some (feedbackFrom u.captures[f.channel]) := by
      rw [(putActuator_self n _ u).1, supervise_feedback]
      rfl
    by_cases same : a.feedback = some (feedbackFrom u.captures[f.channel])
    · refine ⟨u, congrArg Host.Outcome.next (taken.trans (if_pos same)), ?_⟩
      rw [read u rfl]
      exact ⟨by rw [entry]; exact same, fun other => absurd same other, fun _ => executors⟩
    · by_cases reached : feedbackReached (fedEntry u.captures[f.channel] a) v.first.toInt = true
      · obtain ⟨plant, field⟩ := completeAndProceed_plant (t := putActuator n (fedEntry u.captures[f.channel] a) u)
          executors slots current onto
        refine ⟨_, congrArg Host.Outcome.next (taken.trans ((if_neg same).trans (if_pos reached))), ?_⟩
        rw [read _ field]
        refine ⟨by rw [plant]; exact fed, fun _ _ => settles _ (completedFrom executors slots current), fun far => ?_⟩
        exact absurd (judged.1 reached) (Nat.not_le.2 far)
      · refine ⟨_, congrArg Host.Outcome.next (taken.trans ((if_neg same).trans (if_neg reached))), ?_⟩
        rw [read (putActuator n (fedEntry u.captures[f.channel] a) u) rfl]
        exact ⟨fed, fun _ near => absurd (judged.2 near) reached, fun _ => executors⟩
  · have changed := (changeInput_eq (d := d) (level := true) (s := s) (by rw [level]; simp)).trans (handInputChange_one uses)
    generalize hu : putInput d (changedFilter true s.inputs[d]) s = u at changed
    have actuators : u.actuators = s.actuators := by rw [← hu]; rfl
    have executors : u.executors = s.executors := by rw [← hu]; rfl
    have slots : u.slots = s.slots := by rw [← hu]; rfl
    have taken := (takeProof_reports (n := n) (s := u)).1 (by rw [actuators]; exact state)
    have report := reportStarted_waiting (s := putActuator n (provenEntry u.actuators[n]) u)
      (by rw [(putActuator_self n _ _).1, supervise_cfg, actuators]; exact group)
      ((waitsOn_congr executors slots).trans (waits .runProof (by rw [op]; rfl) waiting))
    have plant := (completeAndProceed_plant (t := putActuator n (provenEntry u.actuators[n]) u)
      executors slots current onto).1
    refine ⟨_, congrArg Host.Outcome.next (changed.trans (taken.trans report)), settles _ (completedFrom executors slots current), ?_⟩
    rw [plant, (putActuator_self n _ _).1, supervise_state]
    rfl
  · have changed := (changeInput_eq (d := d) (level := false) (s := s) (by rw [level]; simp)).trans (handInputChange_one uses)
    generalize hu : putInput d (changedFilter false s.inputs[d]) s = u at changed
    have actuators : u.actuators = s.actuators := by rw [← hu]; rfl
    have executors : u.executors = s.executors := by rw [← hu]; rfl
    have slots : u.slots = s.slots := by rw [← hu]; rfl
    have taken := (takeProof_reports (n := n) (s := u)).2 (by rw [actuators]; exact state)
    have report := reportStopped_waiting (s := putActuator n (stoppedEntry u.actuators[n]) u)
      (by rw [(putActuator_self n _ _).1, supervise_cfg, actuators]; exact group)
      ((waitsOn_congr executors slots).trans (waits .stopProof (by rw [op]; rfl) waiting))
    have plant := (completeAndProceed_plant (t := putActuator n (stoppedEntry u.actuators[n]) u)
      executors slots current onto).1
    refine ⟨_, congrArg Host.Outcome.next (changed.trans (taken.trans report)), settles _ (completedFrom executors slots current), ?_⟩
    rw [plant, (putActuator_self n _ _).1, supervise_state, supervise_command]
    exact ⟨rfl, rfl⟩
  · have changed := (changeInput_eq (d := d) (level := level) (s := s) (by rw [differs]; simp)).trans (handInputChange_one uses)
    have taken := takeInputUse_wait (s := putInput d (changedFilter level s.inputs[d]) s) active current op waiting
    exact ⟨_, congrArg Host.Outcome.next (changed.trans taken), settles _ (completedFrom rfl rfl current),
      (completeAndProceed_plant (t := putInput d (changedFilter level s.inputs[d]) s) rfl rfl current onto).1⟩
  · intro c rel time seen start stamp v op waiting retained takers y mode sample edge phase scale long
    obtain ⟨u, taken, executors, slots, actuators, signal⟩ := takeEdge_measured mode sample edge phase scale long
    have report := takeReport_executor (g := g) (k := k) (s := u) (by rw [executors]; exact active)
      (by rw [executors]; exact current) (by rw [slots]; exact op) (by rw [executors]; exact waiting)
      (by rw [executors]; exact retained) signal
    rw [reportCapture_one ((reportTakers_congr actuators executors slots).trans takers), report] at taken
    obtain ⟨-, field⟩ := completeAndProceed_plant executors slots current onto
    by_cases met : (rel = .above ∧ v.first.toInt < (u.captures[c].value : Int)) ∨
        (rel = .below ∧ (u.captures[c].value : Int) < v.first.toInt)
    · refine ⟨_, congrArg Host.Outcome.next (taken.trans (if_pos met)), ?_⟩
      rw [field]
      refine ⟨fun _ => settles _ (completedFrom executors slots current), fun missed => ?_⟩
      rcases met with ⟨r1, beyond⟩ | ⟨r1, beyond⟩ <;> rcases missed with ⟨r2, within⟩ | ⟨r2, within⟩
      · exact absurd within (Int.not_le.2 beyond)
      · rw [r1] at r2
        exact nomatch r2
      · rw [r1] at r2
        exact nomatch r2
      · exact absurd within (Int.not_le.2 beyond)
    · exact ⟨u, congrArg Host.Outcome.next (taken.trans (if_neg met)), fun now => absurd now met, fun _ => executors⟩
  · intro fails everyFault
    have every : ∀ leaves : Executor → State → Prop,
        (∀ code reason, healthy a = true →
          reportFault n code (firstFault code n s) = failAndProceed g reason (firstFault code n s) →
          FaultLeaves g k n reason code s (raiseFault code n s) leaves) → everyFault leaves := by
      intro leaves taken
      have reported := fun w actuator (waiting : x.waiting = some w) fit code =>
        firstFault_reported (n := n) (w := w) group active current actuator waiting fit code
      refine ⟨fun op waiting state due => ?_, fun op waiting state due => ?_, fun rate op waiting well due => ?_⟩
      · obtain ⟨faulted, coded, left⟩ := taken .proofFail .proofFail (healthy_of_state state (by simp) (by simp))
          (reported _ (by rw [op]; rfl) waiting (by simp) _)
        exact ⟨_, congrArg Host.Outcome.next ((proofExpiry_due due).1 state), faulted, coded, left⟩
      · obtain ⟨faulted, coded, left⟩ := taken .stopFail .stopFail (healthy_of_state state (by simp) (by simp))
          (reported _ (by rw [op]; rfl) waiting (by simp) _)
        exact ⟨_, congrArg Host.Outcome.next ((proofExpiry_due due).2 state), faulted, coded, left⟩
      · obtain ⟨faulted, coded, left⟩ := taken .deviation .faultedDuring well (by
          rcases waiting with waiting | waiting
          · exact reported _ (by rw [op]; rfl) waiting (by simp) _
          · exact reported _ (by rw [op]; rfl) waiting (by simp) _)
        exact ⟨_, congrArg Host.Outcome.next ((deviationExpiry_eq n s).trans (if_pos due)), faulted, coded, left⟩
    refine ⟨fun m onFail holder => ?_, fun j v onFail dwell => ?_, fun onFail => ?_⟩
    · exact every _ fun _ _ well taken => fault_halts scope group well current taken onFail holder
    · exact every _ fun _ _ well taken => fault_goesOn scope group well current taken onFail dwell
    · exact every (fun failed t => t.executors = put s.executors g (Ended .failed failed) ∧
          (∀ j : SlotId, t.slots[j] = Unbound (fun h => h == g) s.slots[j]) ∧
          (∀ m, x.starter = some m → flagSet m (.chainEnd g) t = true))
        fun _ _ well taken => fault_ends scope group well current taken onFail

end Sys2Proof
end

section
/-! SUPPORT. The requests of the governor and of the station table, and the governor's mode (R115 to R131, R145). -/

namespace Sys2Proof.Machine

section
variable {m : Master} {s : State}

/-! ### GOVERNOR SETTINGS (R130, R131) -/

theorem validSettings_iff {r : RawGovernor} :
    validSettings r = true ↔
      r.dmin.toNat ≤ r.dmax.toNat ∧ r.dmax.toNat ≤ 10000 ∧ 1 ≤ r.dstep.toNat ∧ r.dstep.toNat ≤ 2000 ∧
        1 ≤ r.holdTime.toNat ∧ r.holdTime.toNat ≤ 600 ∧ r.fallback.toNat ≤ 10000 := by
  simp only [validSettings, Bool.and_eq_true, decide_eq_true_eq]
  omega

theorem governorSettingsOwner_notHolder (h : ¬ holdsGov m s = true) (r : RawGovernor) :
    governorSettingsOwner m r s = refuse .notHolder s := if_pos h

theorem governorSettingsOwner_held (h : holdsGov m s = true) (r : RawGovernor) :
    governorSettingsOwner m r s =
      if validSettings r = true then
        ({ s with governor := withSettings r s.governor }, .ok (byte2 (withSettings r s.governor).fallback))
      else refuse .outOfRange s := by
  unfold governorSettingsOwner
  rw [if_neg (not_not.2 h)]
  by_cases valid : validSettings r = true
  · rw [if_neg (not_not.2 valid), if_pos valid]
  · rw [if_pos valid, if_neg valid]

/-! ### GOVERNOR MODE (R128, R129) -/

theorem modeOnOwner_held (h : holdsGov m s = true) :
    modeOnOwner m s =
      if s.governor.mode = .off then (setFlagBoth .govMode { s with governor := switchedOn s.governor }, .ok [1])
      else (s, .ok [modeByte s.governor.mode]) := by
  unfold modeOnOwner
  rw [if_neg (not_not.2 h)]
  dsimp only
  by_cases off : s.governor.mode = .off
  · have on : (switchedOn s.governor).mode ≠ s.governor.mode := by
      rw [off]
      exact fun e => nomatch e
    rw [if_pos off, if_pos off, putGovernor_changed on]
    rfl
  · rw [if_neg off, if_neg off]

theorem modeOffOwner_held (h : holdsGov m s = true) :
    modeOffOwner m s =
      if s.governor.mode = .off then (s, .ok [0])
      else (clearFollowers (setFlagBoth .govMode { s with governor := switchedOff s.governor }), .ok [0]) := by
  unfold modeOffOwner
  rw [if_neg (not_not.2 h)]
  dsimp only
  by_cases off : s.governor.mode = .off
  · rw [if_pos off, if_pos off, off]
    rfl
  · have changed : (switchedOff s.governor).mode ≠ s.governor.mode := fun e => off e.symm
    rw [if_neg off, if_neg off, putGovernor_changed changed, (around_clearFollowers _).governor]
    rfl

/-- An entry into OFF leaves an entry its command, its fault and its configuration, and of its ramps only a FOLLOW ramp goes. -/
theorem unfollowed_frame (a : Actuator) :
    (unfollowed a).command = a.command ∧ (unfollowed a).fault = a.fault ∧ (unfollowed a).cfg = a.cfg ∧
      (unfollowed a).ramp = if a.ramp.map Ramp.origin = some .follow then none else a.ramp := by
  unfold unfollowed
  split
  next r ramp =>
    rw [ramp]
    by_cases origin : r.origin = .follow
    · rw [if_pos origin, if_pos (by rw [Option.map_some, origin])]
      exact ⟨rfl, rfl, rfl, rfl⟩
    · rw [if_neg origin, if_neg (by simpa using origin)]
      exact ⟨rfl, rfl, rfl, rfl⟩
  next ramp =>
    rw [ramp]
    exact ⟨rfl, rfl, rfl, (ite_self _).symm⟩

/-- An entry into OFF touches no chain, no slot and no claim. -/
theorem clearFollowers_dispatch (s : State) :
    (clearFollowers s).executors = s.executors ∧ (clearFollowers s).slots = s.slots := by
  rw [clearFollowers_eq]
  exact List.foldlRecOn (motive := fun t : State => t.executors = s.executors ∧ t.slots = s.slots) allActuators _ ⟨rfl, rfl⟩
    fun t h n _ => h

theorem holdExpiry_due (due : s.governor.holdTimer = some 0) :
    holdExpiry s = putGovernor { s.governor with mode := .fallback, holdTimer := none } s := by
  simp only [holdExpiry, due]

/-! ### CONFIGURE STATION (R145) -/

theorem addressTaken_iff {k : StationId} {address : Nat} {t : Table Station 8} :
    addressTaken k address t = true ↔ ∃ j, j ≠ k ∧ t[j].enabled = true ∧ t[j].address = address := by
  simp only [addressTaken, List.any_eq_true, Bool.and_eq_true, bne_iff_ne, beq_iff_eq, and_assoc]
  exact ⟨fun ⟨j, _, h⟩ => ⟨j, h⟩, fun ⟨j, h⟩ => ⟨j, List.mem_finRange j, h⟩⟩

theorem configureStationOwner_valid (h : holdsGov m s = true) {r : RawStation} {k : StationId} {on : Bool}
    (entry : index? 8 r.entry = some k) (enabled : flag? r.enabled = some on) (low : 1 ≤ r.address.toNat)
    (high : r.address.toNat ≤ 247) (setpoint : r.setpoint.toNat ≤ 10000) (short : 1 ≤ r.staleTime.toNat)
    (long : r.staleTime.toNat ≤ 60) :
    configureStationOwner m r s =
      if on = true ∧ addressTaken k r.address.toNat s.stations = true then refuse .duplicate s
      else
        (changeStation k (configuredStation on r.address.toNat r.setpoint.toNat r.staleTime.toNat s.stations[k]) s, .ok []) := by
  unfold configureStationOwner
  rw [if_neg (not_not.2 h), entry, enabled, range?_eq_some.2 ⟨⟨low, high⟩, rfl⟩,
    range?_eq_some.2 ⟨⟨Nat.zero_le _, setpoint⟩, rfl⟩, range?_eq_some.2 ⟨⟨short, long⟩, rfl⟩]

end

end Sys2Proof.Machine

namespace Sys2Proof
open Machine

/-- Settles O36: the requester's holding, then `validSettings_iff`, decide between the three answers. -/
theorem governorSettingsReplaced : Obligations.GovernorSettingsReplaced := by
  unfold Obligations.GovernorSettingsReplaced
  intro q r s hl u clamp fits
  have holds : holdsGov q.master u = true ↔ s.govHolder = some q.master := by
    rw [holdsGov_acceptFrame, holdsGov_iff]
  have governor : u.governor = s.governor := acceptFrame_governor ..
  refine ⟨fun other => exec_servedInTime rfl hl (governorSettingsOwner_notHolder (mt holds.1 other) r), fun holder =>
    ⟨fun bad => exec_servedInTime rfl hl ?_, fun valid => exec_servedInTime rfl hl ?_⟩⟩
  · exact (governorSettingsOwner_held (holds.2 holder) r).trans (if_neg (mt validSettings_iff.1 bad))
  · have served := (governorSettingsOwner_held (holds.2 holder) r).trans (if_pos (validSettings_iff.2 valid))
    rw [governor] at served
    exact served

/-- Settles O37: ON is `switchedOn`, OFF `switchedOff` with every entry as `clearFollowers_at` says. -/
theorem governorModeChanges : Obligations.GovernorModeChanges := by
  unfold Obligations.GovernorModeChanges
  intro s
  refine ⟨fun q hl holder => ?_, fun due mode => ?_⟩
  · intro u
    have holds : holdsGov q.master u = true := by
      rw [holdsGov_acceptFrame, holdsGov_iff]
      exact holder
    have governor : u.governor = s.governor := acceptFrame_governor ..
    have on := modeOnOwner_held holds
    have off := modeOffOwner_held holds
    rw [governor] at on off
    refine ⟨fun mode => ⟨exec_servedInTime rfl hl (on.trans (if_pos mode)), exec_servedInTime rfl hl (off.trans (if_pos mode))⟩,
      fun mode => ⟨exec_servedInTime rfl hl (on.trans (if_neg mode)),
        _, exec_servedInTime rfl hl (off.trans (if_neg mode)), ?_, ?_, ?_, ?_⟩⟩
    · rw [(around_clearFollowers _).governor, setFlagBoth_governor]
      rfl
    · refine fun m => (around_clearFollowers _).flags m _ ?_
      rw [flagSet_setFlagBoth]
      simp
    · intro n a b
      have entry : b = supervise (unfollowed a) := by
        refine (clearFollowers_at _ n).1.trans ?_
        rw [setFlagBoth_actuators]
        exact congrArg (fun t : Table Actuator 16 => supervise (unfollowed t[n])) (acceptFrame_actuators q.master s)
      obtain ⟨command, fault, cfg, ramp⟩ := unfollowed_frame a
      rw [entry, supervise_follow, supervise_command, supervise_fault, supervise_cfg, supervise_ramp]
      exact ⟨unfollowed_follow a, command, fault, cfg, ramp⟩
    · obtain ⟨executors, slots⟩ := clearFollowers_dispatch
        (setFlagBoth .govMode { u with governor := switchedOff s.governor })
      rw [executors, slots, (around_clearFollowers _).groupHolders]
      exact ⟨acceptFrame_executors .., acceptFrame_slots .., acceptFrame_groupHolders ..⟩
  · have changed : GovMode.fallback ≠ s.governor.mode := by
      rw [mode]
      exact fun e => nomatch e
    exact congrArg Host.Outcome.next ((holdExpiry_due due).trans (putGovernor_changed changed))

/-- Settles O41: `addressTaken_iff` decides DUPLICATE, and `configuredStation` keeps or clears the dynamic state. -/
theorem configureStationAccepted : Obligations.ConfigureStationAccepted := by
  unfold Obligations.ConfigureStationAccepted
  intro q r k on s hl holder entry enabled low high setpoint short long u x written taken kept
  have holds : holdsGov q.master u = true := by
    rw [holdsGov_acceptFrame, holdsGov_iff]
    exact holder
  have stations : u.stations = s.stations := acceptFrame_stations ..
  have served := configureStationOwner_valid holds entry enabled low high setpoint short long
  have found : on = true ∧ addressTaken k r.address.toNat u.stations = true ↔ taken := by rw [addressTaken_iff, stations]
  have before : u.stations[k] = x := by rw [stations]
  refine ⟨fun t => exec_servedInTime rfl hl (served.trans (if_pos (found.2 t))), fun free stays => exec_servedInTime rfl hl ?_,
    fun free goes => exec_servedInTime rfl hl ?_⟩
  · have configured : configuredStation on r.address.toNat r.setpoint.toNat r.staleTime.toNat x = written := if_pos stays
    refine (served.trans (if_neg (mt found.1 free))).trans ?_
    rw [before, configured, changeStation_same (x := written) (by rw [before])]
    rfl
  · have configured : configuredStation on r.address.toNat r.setpoint.toNat r.staleTime.toNat x = neverState written := if_neg goes
    refine (served.trans (if_neg (mt found.1 free))).trans ?_
    rw [before, configured]
    by_cases never : x.state = .never
    · rw [changeStation_same (by rw [before]; exact never.symm), if_pos never]
      rfl
    · rw [changeStation_changed (by rw [before]; exact fun e => never e.symm), if_neg never]
      rfl

end Sys2Proof
end

section
/-! SUPPORT. Evaluations outside a steady REGULATE (R117, R122 to R126), and the demand handed to the followers (R40). -/

namespace Sys2Proof.Machine

/-! ### Evaluations without an eligible station (R123, R124, R126) -/

theorem evaluate_without {t : Table Station 8} (none : ∀ k : StationId, ¬ (t[k].enabled = true ∧ t[k].state = .fresh))
    (g : Governor) : evaluate t g = evaluateWithout g := by
  have empty : eligibleEntries t = [] :=
    List.eq_nil_iff_forall_not_mem.2 fun k mem => none k (eligibleStation_iff.1 (mem_eligibleEntries.1 mem))
  simp only [evaluate, controllingEntry_none.2 empty]

theorem evaluateWithout_hold {g : Governor} (mode : g.mode = .hold) :
    evaluateWithout g = { g with eligible := some 0, lastError := none } := by
  simp only [evaluateWithout, mode]

theorem evaluateWithout_regulate {g : Governor} (mode : g.mode = .regulate) :
    evaluateWithout g =
      { g with eligible := some 0, lastError := none, mode := .hold, holdTimer := some (g.holdTime * 1000000) } := by
  simp only [evaluateWithout, mode]

theorem evaluateWithout_fallback {g : Governor} (mode : g.mode = .fallback) :
    evaluateWithout g = { g with eligible := some 0, lastError := none, demand := stepDemand g g.fallback } := by
  simp only [evaluateWithout, mode]

/-- D moves toward a demand by Dstep, or comes to it (R126). -/
theorem stepDemand_eq (g : Governor) (u : Nat) :
    stepDemand g u =
      if g.demand + g.dstep < u then g.demand + g.dstep
      else if u + g.dstep < g.demand then g.demand - g.dstep
      else u := by
  have moved := stepDemand_moves g u
  unfold clampAbs at moved
  split at moved
  · rw [if_neg (by omega), if_pos (by omega)]
    omega
  · split at moved
    · rw [if_pos (by omega)]
      omega
    · rw [if_neg (by omega), if_neg (by omega)]
      omega

/-! ### The entry to REGULATE (R122) -/

/-- The integral rebased so that raw starts at the demand held, as an integer. -/
theorem enterRegulate_integral (e : Int) (g : Governor) :
    ((enterRegulate e g).integral : Int) =
      let x := ((g.demand : Int) - proportional g e) * 64
      if x < (g.dmin : Int) * 64 then (g.dmin : Int) * 64 else if (g.dmax : Int) * 64 < x then (g.dmax : Int) * 64 else x := by
  refine (clampInt_toInt ..).trans ?_
  push_cast
  rfl

theorem rawOutput_enterRegulate (e : Int) (g : Governor) :
    rawOutput (enterRegulate e g) e = proportional g e + ((enterRegulate e g).integral : Int) / 64 := by
  unfold rawOutput
  push_cast
  rfl

/-- D after a regulating evaluation, as an integer (R120). -/
theorem regulate_demand (k : StationId) (e : Int) (g : Governor) :
    ((regulate k e g).demand : Int) =
      (g.demand : Int) + clampAbs g.dstep
        ((if rawOutput g e < g.dmin then (g.dmin : Int) else if (g.dmax : Int) < rawOutput g e then (g.dmax : Int)
          else rawOutput g e) - (g.demand : Int)) := by
  refine (stepDemand_moves g _).trans ?_
  rw [clampInt_toInt]

theorem stepDemand_distance (g : Governor) (u : Nat) : distance (stepDemand g u) g.demand ≤ g.dstep := by
  have moved := stepDemand_moves g u
  unfold clampAbs at moved
  unfold distance
  split at moved <;> (try split at moved) <;> split <;> omega

/-- Outside OFF and REGULATE, an evaluation that finds an eligible station enters REGULATE (R122). -/
theorem evaluate_enters {t : Table Station 8} {g : Governor} {k : StationId}
    (control : controllingEntry t (eligibleEntries t) = some k) (mode : g.mode = .hold ∨ g.mode = .fallback) :
    evaluate t g =
      regulate k (clampAbs errorBound (stationError t[k]))
        (enterRegulate (clampAbs errorBound (stationError t[k])) { g with eligible := some (eligibleEntries t).length }) := by
  simp only [evaluate, control, evaluateWith]
  rcases mode with mode | mode <;> simp only [mode]

/-- The governor after an entry to REGULATE at controlling entry `k` and error `e`, with `count` stations eligible. -/
def entered (k : StationId) (e : Int) (count : Nat) (g : Governor) : Governor :=
  regulate k e (enterRegulate e { g with evalTimer := evalInterval, eligible := some count })

theorem evaluateGovernor_enters {s : State} {k : StationId} (free : ∀ n : ActId, s.actuators[n].follow = none)
    (control : controllingEntry s.stations (eligibleEntries s.stations) = some k)
    (mode : s.governor.mode = .hold ∨ s.governor.mode = .fallback) :
    evaluateGovernor s =
      setFlagBoth .govMode
        { s with
          governor := entered k (clampAbs errorBound (stationError s.stations[k])) (eligibleEntries s.stations).length s.governor } := by
  have on : s.governor.mode ≠ .off := by rcases mode with e | e <;> rw [e] <;> exact fun e => nomatch e
  have changed : GovMode.regulate ≠ s.governor.mode := by rcases mode with e | e <;> rw [e] <;> exact fun e => nomatch e
  rw [evaluateGovernor_unfollowed on free,
    evaluate_enters (g := { s.governor with evalTimer := evalInterval }) control mode]
  exact putGovernor_changed changed

/-- The integral as rebased at an entry to REGULATE, and the raw output that follows from it (R120, R122). -/
def rebasedIntegral (e : Int) (g : Governor) : Int :=
  let x := ((g.demand : Int) - proportional g e) * 64
  if x < (g.dmin : Int) * 64 then (g.dmin : Int) * 64 else if (g.dmax : Int) * 64 < x then (g.dmax : Int) * 64 else x

theorem entered_integral (e : Int) (count : Nat) (g : Governor) :
    ((enterRegulate e { g with evalTimer := evalInterval, eligible := some count }).integral : Int) = rebasedIntegral e g :=
  enterRegulate_integral ..

theorem entered_raw (e : Int) (count : Nat) (g : Governor) :
    rawOutput (enterRegulate e { g with evalTimer := evalInterval, eligible := some count }) e =
      proportional g e + rebasedIntegral e g / 64 := by
  rw [rawOutput_enterRegulate, entered_integral]
  rfl

/-- What the entry to REGULATE writes besides D and the integral (R117, R120, R122). -/
theorem entered_fields (k : StationId) (e : Int) (count : Nat) (g : Governor) :
    entered k e count g =
      { g with
        mode := .regulate, holdTimer := none, demand := (entered k e count g).demand
        integral := (entered k e count g).integral, eligible := some count
        lastError := some { entry := k, error := e, p := proportional g e, raw := proportional g e + rebasedIntegral e g / 64 }
        evalTimer := evalInterval } := by
  rw [← entered_raw e count g]
  rfl

theorem entered_demand (k : StationId) (e : Int) (count : Nat) (g : Governor) :
    let raw := proportional g e + rebasedIntegral e g / 64
    ((entered k e count g).demand : Int) =
      (g.demand : Int) + clampAbs g.dstep
        ((if raw < g.dmin then (g.dmin : Int) else if (g.dmax : Int) < raw then (g.dmax : Int) else raw) - (g.demand : Int)) := by
  have moved := regulate_demand k e (enterRegulate e { g with evalTimer := evalInterval, eligible := some count })
  rw [entered_raw] at moved
  exact moved

/-- The integral after the evaluation that enters REGULATE, by raw and its change (R121). -/
theorem entered_nextIntegral (k : StationId) (e : Int) (count : Nat) (g : Governor) :
    let raw := proportional g e + rebasedIntegral e g / 64
    let change := integralChange g e
    ((entered k e count g).integral : Int) =
      if ((g.dmax : Int) ≤ raw ∧ 0 < change) ∨ (raw ≤ g.dmin ∧ change < 0) then rebasedIntegral e g
      else
        let x := rebasedIntegral e g + change
        if x < (g.dmin : Int) * 64 then (g.dmin : Int) * 64 else if (g.dmax : Int) * 64 < x then (g.dmax : Int) * 64 else x := by
  intro raw change
  have rebased := entered_integral e count g
  have windsUp : WindsUp (enterRegulate e { g with evalTimer := evalInterval, eligible := some count }) e ↔
      ((g.dmax : Int) ≤ raw ∧ 0 < change) ∨ (raw ≤ g.dmin ∧ change < 0) := by
    unfold WindsUp
    rw [entered_raw]
    rfl
  by_cases winds : ((g.dmax : Int) ≤ raw ∧ 0 < change) ∨ (raw ≤ g.dmin ∧ change < 0)
  · rw [if_pos winds, ← rebased]
    exact congrArg Nat.cast (nextIntegral_of_windsUp (windsUp.2 winds))
  · rw [if_neg winds, ← rebased]
    refine (congrArg Nat.cast (nextIntegral_of_not_windsUp (mt windsUp.1 winds))).trans ((clampInt_toInt ..).trans ?_)
    push_cast
    rfl

/-- D stays within the limits. -/
theorem entered_mem (k : StationId) (e : Int) (count : Nat) {g : Governor} (limits : g.dmin ≤ g.dmax) (low : g.dmin ≤ g.demand)
    (high : g.demand ≤ g.dmax) : g.dmin ≤ (entered k e count g).demand ∧ (entered k e count g).demand ≤ g.dmax := by
  obtain ⟨least, most⟩ := clampInt_mem limits
    (rawOutput (enterRegulate e { g with evalTimer := evalInterval, eligible := some count }) e)
  exact stepDemand_mem (g := enterRegulate e { g with evalTimer := evalInterval, eligible := some count }) low high least most

/-- Where the clamp of the rebased integral does not act, the entry to REGULATE leaves D where it stands (R122). -/
theorem entered_bumpless (k : StationId) {e : Int} (count : Nat) {g : Governor} (low : g.dmin ≤ g.demand) (high : g.demand ≤ g.dmax)
    (above : (g.dmin : Int) ≤ g.demand - proportional g e) (below : (g.demand : Int) - proportional g e ≤ g.dmax) :
    proportional g e + rebasedIntegral e g / 64 = g.demand ∧ (entered k e count g).demand = g.demand := by
  have raw : proportional g e + rebasedIntegral e g / 64 = g.demand := by
    unfold rebasedIntegral
    dsimp only
    rw [if_neg (by omega), if_neg (by omega)]
    omega
  have moved := entered_demand k e count g
  dsimp only at moved
  rw [raw, if_neg (by omega), if_neg (by omega), Int.sub_self] at moved
  have still : clampAbs g.dstep 0 = 0 := by
    unfold clampAbs
    rw [if_neg (by omega), if_neg (by omega)]
  rw [still] at moved
  exact ⟨raw, by omega⟩

end Sys2Proof.Machine

namespace Sys2Proof
open Machine

/-- Settles O39: without followers an evaluation is `evaluate` and the attention for its mode. -/
theorem evaluationWithoutStation : Obligations.EvaluationWithoutStation := by
  unfold Obligations.EvaluationWithoutStation
  intro s free g eligible
  have evaluated := fun on => evaluateGovernor_unfollowed (s := s) on free
  refine ⟨fun off => congrArg Host.Outcome.next (if_pos off), fun none => ?_, fun some mode => ?_⟩
  · intro h
    refine ⟨fun hold => congrArg Host.Outcome.next ((evaluated (by rw [hold]; simp)).trans ?_),
      fun regulate => congrArg Host.Outcome.next ((evaluated (by rw [regulate]; simp)).trans ?_),
      fun fallback => congrArg Host.Outcome.next ((evaluated (by rw [fallback]; simp)).trans ?_)⟩
    · rw [evaluate_without none, evaluateWithout_hold (g := { s.governor with evalTimer := evalInterval }) hold]
      exact putGovernor_same rfl
    · rw [evaluate_without none, evaluateWithout_regulate (g := { s.governor with evalTimer := evalInterval }) regulate]
      exact putGovernor_changed (by rw [regulate]; simp)
    · rw [evaluate_without none, evaluateWithout_fallback (g := { s.governor with evalTimer := evalInterval }) fallback, stepDemand_eq]
      exact putGovernor_same rfl
  · intro error clamp
    simp only [eligible, ← eligibleStation_iff] at some ⊢
    obtain ⟨k, control, able, smallest, lowest⟩ := exists_controllingEntry some
    have done := evaluateGovernor_enters free control mode
    have bound : clampAbs errorBound (stationError s.stations[k]) = clamp (-2000) 2000 (error k) := by
      rw [stationError_eq]
      rfl
    rw [bound, length_eligibleEntries] at done
    refine ⟨k, _, able, ?_, ?_, congrArg Host.Outcome.next done, entered_fields .., entered_demand .., entered_nextIntegral .., fun ok => ?_⟩
    · simpa only [stationError_eq] using smallest
    · simpa only [stationError_eq] using lowest
    · have on : g.mode ≠ .off := by rcases mode with e | e <;> rw [e] <;> exact fun e => nomatch e
      obtain ⟨limits, -, -, -, -, -, -, -, -, -, inside, -, -⟩ := ok
      obtain ⟨low, high, -, -⟩ := inside on
      obtain ⟨least, most⟩ := entered_mem k (clamp (-2000) 2000 (error k))
        ((List.finRange 8).countP fun j : StationId => s.stations[j].enabled && s.stations[j].state == .fresh) limits low high
      exact ⟨fun above below => entered_bumpless k _ low high above below, least, most, stepDemand_distance ..⟩

end Sys2Proof
end

section
/-! SUPPORT. The demand handed to the followers where no chain attends them (R40, R127). -/

namespace Sys2Proof.Machine

section
variable {n : ActId} {step d : Nat} {s t : State} {a : Actuator}

/-- A following pump's entry with the demand handed to it (R40). -/
def handedEntry (d step : Nat) (a : Actuator) : Actuator :=
  { a with
    ramp := if clampTarget a d = a.command then none
      else some { target := clampTarget a d, rateStep := step, origin := .follow }
    accumulator := 0 }

/-- The demand handed to one actuator: its entry replaced where it follows. -/
def handed (d : Nat) (t : State) (n : ActId) : State :=
  match t.actuators[n].follow with
  | none => t
  | some step => putActuator n (handedEntry d step t.actuators[n]) t

/-- No chain attends any actuator, and only a RUNNING pump follows. -/
def Handable (s : State) : Prop :=
  ∀ n : ActId, Unattended n s ∧ ∀ step, s.actuators[n].follow = some step → s.actuators[n].state = .running

theorem handed_none (none : s.actuators[n].follow = none) : handed d s n = s := by
  simp only [handed, none]

theorem handed_some (follows : s.actuators[n].follow = some step) :
    handed d s n = putActuator n (handedEntry d step s.actuators[n]) s := by
  simp only [handed, follows]

theorem retarget_handed (ready : Handable s) (n : ActId) (d : Nat) : retarget n d s = handed d s n := by
  obtain ⟨free, running⟩ := ready n
  cases follows : s.actuators[n].follow with
  | none => rw [retarget_unfollowed follows, handed_none follows]
  | some step =>
    rw [handed_some follows]
    exact (retarget_follower (running step follows) follows free).1

theorem handed_other {k : ActId} (ne : n ≠ k) (t : State) :
    (handed d t k).actuators[n] = t.actuators[n] ∧ (handed d t k).outputs[n] = t.outputs[n] := by
  unfold handed
  split
  · exact ⟨rfl, rfl⟩
  · exact putActuator_other ne ..

theorem handed_congr {k : ActId} (actuator : t.actuators[k] = s.actuators[k]) (output : t.outputs[k] = s.outputs[k]) :
    (handed d t k).actuators[k] = (handed d s k).actuators[k] ∧ (handed d t k).outputs[k] = (handed d s k).outputs[k] := by
  cases follows : s.actuators[k].follow with
  | none =>
    rw [handed_none follows, handed_none (actuator ▸ follows)]
    exact ⟨actuator, output⟩
  | some step =>
    rw [handed_some follows, handed_some (s := t) (actuator ▸ follows), (putActuator_self ..).1, (putActuator_self ..).1,
      (putActuator_self ..).2, (putActuator_self ..).2, actuator, output]
    exact ⟨rfl, rfl⟩

theorem Handable.handed (ready : Handable s) (d : Nat) (k : ActId) : Handable (handed d s k) := by
  intro n
  obtain ⟨free, running⟩ := ready n
  cases follows : s.actuators[k].follow with
  | none =>
    rw [handed_none follows]
    exact ⟨free, running⟩
  | some step =>
    rw [handed_some follows]
    by_cases same : n = k
    · subst same
      refine ⟨free.putActuator rfl, fun q _ => ?_⟩
      rw [(putActuator_self ..).1, supervise_state]
      exact running step follows
    · rw [(putActuator_other same ..).1]
      exact ⟨free.congr (congrArg Actuator.cfg (putActuator_other same ..).1) rfl, running⟩

/-- One after another, the actuators take the demand as `handed` says. -/
theorem foldl_retarget (d : Nat) (xs : List ActId) (ready : Handable s) :
    xs.foldl (fun t n => retarget n d t) s = xs.foldl (handed d) s := by
  induction xs generalizing s with
  | nil => rfl
  | cons n xs ih =>
    rw [List.foldl_cons, List.foldl_cons, retarget_handed ready]
    exact ih (ready.handed d n)

/-- The demand handed on changes nothing but actuators and output channels. -/
theorem foldl_handed (d : Nat) (xs : List ActId) (s : State) :
    ∃ actuators outputs, xs.foldl (handed d) s = { s with actuators := actuators, outputs := outputs } := by
  refine List.foldlRecOn (motive := fun t : State => ∃ actuators outputs, t = { s with actuators := actuators, outputs := outputs })
    xs (handed d) ⟨_, _, rfl⟩ fun t h n _ => ?_
  obtain ⟨actuators, outputs, rfl⟩ := h
  unfold handed
  split
  · exact ⟨_, _, rfl⟩
  · exact ⟨_, _, rfl⟩

/-- Every actuator takes the demand as if it were the only one. -/
theorem handDemand_at (ready : Handable s) (n : ActId) :
    (handDemand s).actuators[n] = (retarget n s.governor.demand s).actuators[n] ∧
      (handDemand s).outputs[n] = (retarget n s.governor.demand s).outputs[n] := by
  have fold := foldl_own (act := handed s.governor.demand) (fun t k n ne => handed_other ne t)
    (fun t u k actuator output => handed_congr actuator output) allActuators (List.nodup_finRange 16) s n
  rw [if_pos (mem_allActuators n), if_pos (mem_allActuators n)] at fold
  rw [handDemand, foldl_retarget _ _ ready, retarget_handed ready]
  exact fold

theorem handDemand_frame (ready : Handable s) :
    ∃ actuators outputs, handDemand s = { s with actuators := actuators, outputs := outputs } := by
  rw [handDemand, foldl_retarget _ _ ready]
  exact foldl_handed ..

/-- The governor is replaced alike whatever the actuators. -/
theorem putGovernor_withActuators (g : Governor) (t : Table Actuator 16) (s : State) :
    putGovernor g { s with actuators := t } = { putGovernor g s with actuators := t } := by
  unfold putGovernor
  dsimp only
  split <;> rfl

theorem putGovernor_plant (g : Governor) (s : State) :
    (putGovernor g s).outputs = s.outputs ∧ (putGovernor g s).executors = s.executors := by
  unfold putGovernor
  dsimp only
  split <;> exact ⟨rfl, rfl⟩

theorem clampTarget_nat (a : Actuator) (d : Nat) :
    clampTarget a d = if d < a.cfg.min then a.cfg.min else if a.cfg.max < d then a.cfg.max else d := by
  unfold clampTarget clampInt
  split_ifs <;> omega

theorem handable_of (ok : ActuatorsOk s) (free : ∀ n, Unattended n s) : Handable s := by
  refine fun n => ⟨free n, fun step follows => ?_⟩
  obtain ⟨-, -, -, -, -, slew⟩ := ok n
  rw [follows] at slew
  exact slew.1

end

end Sys2Proof.Machine

namespace Sys2Proof
open Machine

/-- Settles O40: each actuator takes the demand as if alone (`handDemand_at`), and `retarget_follower` says how. -/
theorem followersRetargeted : Obligations.FollowersRetargeted := by
  unfold Obligations.FollowersRetargeted
  intro s on ok free
  generalize hg : evaluate s.stations { s.governor with evalTimer := evalInterval } = g
  have evaluated : evaluateGovernor s = handDemand (putGovernor g s) := by
    rw [← hg]
    exact if_neg on
  have bare : evaluateGovernor { s with actuators := each (fun _ a => { a with follow := none }) s.actuators } =
      { putGovernor g s with actuators := each (fun _ a => { a with follow := none }) s.actuators } := by
    rw [evaluateGovernor_unfollowed (s := { s with actuators := each (fun _ a => { a with follow := none }) s.actuators }) on
      (fun n => by simp), ← putGovernor_withActuators, ← hg]
  have actuators := putGovernor_actuators g s
  obtain ⟨outputs, executors⟩ := putGovernor_plant g s
  generalize putGovernor g s = v at *
  have ready : Handable v := fun n => by
    obtain ⟨unattended, running⟩ := handable_of ok free n
    rw [actuators]
    exact ⟨unattended.congr (by rw [actuators]) executors, running⟩
  obtain ⟨x, y, frame⟩ := handDemand_frame ready
  have alone := handDemand_at ready
  generalize handDemand v = t at *
  refine ⟨_, _, congrArg Host.Outcome.next evaluated, congrArg Host.Outcome.next bare, ?_, fun n => ?_⟩
  · rw [frame]
  · intro a b target
    obtain ⟨entry, output⟩ := alone n
    have before : v.actuators[n] = a := by rw [actuators]
    have demand : t.governor.demand = v.governor.demand := by rw [frame]
    refine ⟨fun none => ?_, fun step follows => ?_⟩
    · rw [retarget_unfollowed (before ▸ none)] at entry output
      exact ⟨entry.trans before, output.trans (by rw [outputs])⟩
    · obtain ⟨-, supervised, whole, channel⟩ := retarget_follower (d := v.governor.demand) ((ready n).2 step (before ▸ follows))
        (before ▸ follows) (ready n).1
      rw [← entry, before] at supervised whole
      rw [← output, before, outputs] at channel
      have aimed : clampTarget a v.governor.demand = target := by
        rw [clampTarget_nat, ← demand]
      rw [aimed] at whole
      exact ⟨whole, supervised, channel⟩

end Sys2Proof
end

section
/-! SUPPORT. The events of the station line (R135 to R144). -/

namespace Sys2Proof.Machine

section
variable {e : StationEvent} {may : Bool} {after : Sampler} {low : Nat} {hand : State → State} {s : State}

/-! ### Events of the sampler (log entry 10) -/

theorem takeStationEvent_decided (decided : s.receiver.decided = some e) :
    takeStationEvent e may after low hand s = hand { s with receiver := { s.receiver with decided := none } } := if_pos decided

theorem takeStationEvent_commanded (decided : s.receiver.decided ≠ some e) (able : may = true) :
    takeStationEvent e may after low hand s = hand (putSampler after low s) := (if_neg decided).trans (if_pos able)

theorem takeStationEvent_ruledOut (decided : s.receiver.decided ≠ some e) (unable : may ≠ true) :
    takeStationEvent e may after low hand s = s := (if_neg decided).trans (if_neg unable)

theorem mayReceive_iff {x : Sampler} : mayReceive x = true ↔ x = .idle ∨ ∃ c, x = .character c := by
  cases x <;> simp [mayReceive]

/-! ### The sixth byte (R137, R138, R141) -/

theorem qualityOf_eq (b : Byte) :
    qualityOf b = if b.toNat % 4 = 0 then .good else if b.toNat % 4 = 1 then .uncertain else .bad := by
  unfold qualityOf
  generalize b.toNat % 4 = n
  match n with
  | 0 => rfl
  | 1 => rfl
  | n + 2 => rfl

theorem qualityOf_bad (b : Byte) : qualityOf b = .bad ↔ 2 ≤ b.toNat % 4 := by
  rw [qualityOf_eq]
  split_ifs with good uncertain
  · exact iff_of_false (fun e => nomatch e) (by omega)
  · exact iff_of_false (fun e => nomatch e) (by omega)
  · exact iff_of_true rfl (by omega)

theorem takenFrame_eq (dp : Nat) (sequence b : Byte) (x : Station) :
    takenFrame dp sequence (qualityOf b) x =
      { x with
        reading := some { dp := if 10000 < dp then 10000 else dp, sequence := sequence, quality := qualityOf b }
        state := if 2 ≤ b.toNat % 4 then .bad else .fresh, staleTimer := some (x.staleTime * 1000000) } := by
  simp only [takenFrame, qualityOf_bad, clampNat, Nat.not_lt_zero, if_false]

/-- A sixth byte is checked with the five before it, in HUNT (R137, R138). -/
theorem stationByte_sixth {address sequence high low quality check : Byte} {n0 n1 n2 n3 n4 noisy : Bool}
    (body : s.receiver.assembler = .body [(address, n0), (sequence, n1), (high, n2), (low, n3), (quality, n4)]) :
    stationByte check noisy s =
      if crc8 [address, sequence, high, low, quality] = check then
        takeStationFrame address sequence (high.toNat * 256 + low.toNat) (qualityOf quality) (putAssembler .hunt s)
      else reject (if n0 || n1 || n2 || n3 || n4 || noisy then .noise else .check) (putAssembler .hunt s) := by
  unfold stationByte
  rw [body]
  dsimp only
  rw [if_neg (by simp)]
  unfold checkStationFrame
  simp only [List.cons_append, List.nil_append, List.map_cons, List.map_nil, List.any_cons, List.any_nil, Bool.or_false, Bool.or_assoc]

/-- A frame with its entry's last sequence is dropped as a repeat, and any other is taken (R141). -/
theorem takeStationFrame_held {address sequence : Byte} {k : StationId} (held : entryAt address.toNat s.stations = some k)
    (dp : Nat) (q : Quality) :
    takeStationFrame address sequence dp q s =
      if s.stations[k].reading.map Reading.sequence = some sequence then reject (.repeated address) s
      else changeStation k (takenFrame dp sequence q s.stations[k]) s := by
  unfold takeStationFrame
  simp only [held]
  cases s.stations[k].reading with
  | none => rfl
  | some r => simp only [Option.map_some, Option.some.injEq, beq_iff_eq]

theorem takeStationFrame_unheld {address : Byte} (unheld : entryAt address.toNat s.stations = none) (sequence : Byte) (dp : Nat)
    (q : Quality) : takeStationFrame address sequence dp q s = reject (.notEnabled address) s := by
  simp only [takeStationFrame, unheld]

/-! ### Bytes before the sixth, framing errors, breaks and stale timers (R137, R143) -/

theorem stationByte_hunt (b : Byte) (noisy : Bool) (hunt : s.receiver.assembler = .hunt) : stationByte b noisy s = s := by
  simp only [stationByte, hunt]

theorem stationByte_address (b : Byte) (noisy : Bool) (opened : s.receiver.assembler = .address) :
    stationByte b noisy s = putAssembler (.body [(b, noisy)]) s := by
  simp only [stationByte, opened]

theorem stationByte_body (b : Byte) (noisy : Bool) {taken : List (Byte × Bool)} (body : s.receiver.assembler = .body taken)
    (few : taken.length < 5) : stationByte b noisy s = putAssembler (.body (taken ++ [(b, noisy)])) s := by
  simp only [stationByte, body]
  exact if_pos few

theorem stationBreakEvent_eq (s : State) :
    stationBreakEvent s =
      { s with
        receiver :=
          { s.receiver with
            assembler := .address
            lastRejection := match s.receiver.assembler with
              | .body _ => .cutShort
              | _ => s.receiver.lastRejection } } := by
  cases form : s.receiver.assembler <;> simp only [stationBreakEvent, form] <;> rfl

theorem stationFraming_eq (s : State) :
    stationFraming s =
      { s with
        receiver :=
          { s.receiver with
            assembler := .hunt
            lastRejection := if s.receiver.assembler = .hunt then s.receiver.lastRejection else .framing } } := by
  unfold stationFraming
  split
  next hunt =>
    rw [if_pos hunt, ← hunt]
  next other =>
    rw [if_neg other]
    rfl

theorem staleExpiry_due {k : StationId} (due : s.stations[k].staleTimer = some 0) :
    staleExpiry k s = changeStation k { s.stations[k] with state := .stale, staleTimer := none } s := by
  simp only [staleExpiry, due]

theorem staleExpiry_still {k : StationId} (early : s.stations[k].staleTimer ≠ some 0) : staleExpiry k s = s := by
  unfold staleExpiry
  split
  next due => exact absurd due early
  next => rfl

theorem stationLineOwner_valid {m : Master} (h : holdsGov m s = true) {baud : Half} (low : 1200 ≤ baud.toNat)
    (high : baud.toNat ≤ 38400) :
    stationLineOwner m baud s =
      (if baud.toNat = s.receiver.baud then s else { s with receiver := receiverAt baud.toNat s.receiver },
        .ok (divisorBytes baud.toNat)) := by
  unfold stationLineOwner
  rw [if_neg (not_not.2 h), if_neg (by omega)]

end

end Sys2Proof.Machine

namespace Sys2Proof
open Machine

/-- Settles O42: the sixth byte is checked (`stationByte_sixth`), and a checked frame finds its entry (`entryAt_of_held`). -/
theorem stationFrameTaken : Obligations.StationFrameTaken := by
  unfold Obligations.StationFrameTaken
  intro address sequence high low quality check n0 n1 n2 n3 n4 noisy s body sampler undecided after result passes holder
  have event : stationCharacterEvent check noisy s = stationByte check noisy (putSampler .idle 0 s) :=
    takeStationEvent_commanded (by rw [undecided]; exact fun e => nomatch e) (mayReceive_iff.2 sampler)
  have sixth := event.trans (stationByte_sixth (s := putSampler .idle 0 s) body)
  have stations : (putAssembler .hunt (putSampler .idle 0 s)).stations = s.stations := rfl
  refine ⟨fun fails => congrArg Host.Outcome.next (sixth.trans (if_neg fails)), fun ok none => ?_, fun ok distinct k held => ?_⟩
  · exact congrArg Host.Outcome.next ((sixth.trans (if_pos ok)).trans 
      (takeStationFrame_unheld (s := putAssembler .hunt (putSampler .idle 0 s)) (entryAt_none none) ..))
  · obtain ⟨enabled, at_address⟩ := held
    have taken := (sixth.trans (if_pos ok)).trans
      (takeStationFrame_held (s := putAssembler .hunt (putSampler .idle 0 s)) (entryAt_of_held distinct enabled at_address) ..)
    refine ⟨fun same => congrArg Host.Outcome.next (taken.trans (if_pos same)), fun new => ?_⟩
    intro dp q state v
    have frame : takenFrame (high.toNat * 256 + low.toNat) sequence (qualityOf quality) s.stations[k] =
        { s.stations[k] with
          reading := some { dp := if 10000 < dp then 10000 else dp, sequence := sequence, quality := q }
          state := state, staleTimer := some (s.stations[k].staleTime * 1000000) } := by
      rw [takenFrame_eq, qualityOf_eq]
    have stored := taken.trans (if_neg new)
    rw [stations, frame] at stored
    by_cases same : s.stations[k].state = state
    · rw [if_pos same]
      exact congrArg Host.Outcome.next (stored.trans (changeStation_same same.symm))
    · rw [if_neg same]
      exact congrArg Host.Outcome.next (stored.trans (changeStation_changed (Ne.symm same)))

/-- Settles O43: each event as its own lemma says, handed on, commanded or ruled out as `takeStationEvent` decides. -/
theorem stationLineEvents : Obligations.StationLineEvents := by
  unfold Obligations.StationLineEvents
  intro s r hands broken framed
  have hears : ∀ {x : Sampler}, mayReceive x = true ↔ x = .idle ∨ ∃ c, x = .character c := mayReceive_iff
  have deaf : ∀ {x : Sampler}, x = .markWait ∨ x = .lowWatch → ¬ mayReceive x = true := by
    rintro x (e | e) <;> rw [e] <;> exact Bool.false_ne_true
  refine ⟨fun undecided => ?_, fun decided => ?_, fun decided => ?_, fun byte noisy decided opened => ?_, fun count few => ?_,
    fun mark => ?_, fun k => ?_, fun q baud hl holder low high => ?_⟩
  · have other : ∀ e, s.receiver.decided ≠ some e := fun e => by rw [show s.receiver.decided = none from undecided]; exact fun e => nomatch e
    refine ⟨fun able => congrArg Host.Outcome.next ?_, fun unable => congrArg Host.Outcome.next ?_,
      fun able => congrArg Host.Outcome.next ?_, fun unable => congrArg Host.Outcome.next ?_, fun byte noisy => ⟨fun unable => ?_, fun able => ?_⟩⟩
    · exact (takeStationEvent_commanded (other _) (bne_iff_ne.2 able)).trans (stationBreakEvent_eq _)
    · exact takeStationEvent_ruledOut (other _) (mt bne_iff_ne.1 (not_not.2 unable))
    · exact (takeStationEvent_commanded (other _) (beq_iff_eq.2 able)).trans (stationFraming_eq _)
    · exact takeStationEvent_ruledOut (other _) (mt beq_iff_eq.1 unable)
    · exact congrArg Host.Outcome.next (takeStationEvent_ruledOut (other _) (deaf unable))
    · intro idle
      have event : stationCharacterEvent byte noisy s = stationByte byte noisy (putSampler .idle 0 s) :=
        takeStationEvent_commanded (other _) (hears.2 able)
      refine ⟨fun hunt => congrArg Host.Outcome.next (event.trans ?_), fun opened => congrArg Host.Outcome.next (event.trans ?_),
        fun taken body _ few => congrArg Host.Outcome.next (event.trans ?_)⟩
      · refine (stationByte_hunt (s := putSampler .idle 0 s) byte noisy hunt).trans ?_
        show _ = { s with receiver := { s.receiver with sampler := .idle, lowCount := 0, assembler := .hunt } }
        rw [← show s.receiver.assembler = .hunt from hunt]
        rfl
      · exact stationByte_address _ _ opened
      · exact stationByte_body _ _ body (Nat.lt_succ_of_le few)
  · exact congrArg Host.Outcome.next ((takeStationEvent_decided decided).trans (stationBreakEvent_eq _))
  · exact congrArg Host.Outcome.next ((takeStationEvent_decided decided).trans (stationFraming_eq _))
  · exact congrArg Host.Outcome.next ((takeStationEvent_decided decided).trans (stationByte_address _ _ opened))
  · exact ⟨fun able => congrArg Host.Outcome.next (if_pos (hears.2 able)), fun unable => congrArg Host.Outcome.next (if_neg (deaf unable))⟩
  · exact congrArg Host.Outcome.next (if_pos mark)
  · exact ⟨fun due fresh => congrArg Host.Outcome.next ((staleExpiry_due due).trans (changeStation_changed (Ne.symm fresh))),
      fun early => congrArg Host.Outcome.next (staleExpiry_still early)⟩
  · intro u n answer
    have holds : holdsGov q.master u = true := by
      rw [holdsGov_acceptFrame, holdsGov_iff]
      exact holder
    have receiver : u.receiver = r := acceptFrame_receiver ..
    have served := stationLineOwner_valid holds low high
    rw [receiver] at served
    refine ⟨fun same => exec_servedInTime rfl hl ?_, fun new => exec_servedInTime rfl hl ?_⟩
    · rw [if_pos same] at served
      exact served
    · rw [if_neg new] at served
      exact served

end Sys2Proof
end

section
/-! SUPPORT. A character in reception, sample by sample (R135, R170). -/

namespace Sys2Proof.Machine

/-- The samples `xs` take a character in reception from `c` to `d`, none of them its last or a false start. -/
def Takes (last : Nat) : List Bool → Reception → Reception → Prop
  | [], c, d => c = d
  | x :: xs, c, d => ∃ e, c.take last x = .goesOn e ∧ Takes last xs e d

/-- Each of the bits held for the 16 samples of a bit time. -/
def heldBits (xs : List Bool) : List Bool := xs.flatMap fun x => List.replicate 16 x

section
variable {last : Nat} {xs ys : List Bool} {c d e : Reception}

theorem Takes.append (first : Takes last xs c d) (next : Takes last ys d e) : Takes last (xs ++ ys) c e := by
  induction xs generalizing c with
  | nil => exact first ▸ next
  | cons x xs ih =>
    obtain ⟨b, taken, first⟩ := first
    exact ⟨b, taken, ih first⟩

/-- Samples 1 to 6 and 10 to 16 of a bit decide nothing. -/
theorem take_quiet {c : Reception} (place : c.samples % 16 < 6 ∨ 9 ≤ c.samples % 16) (level : Bool) :
    c.take last level = .goesOn { c with samples := c.samples + 1 } := by
  unfold Reception.take
  dsimp only
  split
  · rw [if_neg (by omega)]
  · rw [if_neg (by omega), if_neg (by omega)]

theorem takes_quiet (level : Bool) (n : Nat) {c : Reception}
    (places : ∀ i, i < n → (c.samples + i) % 16 < 6 ∨ 9 ≤ (c.samples + i) % 16) :
    Takes last (List.replicate n level) c { c with samples := c.samples + n } := by
  induction n generalizing c with
  | zero => exact rfl
  | succ n ih =>
    rw [List.replicate_succ]
    have rest := ih (c := { c with samples := c.samples + 1 }) fun i h => by
      have := places (i + 1) (by omega)
      show (c.samples + 1 + i) % 16 < 6 ∨ 9 ≤ (c.samples + 1 + i) % 16
      omega
    refine ⟨_, take_quiet (places 0 (by omega)) level, ?_⟩
    show Takes last (List.replicate n level) { c with samples := c.samples + 1 } { c with samples := c.samples + (n + 1) }
    rw [Nat.add_comm n 1, ← Nat.add_assoc]
    exact rest

/-- The samples of the start bit after the first, up to sample 7, and those that are low, go on. -/
theorem takes_startBit {c : Reception} (inside : c.samples + xs.length ≤ 7) :
    Takes last xs c { c with samples := c.samples + xs.length } := by
  induction xs generalizing c with
  | nil => exact rfl
  | cons x xs ih =>
    rw [List.length_cons] at inside ⊢
    have rest := ih (c := { c with samples := c.samples + 1 }) (by show c.samples + 1 + xs.length ≤ 7; omega)
    refine ⟨{ c with samples := c.samples + 1 }, ?_, ?_⟩
    · unfold Reception.take
      dsimp only
      rw [if_pos (by omega), if_neg (by omega)]
    · rw [Nat.add_comm xs.length 1, ← Nat.add_assoc]
      exact rest

theorem takes_start : Takes last (List.replicate 8 false) .start { Reception.start with samples := 9 } :=
  ⟨_, rfl, _, rfl, _, rfl, _, rfl, _, rfl, _, rfl, _, rfl, _, rfl, rfl⟩

/-- Samples 7, 8 and 9 of a bit (R135): the first two are counted. -/
theorem take_counted {bit : Nat} (later : 1 ≤ bit) (place : c.samples = 16 * bit + 6 ∨ c.samples = 16 * bit + 7) (level : Bool) :
    c.take last level = .goesOn { c with samples := c.samples + 1, highs := c.highs + level.toNat } := by
  unfold Reception.take
  dsimp only
  rw [if_neg (by omega), if_pos (by omega)]

theorem take_decides {bit : Nat} (later : 1 ≤ bit) (place : c.samples = 16 * bit + 8) (level : Bool) :
    c.take last level =
      if bit = last then
        .complete (c.bits ++ [decide (2 ≤ c.highs + level.toNat)])
          (c.noisy || (c.highs + level.toNat != 0 && c.highs + level.toNat != 3))
      else .goesOn
        { samples := 16 * bit + 9, highs := 0, bits := c.bits ++ [decide (2 ≤ c.highs + level.toNat)]
          noisy := c.noisy || (c.highs + level.toNat != 0 && c.highs + level.toNat != 3) } := by
  have number : c.samples / 16 = bit := by omega
  unfold Reception.take
  dsimp only
  rw [if_neg (by omega), if_neg (by omega), if_pos (by omega), number, place]

theorem majority_of (l7 l8 l9 : Bool) :
    decide (2 ≤ 0 + l7.toNat + l8.toNat + l9.toNat) = ((l7 && l8) || (l7 && l9) || (l8 && l9)) ∧
      ((0 + l7.toNat + l8.toNat + l9.toNat != 0 && 0 + l7.toNat + l8.toNat + l9.toNat != 3) = !(l7 == l8 && l8 == l9)) := by
  revert l7 l8 l9
  decide

/-- The three samples that decide a bit, one after another (R135). -/
theorem take_bit {bit : Nat} (later : 1 ≤ bit) (place : c.samples = 16 * bit + 6) (none : c.highs = 0) (l7 l8 l9 : Bool) :
    ∃ c7 c8, c.take last l7 = .goesOn c7 ∧ c7.take last l8 = .goesOn c8 ∧
      c8.take last l9 =
        if bit = last then
          .complete (c.bits ++ [(l7 && l8) || (l7 && l9) || (l8 && l9)]) (c.noisy || !(l7 == l8 && l8 == l9))
        else .goesOn
          { samples := 16 * bit + 9, highs := 0, bits := c.bits ++ [(l7 && l8) || (l7 && l9) || (l8 && l9)]
            noisy := c.noisy || !(l7 == l8 && l8 == l9) } := by
  obtain ⟨majority, differ⟩ := majority_of l7 l8 l9
  refine ⟨_, _, take_counted later (.inl place) l7, take_counted later (.inr ?_) l8, (take_decides later ?_ l9).trans ?_⟩
  · show c.samples + 1 = _
    omega
  · show c.samples + 1 + 1 = _
    omega
  · dsimp only
    rw [none, majority, differ]

/-- From sample 9 of a bit to sample 6 of the next. -/
theorem takes_between {bit : Nat} (place : c.samples = 16 * bit + 9) (l k : Bool) :
    Takes last (List.replicate 7 l ++ List.replicate 6 k) c { c with samples := 16 * (bit + 1) + 6 } := by
  have first := takes_quiet (last := last) l 7 (c := c) fun i h => by omega
  have second := takes_quiet (last := last) k 6 (c := { c with samples := c.samples + 7 }) fun i h => by
    show (c.samples + 7 + i) % 16 < 6 ∨ 9 ≤ (c.samples + 7 + i) % 16
    omega
  have place' : 16 * (bit + 1) + 6 = c.samples + 7 + 6 := by omega
  rw [place']
  exact first.append second

/-- From sample 9 of a bit to sample 9 of the next, which is held at `x` and is not the last. -/
theorem takes_bit {bit : Nat} (place : c.samples = 16 * bit + 9) (none : c.highs = 0) (more : bit + 1 ≠ last) (l x : Bool) :
    Takes last (List.replicate 7 l ++ List.replicate 9 x) c
      { samples := 16 * (bit + 1) + 9, highs := 0, bits := c.bits ++ [x], noisy := c.noisy } := by
  obtain ⟨c7, c8, h7, h8, h9⟩ :=
    take_bit (last := last) (bit := bit + 1) (c := { c with samples := 16 * (bit + 1) + 6 }) (by omega) rfl none x x x
  rw [if_neg more] at h9
  have same : ((x && x) || (x && x) || (x && x)) = x ∧ (c.noisy || !(x == x && x == x)) = c.noisy := by cases x <;> simp
  dsimp only at h9
  rw [same.1, same.2] at h9
  have three : Takes last (List.replicate 3 x) { c with samples := 16 * (bit + 1) + 6 }
      { samples := 16 * (bit + 1) + 9, highs := 0, bits := c.bits ++ [x], noisy := c.noisy } :=
    ⟨c7, h7, c8, h8, _, h9, rfl⟩
  have whole := (takes_between (last := last) place l x).append three
  rwa [List.append_assoc, List.replicate_append_replicate] at whole

/-- From sample 9 of a bit to the last sample of the character, each bit held for its 16 samples. -/
theorem takes_character {bit : Nat} (place : c.samples = 16 * bit + 9) (none : c.highs = 0) (end_at : bit + xs.length + 1 = last)
    (l stop : Bool) :
    ∃ d, Takes last (List.replicate 7 l ++ (heldBits xs ++ List.replicate 8 stop)) c d ∧
      d.take last stop = .complete (c.bits ++ xs ++ [stop]) c.noisy := by
  induction xs generalizing c bit l with
  | nil =>
    obtain ⟨c7, c8, h7, h8, h9⟩ :=
      take_bit (last := last) (bit := bit + 1) (c := { c with samples := 16 * (bit + 1) + 6 }) (by omega) rfl none stop stop stop
    rw [if_pos (by simpa using end_at)] at h9
    have same : ((stop && stop) || (stop && stop) || (stop && stop)) = stop ∧
        (c.noisy || !(stop == stop && stop == stop)) = c.noisy := by cases stop <;> simp
    dsimp only at h9
    rw [same.1, same.2] at h9
    have two : Takes last (List.replicate 2 stop) { c with samples := 16 * (bit + 1) + 6 } c8 := ⟨c7, h7, c8, h8, rfl⟩
    have whole := (takes_between (last := last) place l stop).append two
    rw [List.append_assoc, List.replicate_append_replicate] at whole
    rw [List.append_nil]
    exact ⟨c8, whole, h9⟩
  | cons x xs ih =>
    rw [List.length_cons] at end_at
    obtain ⟨d, rest, complete⟩ := ih (bit := bit + 1)
      (c := { samples := 16 * (bit + 1) + 9, highs := 0, bits := c.bits ++ [x], noisy := c.noisy }) rfl rfl (by omega) x
    have whole := (takes_bit (last := last) place none (by omega) l x).append rest
    have split : List.replicate 7 l ++ (heldBits (x :: xs) ++ List.replicate 8 stop) =
        List.replicate 7 l ++ List.replicate 9 x ++ (List.replicate 7 x ++ (heldBits xs ++ List.replicate 8 stop)) := by
      simp only [heldBits, List.flatMap_cons, List.append_assoc]
      rw [← List.append_assoc (List.replicate 9 x), List.replicate_append_replicate]
    rw [split]
    exact ⟨d, whole, by simpa using complete⟩

/-- A whole character after its first low sample. -/
theorem takes_whole (bits : List Bool) (end_at : bits.length + 1 = last) (stop : Bool) :
    ∃ d, Takes last (List.replicate 15 false ++ (heldBits bits ++ List.replicate 8 stop)) .start d ∧
      d.take last stop = .complete (bits ++ [stop]) false := by
  obtain ⟨d, taken, complete⟩ := takes_character (xs := bits) (last := last) (bit := 0) (c := { Reception.start with samples := 9 })
    rfl rfl (by omega) false stop
  have whole := (takes_start (last := last)).append taken
  rw [← List.append_assoc, List.replicate_append_replicate] at whole
  exact ⟨d, whole, complete⟩

end

end Sys2Proof.Machine
end

section
/-! SUPPORT. The station sampler and the receivers of the link ports over a whole character (R135, R136, R170, R177). -/

namespace Sys2Proof.Machine

/-! ### The station sampler -/

section
variable {r : StationReceiver} {x : Bool} {rest : List Bool} {c d : Reception}

/-- A sample where the low stretch is shorter than a break (R135, R136). -/
theorem sampleStation_short (ahead : r.input.ahead = x :: rest) (few : x = true ∨ r.lowCount + 1 < 176) :
    sampleStation r =
      samplerStep (!x && r.lowCount == 0)
        { r with input := { level := x, ahead := rest }, lowCount := if x then 0 else r.lowCount + 1 } := by
  have next : r.input.next = { level := x, ahead := rest } := by rw [LineInput.next, ahead]
  unfold sampleStation
  rw [next]
  dsimp only
  rw [if_neg]
  rintro ⟨long, -⟩
  rcases few with high | few
  · rw [if_pos high] at long
    exact absurd long (by decide)
  · unfold breakSamples at long
    split at long <;> omega

theorem sampleStation_goesOn (sampler : r.sampler = .character c) (ahead : r.input.ahead = x :: rest)
    (few : r.lowCount + 1 < 176) (taken : c.take 9 x = .goesOn d) :
    sampleStation r =
      { r with
        input := { level := x, ahead := rest }, lowCount := if x then 0 else r.lowCount + 1, sampler := .character d } := by
  rw [sampleStation_short ahead (.inr few), samplerStep]
  dsimp only
  rw [sampler]
  dsimp only
  rw [show stationStopBit = 9 from rfl, taken]

/-- The samples of a character, none of them its last. -/
theorem sampleStation_takes {xs : List Bool} (sampler : r.sampler = .character c) (ahead : r.input.ahead = xs ++ rest)
    (few : r.lowCount + xs.length < 176) (taken : Takes 9 xs c d) :
    ∃ level low, low ≤ r.lowCount + xs.length ∧ ((∀ x ∈ xs, x = false) → low = r.lowCount + xs.length) ∧
      sampleStation^[xs.length] r =
        { r with input := { level := level, ahead := rest }, lowCount := low, sampler := .character d } := by
  induction xs generalizing r c with
  | nil =>
    cases taken
    refine ⟨r.input.level, r.lowCount, Nat.le_refl _, fun _ => rfl, ?_⟩
    rw [List.nil_append] at ahead
    rw [List.length_nil, Function.iterate_zero_apply, ← sampler, ← ahead]
  | cons x xs ih =>
    obtain ⟨e, first, next⟩ := taken
    rw [List.length_cons] at few ⊢
    have step := sampleStation_goesOn (rest := xs ++ rest) sampler ahead (by omega) first
    have counted : (if x then 0 else r.lowCount + 1) ≤ r.lowCount + 1 := by split <;> omega
    obtain ⟨level, low, bound, lows, run⟩ := ih
      (r := { r with
        input := { level := x, ahead := xs ++ rest }, lowCount := if x then 0 else r.lowCount + 1, sampler := .character e })
      rfl rfl (by dsimp only; omega) next
    refine ⟨level, low, by dsimp only at bound; omega, fun all => ?_, ?_⟩
    · rw [lows fun y mem => all y (List.mem_cons_of_mem x mem), all x List.mem_cons_self]
      dsimp only
      rw [if_neg Bool.false_ne_true]
      omega
    · rw [Function.iterate_succ_apply, step, run]

/-- The first low sample after a high one begins a character (R135). -/
theorem sampleStation_start (sampler : r.sampler = .idle) (none : r.lowCount = 0) (ahead : r.input.ahead = false :: rest) :
    sampleStation r =
      { r with input := { level := false, ahead := rest }, lowCount := 1, sampler := .character .start } := by
  rw [sampleStation_short ahead (.inr (by omega)), samplerStep]
  dsimp only
  rw [sampler, none]
  rfl

/-- A high sample that is the last of a character. -/
theorem sampleStation_high (sampler : r.sampler = .character c) (ahead : r.input.ahead = true :: rest) :
    sampleStation r =
      match c.take 9 true with
      | .goesOn c => { r with input := { level := true, ahead := rest }, lowCount := 0, sampler := .character c }
      | .falseStart => { r with input := { level := true, ahead := rest }, lowCount := 0, sampler := .idle }
      | .complete bits noisy =>
        stationDecided bits noisy { r with input := { level := true, ahead := rest }, lowCount := 0 } := by
  rw [sampleStation_short ahead (.inl rfl), samplerStep]
  dsimp only
  rw [sampler]
  rfl

theorem sampleStation_lowWatch (sampler : r.sampler = .lowWatch) (ahead : r.input.ahead = false :: rest)
    (few : r.lowCount + 1 < 176) :
    sampleStation r = { r with input := { level := false, ahead := rest }, lowCount := r.lowCount + 1 } := by
  rw [sampleStation_short ahead (.inr few), samplerStep]
  dsimp only
  rw [sampler]
  rfl

/-- A character up to its last sample (R135): eight bits after the start bit, and the samples of the stop bit. -/
theorem sampleStation_character {bits : List Bool} {stop : Bool} (sampler : r.sampler = .idle) (none : r.lowCount = 0)
    (eight : bits.length = 8) (ahead : r.input.ahead = heldBits (false :: bits) ++ List.replicate 9 stop ++ rest) :
    ∃ d level low, sampleStation^[152] r =
        { r with input := { level := level, ahead := stop :: rest }, lowCount := low, sampler := .character d } ∧
      d.take 9 stop = .complete (bits ++ [stop]) false ∧ low ≤ 152 ∧ ((∀ x ∈ bits, x = false) → stop = false → low = 152) := by
  have sent : heldBits (false :: bits) ++ List.replicate 9 stop ++ rest =
      false :: ((List.replicate 15 false ++ (heldBits bits ++ List.replicate 8 stop)) ++ (stop :: rest)) := by
    rw [show List.replicate 9 stop = List.replicate 8 stop ++ [stop] from List.replicate_succ' ..]
    simp only [heldBits, List.flatMap_cons, List.append_assoc, List.singleton_append]
    rfl
  rw [sent] at ahead
  obtain ⟨d, taken, complete⟩ := takes_whole (last := 9) bits (by omega) stop
  have long : (List.replicate 15 false ++ (heldBits bits ++ List.replicate 8 stop)).length = 151 := by
    simp only [List.length_append, List.length_replicate, heldBits, List.length_flatMap, List.map_const', List.sum_replicate,
      smul_eq_mul, eight]
  obtain ⟨level, low, bound, lows, run⟩ := sampleStation_takes
    (r := { r with
      input := { level := false, ahead := (List.replicate 15 false ++ (heldBits bits ++ List.replicate 8 stop)) ++ (stop :: rest) }
      lowCount := 1, sampler := .character .start }) rfl rfl (by rw [long]; exact (by decide : 1 + 151 < 176)) taken
  rw [long] at bound lows run
  refine ⟨d, level, low, ?_, complete, bound, fun dark quiet => lows fun x mem => ?_⟩
  · rw [show 152 = 151 + 1 from rfl, Function.iterate_succ_apply, sampleStation_start sampler none ahead]
    exact run
  · simp only [List.mem_append, List.mem_replicate, heldBits, List.mem_flatMap] at mem
    rcases mem with ⟨-, e⟩ | ⟨y, mem, -, e⟩ | ⟨-, e⟩
    · exact e
    · exact e.trans (dark y mem)
    · exact e.trans quiet

/-- The samples of LOW_WATCH (R136). -/
theorem sampleStation_lows {n : Nat} (sampler : r.sampler = .lowWatch) (ahead : r.input.ahead = List.replicate n false ++ rest)
    (few : r.lowCount + n < 176) (level : r.input.level = false) :
    sampleStation^[n] r = { r with input := { level := false, ahead := rest }, lowCount := r.lowCount + n } := by
  induction n generalizing r with
  | zero =>
    rw [List.replicate_zero, List.nil_append] at ahead
    rw [Function.iterate_zero_apply, ← ahead, ← level]
    rfl
  | succ n ih =>
    have step := sampleStation_lowWatch (rest := List.replicate n false ++ rest) sampler ahead (by omega)
    rw [Function.iterate_succ_apply, step,
      ih (r := { r with input := { level := false, ahead := List.replicate n false ++ rest }, lowCount := r.lowCount + 1 })
        sampler rfl (by dsimp only; omega) rfl]
    dsimp only
    rw [Nat.add_assoc, Nat.add_comm 1 n]

/-- A line that stays low past the stop bit (R135, R136). -/
theorem sampleStation_low {k : Nat} (sampler : r.sampler = .idle) (none : r.lowCount = 0) (least : 153 ≤ k) (few : k < 176)
    (ahead : r.input.ahead = List.replicate k false ++ rest) :
    sampleStation^[k] r = { r with input := { level := false, ahead := rest }, lowCount := k, sampler := .lowWatch } := by
  obtain ⟨n, rfl⟩ := Nat.exists_eq_add_of_le least
  have dark : List.replicate (153 + n) false ++ rest =
      heldBits (false :: List.replicate 8 false) ++ List.replicate 9 false ++ (List.replicate n false ++ rest) := by
    rw [← List.replicate_append_replicate, List.append_assoc]
    rfl
  rw [dark] at ahead
  obtain ⟨d, level, low, run, complete, -, lows⟩ := sampleStation_character sampler none rfl ahead
  have all : low = 152 := lows (fun x mem => (List.mem_replicate.1 mem).2) rfl
  subst all
  have last := sampleStation_short (r := { r with
    input := { level := level, ahead := false :: (List.replicate n false ++ rest) }, lowCount := 152, sampler := .character d })
    rfl (.inr (by dsimp only; decide))
  have watched : sampleStation^[153] r =
      { r with input := { level := false, ahead := List.replicate n false ++ rest }, lowCount := 153, sampler := .lowWatch } := by
    rw [show 153 = 152 + 1 from rfl, Function.iterate_succ_apply', run, last, samplerStep]
    dsimp only
    rw [show stationStopBit = 9 from rfl, complete]
    rfl
  rw [Nat.add_comm 153 n, Function.iterate_add_apply, watched, sampleStation_lows rfl rfl (by dsimp only; omega) rfl]
  dsimp only
  rw [Nat.add_comm 153 n]

/-- The bits of a byte, the least significant first. -/
def bitsOf (b : Byte) : List Bool := (List.range 8).map fun i => b.getLsbD i

theorem byteOfBits_bitsOf (b : Byte) (more : List Bool) : byteOfBits (bitsOf b ++ more) = b := by
  have eight : (bitsOf b ++ more).take 8 = bitsOf b := List.take_left' (by simp [bitsOf])
  have digit : ∀ i, (b.getLsbD i).toNat = b.toNat / 2 ^ i % 2 := fun i => Nat.toNat_testBit ..
  have small := b.isLt
  refine BitVec.eq_of_toNat_eq ?_
  unfold byteOfBits
  rw [eight, BitVec.toNat_ofNat, bitsOf, show List.range 8 = [0, 1, 2, 3, 4, 5, 6, 7] from rfl]
  simp only [List.map_cons, List.map_nil, List.foldr_cons, List.foldr_nil, digit]
  omega

end

end Sys2Proof.Machine
end

section
/-! SUPPORT. The receivers of the link ports over a whole character (R170, R177), and both receivers' statement. -/

namespace Sys2Proof.Machine

section
variable {r : StationReceiver} {rest : List Bool}

theorem stationDecided_high (b : Byte) (r : StationReceiver) :
    stationDecided (bitsOf b ++ [true]) false r = { r with sampler := .idle, decided := some (.character b false) } := by
  unfold stationDecided
  rw [byteOfBits_bitsOf]
  exact if_pos rfl

/-- The 176th low sample is a break, but in MARK_WAIT (R136). -/
theorem sampleStation_break (sampler : r.sampler ≠ .markWait) (lows : r.lowCount = 175) (ahead : r.input.ahead = false :: rest) :
    sampleStation r =
      { r with
        input := { level := false, ahead := rest }, lowCount := 176, sampler := .markWait, decided := some .brk } := by
  have next : r.input.next = { level := false, ahead := rest } := by rw [LineInput.next, ahead]
  unfold sampleStation
  rw [next]
  dsimp only
  rw [if_neg Bool.false_ne_true, lows]
  exact if_pos ⟨by decide, sampler⟩

theorem sampleStation_framing (sampler : r.sampler = .lowWatch) (ahead : r.input.ahead = true :: rest) :
    sampleStation r =
      { r with
        input := { level := true, ahead := rest }, lowCount := 0, sampler := .idle, decided := some .framingError } := by
  rw [sampleStation_short ahead (.inl rfl), samplerStep]
  dsimp only
  rw [sampler]
  rfl

theorem sampleStation_markWait (mark : r.sampler = .markWait) :
    sampleStation r =
      { r with
        input := r.input.next, sampler := if r.input.next.level then .idle else .markWait
        lowCount := if r.input.next.level then 0 else r.lowCount + 1 } := by
  unfold sampleStation
  dsimp only
  rw [if_neg (fun h => h.2 mark), samplerStep]
  dsimp only
  rw [mark]
  cases r.input.next.level <;> simp

/-- A line that is high at sample 8 of a start bit was a false start (R135). -/
theorem sampleStation_falseStart {xs : List Bool} (idle : r.sampler = .idle) (none : r.lowCount = 0) (six : xs.length = 6)
    (ahead : r.input.ahead = false :: (xs ++ true :: rest)) :
    sampleStation^[8] r = { r with input := { level := true, ahead := rest } } := by
  have inside : Takes 9 xs .start { Reception.start with samples := 1 + xs.length } :=
    takes_startBit (by rw [six]; decide)
  obtain ⟨level, low, -, -, run⟩ := sampleStation_takes
    (r := { r with input := { level := false, ahead := xs ++ true :: rest }, lowCount := 1, sampler := .character .start })
    rfl rfl (by rw [six]; exact (by decide : 1 + 6 < 176)) inside
  rw [six] at run
  have last := sampleStation_high
    (r := { r with
      input := { level := level, ahead := true :: rest }, lowCount := low
      sampler := .character { Reception.start with samples := 7 } }) rfl rfl
  rw [show (8 : Nat) = 6 + 1 + 1 from rfl, Function.iterate_succ_apply', Function.iterate_succ_apply,
    sampleStation_start idle none ahead, run]
  refine last.trans ?_
  rw [← idle, ← none]
  rfl

end

section
variable {p : Port} {x : Bool} {rest : List Bool} {c d : Reception}

theorem next_of_ahead {i : LineInput} (ahead : i.ahead = x :: rest) : i.next = { level := x, ahead := rest } := by
  rw [LineInput.next, ahead]

/-- A sample in LISTEN (R170). -/
theorem samplePort_listen (phase : p.phase = .listen) :
    samplePort p = receiverStep (!p.input.next.level && p.input.level) { p with input := p.input.next } := by
  unfold samplePort
  dsimp only
  rw [if_neg (by rw [phase]; exact fun e => nomatch e), if_neg]
  rw [receiverStep_frame]
  dsimp only
  rw [phase]
  exact fun e => nomatch e

theorem samplePort_character (phase : p.phase = .listen) (receiver : p.receiver = .character c)
    (ahead : p.input.ahead = x :: rest) :
    samplePort p =
      match c.take (portStopBit p.line) x with
      | .goesOn c => { p with input := { level := x, ahead := rest }, receiver := .character c }
      | .falseStart => { p with input := { level := x, ahead := rest }, receiver := .idle }
      | .complete bits noisy =>
        { p with
          input := { level := x, ahead := rest }, receiver := receiverAfter (linkCharacter p.line bits noisy).2
          decided := some (linkCharacter p.line bits noisy) } := by
  rw [samplePort_listen phase, next_of_ahead ahead, receiverStep]
  dsimp only
  rw [receiver] <;> rfl

/-- The samples of a character, none of them its last. -/
theorem samplePort_takes {xs : List Bool} (phase : p.phase = .listen) (receiver : p.receiver = .character c)
    (ahead : p.input.ahead = xs ++ rest) (taken : Takes (portStopBit p.line) xs c d) :
    ∃ level, samplePort^[xs.length] p =
      { p with input := { level := level, ahead := rest }, receiver := .character d } := by
  induction xs generalizing p c with
  | nil =>
    cases taken
    refine ⟨p.input.level, ?_⟩
    rw [List.nil_append] at ahead
    rw [List.length_nil, Function.iterate_zero_apply, ← receiver, ← ahead]
  | cons x xs ih =>
    obtain ⟨e, first, next⟩ := taken
    have step := samplePort_character (rest := xs ++ rest) phase receiver ahead
    rw [first] at step
    dsimp only at step
    obtain ⟨level, run⟩ := ih (p := { p with input := { level := x, ahead := xs ++ rest }, receiver := .character e })
      phase rfl rfl next
    exact ⟨level, by rw [List.length_cons, Function.iterate_succ_apply, step, run]⟩

/-- The first low sample after a high one begins a character (R170). -/
theorem samplePort_start (phase : p.phase = .listen) (receiver : p.receiver = .idle) (high : p.input.level = true)
    (ahead : p.input.ahead = false :: rest) :
    samplePort p = { p with input := { level := false, ahead := rest }, receiver := .character .start } := by
  rw [samplePort_listen phase, next_of_ahead ahead, receiverStep]
  dsimp only
  rw [receiver, high]
  rfl

/-- A character of the port's format, whole (R170). -/
theorem samplePort_whole {bits : List Bool} {stop : Bool} (phase : p.phase = .listen) (receiver : p.receiver = .idle)
    (high : p.input.level = true) (format : bits.length + 1 = portStopBit p.line)
    (ahead : p.input.ahead = heldBits (false :: bits) ++ List.replicate 9 stop ++ rest) :
    samplePort^[16 * (bits.length + 1) + 9] p =
      { p with
        input := { level := stop, ahead := rest }
        receiver := receiverAfter (linkCharacter p.line (bits ++ [stop]) false).2
        decided := some (linkCharacter p.line (bits ++ [stop]) false) } := by
  have sent : heldBits (false :: bits) ++ List.replicate 9 stop ++ rest =
      false :: ((List.replicate 15 false ++ (heldBits bits ++ List.replicate 8 stop)) ++ (stop :: rest)) := by
    rw [show List.replicate 9 stop = List.replicate 8 stop ++ [stop] from List.replicate_succ' ..]
    simp only [heldBits, List.flatMap_cons, List.append_assoc, List.singleton_append]
    rfl
  rw [sent] at ahead
  obtain ⟨d, taken, complete⟩ := takes_whole (last := portStopBit p.line) bits format stop
  have long : (List.replicate 15 false ++ (heldBits bits ++ List.replicate 8 stop)).length = 16 * bits.length + 23 := by
    simp only [List.length_append, List.length_replicate, heldBits, List.length_flatMap, List.map_const', List.sum_replicate,
      smul_eq_mul]
    omega
  obtain ⟨level, run⟩ := samplePort_takes
    (p := { p with
      input := { level := false, ahead := (List.replicate 15 false ++ (heldBits bits ++ List.replicate 8 stop)) ++ (stop :: rest) }
      receiver := .character .start }) phase rfl rfl taken
  rw [long] at run
  have last := samplePort_character (p := { p with input := { level := level, ahead := stop :: rest }, receiver := .character d })
    phase rfl rfl
  rw [complete] at last
  rw [show 16 * (bits.length + 1) + 9 = 16 * bits.length + 23 + 1 + 1 by omega, Function.iterate_succ_apply',
    Function.iterate_succ_apply, samplePort_start phase receiver high ahead, run]
  exact last

/-- The idle count of TURNAROUND after a sample (R177). -/
theorem samplePort_turnaround (phase : p.phase = .turnaround) :
    samplePort p =
      { receiverStep (!p.input.next.level && p.input.level) { p with input := p.input.next } with
        lineTimer := idleCount (receiverStep (!p.input.next.level && p.input.level) { p with input := p.input.next }) } := by
  have still : (receiverStep (!p.input.next.level && p.input.level) { p with input := p.input.next }).phase = .turnaround := by
    rw [receiverStep_frame]
    exact phase
  unfold samplePort
  dsimp only
  rw [if_neg (by rw [phase]; exact fun e => nomatch e), if_pos still]

theorem contains_true (xs : List Bool) : xs.contains true = xs.any id := by
  rw [List.contains_eq_any_beq]
  exact congrArg xs.any (funext fun x => by cases x <;> rfl)

/-- The byte and the marks of a character by its bits and its stop bit (R170). -/
theorem linkCharacter_append (l : LineSettings) (bits : List Bool) (stop : Bool) :
    linkCharacter l (bits ++ [stop]) false =
      (byteOfBits (bits ++ [stop]),
        { noise := false, parity := l.even && bits.count true % 2 == 1, framing := !stop && bits.contains true
          brk := !stop && !bits.contains true }) := by
  unfold linkCharacter
  rw [List.getLastD_concat, List.dropLast_concat, List.any_append, contains_true]
  cases stop <;> simp

theorem receiverAfter_linkCharacter (l : LineSettings) (bits : List Bool) (stop : Bool) :
    receiverAfter (linkCharacter l (bits ++ [stop]) false).2 = if stop then .idle else .waitHigh := by
  rw [linkCharacter_append]
  unfold receiverAfter
  cases stop <;> cases bits.contains true <;> rfl

end

end Sys2Proof.Machine

namespace Sys2Proof
open Machine

/-- Settles O44: a whole character is `takes_whole` at the sampler and at the port, and one sample is its receiver's step. -/
theorem receiversSampleTheirLines : Obligations.ReceiversSampleTheirLines := by
  unfold Obligations.ReceiversSampleTheirLines
  intro bits held
  refine ⟨fun rest r idle none undecided => ⟨fun b ahead => ?_, fun k least most ahead => ?_, fun ahead => ?_, fun k least few ahead => ?_⟩,
    fun r mark => ?_, fun last bit l7 l8 l9 c later more place none => ?_, fun b parity stop rest p receiver high phase => ?_,
    fun p => ⟨samplePort_responding, fun phase receiver high => ⟨fun low => ?_, fun still => ?_⟩, fun phase receiver low => ?_⟩,
    fun m s => beq_iff_eq⟩
  · obtain ⟨d, level, low, run, complete, -⟩ := sampleStation_character idle none (bits := bitsOf b) (stop := true) rfl ahead
    have last := sampleStation_high
      (r := { r with input := { level := level, ahead := true :: rest }, lowCount := low, sampler := .character d }) rfl rfl
    rw [complete] at last
    rw [show 153 = 152 + 1 from rfl, Function.iterate_succ_apply', run, last]
    dsimp only
    rw [stationDecided_high, ← idle, ← none]
  · obtain ⟨i, rfl⟩ := Nat.exists_eq_add_of_le least
    refine sampleStation_falseStart (xs := List.replicate i false ++ List.replicate (6 - i) true) idle none ?_ ?_
    · rw [List.length_append, List.length_replicate, List.length_replicate]
      omega
    · rw [ahead, show 8 - (1 + i) = 6 - i + 1 by omega, Nat.add_comm 1 i, List.replicate_succ, List.replicate_succ']
      simp only [List.append_assoc, List.cons_append, List.nil_append]
  · have dark : List.replicate 176 false ++ rest = List.replicate 175 false ++ (false :: rest) := by
      rw [show 176 = 175 + 1 from rfl, List.replicate_succ', List.append_assoc]
      rfl
    rw [show 176 = 175 + 1 from rfl, Function.iterate_succ_apply',
      sampleStation_low idle none (by decide) (by decide) (ahead.trans dark)]
    exact sampleStation_break (r := { r with input := _, lowCount := 175, sampler := .lowWatch }) (fun e => nomatch e) rfl rfl
  · rw [Function.iterate_succ_apply', sampleStation_low idle none least few ahead]
    refine (sampleStation_framing (r := { r with input := _, lowCount := k, sampler := .lowWatch }) rfl rfl).trans ?_
    rw [← idle, ← none]
  · exact sampleStation_markWait mark
  · obtain ⟨c7, c8, h7, h8, h9⟩ := take_bit (last := last) later place none l7 l8 l9
    exact ⟨c7, c8, h7, h8, h9.trans (if_neg (Nat.ne_of_lt more))⟩
  · intro sent ahead
    have format : (bits b ++ if p.line.even then [parity] else []).length + 1 = portStopBit p.line := by
      unfold portStopBit
      cases p.line.even <;> rfl
    refine (samplePort_whole phase receiver high format ahead).trans ?_
    rw [receiverAfter_linkCharacter, linkCharacter_append, List.append_assoc]
    rw [show bits b = bitsOf b from rfl, byteOfBits_bitsOf]
    have lit : sent.contains true = (bitsOf b ++ if p.line.even then [parity] else []).contains true := rfl
    have odd : (p.line.even && (bitsOf b ++ if p.line.even then [parity] else []).count true % 2 == 1) =
        (p.line.even && (bitsOf b ++ [parity]).count true % 2 == 1) := by
      cases p.line.even <;> rfl
    rw [lit, odd]
  · rw [samplePort_turnaround phase, receiverStep]
    dsimp only
    rw [receiver, low, high]
    simp [idleCount, lineIdle, low]
  · have idle : receiverStep (!p.input.next.level && p.input.level) { p with input := p.input.next } =
        { p with input := p.input.next } := by
      rw [still, receiverStep]
      dsimp only
      rw [receiver]
      rfl
    have line : lineIdle { p with input := p.input.next } = true := by simp [lineIdle, still, receiver]
    rw [samplePort_turnaround phase, idle, idleCount, if_pos line]
    rfl
  · rw [samplePort_turnaround phase, receiverStep]
    dsimp only
    rw [receiver, low]
    simp [idleCount, lineIdle, low]

end Sys2Proof
end

section
/-! SUPPORT. The one answer to a request (R110, R176, R177), and the attention requests (R180, R181). -/

namespace Sys2Proof.Machine

/-! ### The answer to a request -/

/-- The status of an answer is 0 or a refusal code (R187). -/
theorem replyStatus_le (r : Reply) : (replyStatus r).toNat ≤ 18 := by
  cases r with
  | ok p => exact Nat.zero_le _
  | refuse c p =>
    show (refusalByte c).toNat ≤ 18
    cases c <;> decide

/-- A request command is answered once, by an owner that leaves both ports but for flags, mask and pending settings. -/
theorem exec_answered {i : Instr} {q : Req} {s : State} (request : requestOf i = some q) (listening : Listening q.master s) :
    ∃ (code : Byte) (r : State × Reply), exec i s = .next (respond q code r) ∧ Aside (acceptFrame q.master s) r.1 ∧
      ∀ c payload, requestBytes i = some (c, payload) → code = c := by
  have taken : ∀ t, Aside t (serve i t).1 := aside_serve i
  cases claims : claimsBearOn i with
  | false =>
    obtain ⟨code, named, answered⟩ := exec_plain claims request
    exact ⟨code, _, (answered s).trans (by rw [answer_listening listening]), taken _, named⟩
  | true =>
    obtain ⟨code, named, answered⟩ := exec_atClaims claims request
    rw [answered, answerAtClaims, settle_listening listening]
    refine ⟨code, _, rfl, ?_, named⟩
    by_cases due : (port q.master s).silenceTimer = some 0
    · have counted : Aside (acceptFrame q.master s) (acceptFrame q.master { s with freeCount := s.freeCount + 1 }) :=
        aside_of_ports fun m => by cases m <;> cases q.master <;> rfl
      have met := serveAtClaims_meeting due (serve i)
      dsimp only at met
      rcases met with e | e
      · rw [e]
        exact counted.trans (taken _)
      · rw [e]
        exact (counted.trans (taken _)).trans (aside_silenceAtOwners ..)
    · rw [serveAtClaims_running due]
      exact taken _

theorem lineIdle_iff {p : Port} : lineIdle p = true ↔ p.input.level = true ∧ ∀ c, p.receiver ≠ .character c := by
  unfold lineIdle
  cases p.receiver <;> simp

/-! ### Attention (R180, R181, R184) -/

theorem exists_flagBit {i : Nat} (small : i < 16) : ∃ f, flagBit f = i := by
  by_cases ends : i < 5
  · exact ⟨.chainEnd ⟨i, ends⟩, rfl⟩
  · by_cases halts : i < 10
    · exact ⟨.chainHalted ⟨i - 5, by omega⟩, by show 5 + (i - 5) = i; omega⟩
    · have rest : i = 10 ∨ i = 11 ∨ i = 12 ∨ i = 13 ∨ i = 14 ∨ i = 15 := by omega
      rcases rest with e | e | e | e | e | e <;> subst e
      · exact ⟨.actFault, rfl⟩
      · exact ⟨.claimLost, rfl⟩
      · exact ⟨.claimsChanged, rfl⟩
      · exact ⟨.govMode, rfl⟩
      · exact ⟨.stationState, rfl⟩
      · exact ⟨.trip, rfl⟩

/-- The ALERT line is low where some flag is set whose enable is set (R180). -/
theorem alertLow_iff (m : Master) (s : State) :
    alertLow m s = true ↔ ∃ f, flagSet m f s = true ∧ (port m s).mask.getLsbD (flagBit f) = true := by
  unfold alertLow flagSet
  rw [bne_iff_ne]
  constructor
  · intro lit
    by_contra none
    refine lit (BitVec.eq_of_getLsbD_eq fun i small => ?_)
    obtain ⟨f, rfl⟩ := exists_flagBit small
    rw [BitVec.getLsbD_and, show (0 : Half).getLsbD (flagBit f) = false from BitVec.getLsbD_zero, Bool.and_eq_false_iff, ← Bool.not_eq_true, ← Bool.not_eq_true,
      ← not_and_or]
    exact fun both => none ⟨f, both⟩
  · rintro ⟨f, flag, enable⟩ dark
    have bit := congrArg (BitVec.getLsbD · (flagBit f)) dark
    simp only [BitVec.getLsbD_and, flag, enable, Bool.and_self] at bit
    exact Bool.noConfusion (bit.trans BitVec.getLsbD_zero)

theorem port_flags_acceptFrame (m : Master) (s : State) :
    (port m (acceptFrame m s)).flags = (port m s).flags ∧ (port m (acceptFrame m s)).mask = (port m s).mask := by
  rw [port_acceptFrame_self]
  exact ⟨rfl, rfl⟩

end Sys2Proof.Machine

namespace Sys2Proof
open Machine

/-- Settles O50: `exec_answered` gives the answer and what its owner leaves of the ports, `respond` the rest. -/
theorem everyRequestAnsweredOnce : Obligations.EveryRequestAnsweredOnce := by
  unfold Obligations.EveryRequestAnsweredOnce
  intro i q s request listening
  obtain ⟨code, r, answered, aside, named⟩ := exec_answered request listening
  have own := port_respond_self q code r
  have other := port_respond_other q code r
  rw [aside.ports q.master, port_acceptFrame_self] at own
  rw [aside.ports q.master.other, port_acceptFrame_other] at other
  have idle : lineIdle (port q.master r.1) = true ↔
      (port q.master s).input.level = true ∧ ∀ c, (port q.master s).receiver ≠ .character c := by
    rw [lineIdle_iff, aside.ports q.master, port_acceptFrame_self]
  rw [aside.ports q.master, port_acceptFrame_self] at idle
  refine ⟨_, { status := replyStatus r.2, code := code, tag := q.tag, payload := replyPayload r.2 }, answered, ?_⟩
  rw [own, other]
  refine ⟨rfl, rfl, rfl, replyStatus_le _, fun high out => if_pos (idle.2 ⟨high, out⟩), fun busy => if_neg (mt idle.1 ?_), named,
    rfl, rfl, rfl, rfl, rfl, rfl, rfl, rfl, rfl, rfl⟩
  rintro ⟨high, out⟩
  rcases busy with low | ⟨c, inside⟩
  · rw [low] at high
    exact Bool.false_ne_true high
  · exact out c inside

/-- Settles O47: each request is its owner's change of one port, and `alertLow_iff` gives the ALERT line. -/
theorem attentionRequests : Obligations.AttentionRequests := by
  unfold Obligations.AttentionRequests
  refine ⟨fun q set s listening => ?_, alertLow_iff⟩
  intro u flags
  obtain ⟨stood, mask⟩ := port_flags_acceptFrame q.master s
  have cleared := exec_served (i := .clearAttention q set) (owner := clearAttentionOwner q.master set) rfl listening rfl
  have read := exec_served (i := .readAttention q) (owner := readAttentionOwner q.master) rfl listening rfl
  unfold clearAttentionOwner at cleared
  unfold readAttentionOwner at read
  rw [stood] at cleared
  rw [stood, mask] at read
  refine ⟨⟨_, cleared, rfl, fun f => ?_, fun f => ?_⟩, exec_served rfl listening rfl, read⟩
  · unfold flagSet
    rw [port_setPort_self, BitVec.getLsbD_and, BitVec.getLsbD_not]
    simp only [flagBit_lt, decide_true, Bool.true_and]
  · unfold flagSet
    rw [port_setPort_other, port_acceptFrame_other]

end Sys2Proof
end

section
/-! SUPPORT. Requests read from the bytes that carry them (R176, R183, R186). -/

namespace Sys2Proof.Machine

/-- A three-byte field written high byte first reads back as itself (R183). -/
theorem join3_byte3 (v : BitVec 24) :
    join3 (BitVec.ofNat 8 (v.toNat / 65536)) (BitVec.ofNat 8 (v.toNat / 256)) (BitVec.ofNat 8 v.toNat) = v := by
  have small := v.isLt
  refine BitVec.eq_of_toNat_eq ?_
  show ((join2 _ _ : Half) ++ BitVec.ofNat 8 v.toNat : BitVec 24).toNat = v.toNat
  rw [BitVec.toNat_append, join2_toNat, ← Nat.shiftLeft_add_eq_or_of_lt (BitVec.isLt _), Nat.shiftLeft_eq]
  simp only [BitVec.toNat_ofNat]
  omega

theorem halves?_flatMap_halfBytes (vs : List Half) : halves? (vs.flatMap halfBytes) = some vs := by
  induction vs with
  | nil => rfl
  | cons v vs ih =>
    show (halves? (vs.flatMap halfBytes)).map _ = _
    rw [ih, join2_byte2]
    rfl

/-- The values of a WRITE PROFILE read back (R186). -/
theorem profileValues?_flatMap_halfBytes {vs : List Half} (some : 1 ≤ vs.length) (few : vs.length ≤ 16) :
    profileValues? (vs.flatMap halfBytes) = .some vs := by
  unfold profileValues?
  rw [halves?_flatMap_halfBytes]
  exact if_neg (by omega)

theorem parseRequest_writeDescriptor (q : Req) (slot : Byte) (r : RawDescriptor) :
    parseRequest q 0x20 (slot :: rawDescriptorBytes r) = .command (.writeDescriptor q slot r) := by
  refine Eq.trans (b := Parsed.command (.writeDescriptor q slot { r with second := join2 _ _ })) rfl ?_
  rw [join2_byte2]

theorem parseRequest_configureActuator (q : Req) (r : RawActuator) :
    parseRequest q 0x40 (rawActuatorBytes r) = .command (.configureActuator q r) := by
  refine Eq.trans (b := Parsed.command (.configureActuator q
    { r with
      min := join2 _ _, max := join2 _ _, maxRate := join2 _ _, defaultRate := join2 _ _, period := join2 _ _
      safeValue := join2 _ _, tolerance := join2 _ _ })) rfl ?_
  simp only [join2_byte2]

theorem parseRequest_configureCapture (q : Req) (r : RawCapture) :
    parseRequest q 0x51 ([r.channel, r.mode, r.prescale, r.timeout] ++ halfBytes r.gain ++ halfBytes r.offset) =
      .command (.configureCapture q r) := by
  refine Eq.trans (b := Parsed.command (.configureCapture q { r with gain := join2 _ _, offset := join2 _ _ })) rfl ?_
  simp only [join2_byte2]

theorem parseRequest_governorSettings (q : Req) (r : RawGovernor) :
    parseRequest q 0x60 ([r.kp, r.ki] ++ halfBytes r.dmin ++ halfBytes r.dmax ++ halfBytes r.dstep ++ halfBytes r.holdTime ++
      halfBytes r.fallback) = .command (.governorSettings q r) := by
  refine Eq.trans (b := Parsed.command (.governorSettings q
    { r with
      dmin := join2 _ _, dmax := join2 _ _, dstep := join2 _ _, holdTime := join2 _ _, fallback := join2 _ _ })) rfl ?_
  simp only [join2_byte2]

theorem parseRequest_configureStation (q : Req) (r : RawStation) :
    parseRequest q 0x64 ([r.entry, r.enabled, r.address] ++ halfBytes r.setpoint ++ [r.staleTime]) =
      .command (.configureStation q r) := by
  refine Eq.trans (b := Parsed.command (.configureStation q { r with setpoint := join2 _ _ })) rfl ?_
  rw [join2_byte2]

theorem parseRequest_linkSettings (q : Req) (r : RawLink) :
    parseRequest q 0x70 (byte3 r.baud.toNat ++ [r.parity, r.silence]) = .command (.linkSettings q r) := by
  refine Eq.trans (b := Parsed.command (.linkSettings q { r with baud := join3 _ _ _ })) rfl ?_
  rw [join3_byte3]

theorem parseRequest_half (q : Req) (v : Half) :
    parseRequest q 0x66 (halfBytes v) = .command (.stationLineSettings q v) ∧
      parseRequest q 0x73 (halfBytes v) = .command (.clearAttention q v) ∧
      parseRequest q 0x74 (halfBytes v) = .command (.setMask q v) := by
  refine ⟨Eq.trans (b := Parsed.command (.stationLineSettings q (join2 _ _))) rfl ?_,
    Eq.trans (b := Parsed.command (.clearAttention q (join2 _ _))) rfl ?_,
    Eq.trans (b := Parsed.command (.setMask q (join2 _ _))) rfl ?_⟩ <;> rw [join2_byte2]

theorem parseRequest_writeProfile (q : Req) (first : Byte) {vs : List Half} (some : 1 ≤ vs.length) (few : vs.length ≤ 16) :
    parseRequest q 0x24 (first :: vs.flatMap halfBytes) = .command (.writeProfile q first vs) := by
  refine Eq.trans (b := match profileValues? (vs.flatMap halfBytes) with
    | .some vs => Parsed.command (.writeProfile q first vs)
    | none => .badLength) rfl ?_
  rw [profileValues?_flatMap_halfBytes some few]

end Sys2Proof.Machine

namespace Sys2Proof
open Machine

/-- Settles O51: each request by its constructor, the multi-byte fields read back by `join2_byte2` and `join3_byte3`. -/
theorem requestsReadAsWritten : Obligations.RequestsReadAsWritten := by
  unfold Obligations.RequestsReadAsWritten
  intro i q code payload wellFormed request bytes
  cases i with
  | writeDescriptor r slot record => cases request; cases bytes; exact parseRequest_writeDescriptor ..
  | writeProfile r first vs =>
    cases request
    cases bytes
    obtain ⟨some, few⟩ : 1 ≤ vs.length ∧ vs.length ≤ 16 := by
      simpa only [Instr.wellFormed, Bool.and_eq_true, decide_eq_true_eq] using wellFormed
    exact parseRequest_writeProfile _ _ some few
  | configureActuator r record => cases request; cases bytes; exact parseRequest_configureActuator ..
  | configureCapture r record => cases request; cases bytes; exact parseRequest_configureCapture ..
  | governorSettings r record => cases request; cases bytes; exact parseRequest_governorSettings ..
  | configureStation r record => cases request; cases bytes; exact parseRequest_configureStation ..
  | stationLineSettings r baud => cases request; cases bytes; exact (parseRequest_half ..).1
  | linkSettings r record => cases request; cases bytes; exact parseRequest_linkSettings ..
  | clearAttention r flags => cases request; cases bytes; exact (parseRequest_half ..).2.1
  | setMask r flags => cases request; cases bytes; exact (parseRequest_half ..).2.2
  | unknownRequest r code => cases bytes
  | badLength r code length => cases bytes
  | _ => cases request <;> cases bytes <;> rfl

end Sys2Proof
end

section
/-! SUPPORT. The frame of a request, entry by entry (R171 to R175, R185). -/

namespace Sys2Proof.Machine

/-- A clean entry: no mark, and no overrun before it. -/
def cleanEntry (b : Byte) : FifoEntry := { byte := b, marks := .clean, overrun := false }

/-- The clean bytes `xs` take the assembler from `a` to `b`, each into a frame, with no error and no frame complete. -/
def Assembles : List Byte → LinkAssembler → LinkAssembler → Prop
  | [], a, b => a = b
  | x :: xs, a, b =>
    ∃ c, c ≠ .hunt ∧ assemble a (cleanEntry x) = { assembler := c, error := none, frame := none } ∧ Assembles xs c b

section
variable {xs ys : List Byte} {a b c : LinkAssembler} {x : Byte} {n : Nat} {taken : List Byte}

theorem Assembles.append (first : Assembles xs a b) (next : Assembles ys b c) : Assembles (xs ++ ys) a c := by
  induction xs generalizing a with
  | nil => exact first ▸ next
  | cons x xs ih =>
    obtain ⟨d, inside, took, first⟩ := first
    exact ⟨d, inside, took, ih first⟩

theorem Assembles.single (inside : b ≠ .hunt)
    (took : assemble a (cleanEntry x) = { assembler := b, error := none, frame := none }) : Assembles [x] a b :=
  ⟨b, inside, took, rfl⟩

theorem assemble_lead : assemble .hunt (cleanEntry 0xD2) = { assembler := .length false, error := none, frame := none } := rfl

theorem errored_clean (x : Byte) : ¬ errored (cleanEntry x) = true := Bool.false_ne_true

theorem assemble_length (least : 3 ≤ x.toNat) (most : x.toNat ≤ 60) :
    assemble (.length false) (cleanEntry x) = { assembler := .body x.toNat [x] false, error := none, frame := none } := by
  unfold assemble
  rw [if_neg (errored_clean x)]
  exact if_pos ⟨least, most⟩

theorem assemble_more (more : taken.length < n) :
    assemble (.body n taken false) (cleanEntry x) =
      { assembler := .body n (taken ++ [x]) false, error := none, frame := none } := by
  have inside : ¬ n < (taken ++ [x]).length := by
    rw [List.length_append]
    exact Nat.not_lt.2 more
  unfold assemble
  rw [if_neg (errored_clean x)]
  exact if_neg inside

theorem assemble_full (full : taken.length = n) :
    assemble (.body n taken false) (cleanEntry x) =
      { assembler := .check n (taken ++ [x]) none false, error := none, frame := none } := by
  have past : n < (taken ++ [x]).length := by
    rw [List.length_append, full]
    exact Nat.lt_succ_self n
  unfold assemble
  rw [if_neg (errored_clean x)]
  exact if_pos past

theorem assemble_high :
    assemble (.check n taken none false) (cleanEntry x) =
      { assembler := .check n taken (some x) false, error := none, frame := none } := rfl

theorem assemble_low {high : Byte} (checks : crc16 taken = join2 high x) :
    assemble (.check n taken (some high) false) (cleanEntry x) =
      { assembler := .hunt, error := none, frame := some taken.tail } := by
  unfold assemble
  rw [if_neg (errored_clean x)]
  exact if_pos checks

/-- The counted bytes, up to the last. -/
theorem assembles_body (last : Byte) (counted : taken.length + xs.length = n) :
    Assembles (xs ++ [last]) (.body n taken false) (.check n (taken ++ xs ++ [last]) none false) := by
  induction xs generalizing taken with
  | nil =>
    rw [List.append_nil]
    exact .single (fun e => nomatch e) (assemble_full counted)
  | cons x xs ih =>
    rw [List.length_cons] at counted
    have rest := ih (taken := taken ++ [x]) (by rw [List.length_append, List.length_singleton]; omega)
    rw [show taken ++ x :: xs ++ [last] = taken ++ [x] ++ xs ++ [last] by simp]
    exact ⟨_, fun e => (by cases e), assemble_more (by omega), rest⟩

end

/-- The bytes of a request frame but the last. -/
def frameButLast (tag : Half) (code : Byte) (payload : List Byte) : List Byte :=
  (0xD2 : Byte) :: (requestBody tag code payload ++ [BitVec.ofNat 8 ((crc16 (requestBody tag code payload)).toNat / 256)])

/-- The last byte of a request frame. -/
def frameLast (tag : Half) (code : Byte) (payload : List Byte) : Byte :=
  BitVec.ofNat 8 (crc16 (requestBody tag code payload)).toNat

theorem requestFrame_eq (tag : Half) (code : Byte) (payload : List Byte) :
    requestFrame tag code payload = frameButLast tag code payload ++ [frameLast tag code payload] := by
  unfold requestFrame frameButLast frameLast
  rw [List.cons_append, List.append_assoc]
  rfl

/-- A request frame up to its last byte, and what that byte comes to (R173, R175, R185). -/
theorem assembles_frame (tag : Half) (code : Byte) {payload : List Byte} (short : 3 + payload.length ≤ 60) :
    ∃ b, Assembles (frameButLast tag code payload) .hunt b ∧
      assemble b (cleanEntry (frameLast tag code payload)) =
        { assembler := .hunt, error := none, frame := some (code :: (halfBytes tag ++ payload)) } := by
  have count : (BitVec.ofNat 8 (3 + payload.length)).toNat = 3 + payload.length := by
    rw [BitVec.toNat_ofNat]
    omega
  have body : requestBody tag code payload = BitVec.ofNat 8 (3 + payload.length) :: code :: (halfBytes tag ++ payload) := rfl
  obtain ⟨front, last, split⟩ : ∃ front last, code :: (halfBytes tag ++ payload) = front ++ [last] :=
    ⟨_, _, (List.dropLast_append_getLast (List.cons_ne_nil _ _)).symm⟩
  have long : front.length + 1 = 3 + payload.length := by
    rw [← List.length_singleton (a := last), ← List.length_append, ← split]
    simp [halfBytes, byte2]
    omega
  have lead : Assembles [0xD2] .hunt (.length false) := .single (fun e => nomatch e) assemble_lead
  have length : Assembles [BitVec.ofNat 8 (3 + payload.length)] (.length false)
      (.body (3 + payload.length) [BitVec.ofNat 8 (3 + payload.length)] false) := by
    have taken := assemble_length (x := BitVec.ofNat 8 (3 + payload.length)) (by rw [count]; omega) (by rw [count]; exact short)
    rw [count] at taken
    exact .single (fun e => nomatch e) taken
  have opened := lead.append length
  have counted := opened.append (assembles_body (xs := front) last (by rw [List.length_singleton]; omega))
  have whole : [BitVec.ofNat 8 (3 + payload.length)] ++ front ++ [last] = requestBody tag code payload := by
    rw [body, split]
    rfl
  rw [whole] at counted
  refine ⟨_, ?_, assemble_low (n := 3 + payload.length) (high := BitVec.ofNat 8 ((crc16 (requestBody tag code payload)).toNat / 256)) (join2_byte2 _).symm⟩
  unfold frameButLast
  generalize BitVec.ofNat 8 ((crc16 (requestBody tag code payload)).toNat / 256) = high
  have check : Assembles [high] (.check (3 + payload.length) (requestBody tag code payload) none false)
      (.check (3 + payload.length) (requestBody tag code payload) (some high) false) :=
    .single (fun e => nomatch e) assemble_high
  have checked := counted.append check
  generalize requestBody tag code payload = bytes at *
  rw [← whole] at checked ⊢
  exact checked

/-! ### The entries of a frame taken by a port -/

section
variable {m : Master} {s : State} {e : FifoEntry} {rest : List FifoEntry} {a : LinkAssembler} {x : Byte}

theorem takeEntry_inside (fifo : (port m s).fifo = e :: rest)
    (took : assemble (port m s).assembler e = { assembler := a, error := none, frame := none }) (inside : a ≠ .hunt) :
    takeEntry m s =
      setPort m
        { port m s with
          fifo := rest, assembler := a, interByte := if rest = [] then some 25000 else none } s := by
  rw [takeEntry_cons fifo, took]
  dsimp only
  unfold taking
  congr 1
  simp only [inside, ne_eq, not_false_eq_true, true_and]
  rfl

theorem takeEntry_frame {bytes : List Byte} (fifo : (port m s).fifo = e :: rest)
    (took : assemble (port m s).assembler e = { assembler := .hunt, error := none, frame := some bytes }) :
    takeEntry m s = handleFrame m bytes (setPort m { port m s with fifo := rest, assembler := .hunt, interByte := none } s) := by
  rw [takeEntry_cons fifo, took]
  dsimp only
  unfold taking
  rw [if_neg (fun h => h.1 rfl)]
  rfl

end

/-- A well-formed request command fits a frame (R173, R185). -/
theorem payload_short {i : Instr} {code : Byte} {payload : List Byte} (wellFormed : i.wellFormed = true)
    (bytes : requestBytes i = some (code, payload)) : 3 + payload.length ≤ 60 := by
  have fits : Laws.FitsFrame.Statement i := by
    cases i with
    | writeProfile q first values => exact Laws.FitsFrame.writeProfile q first values
    | _ => rintro - code payload ⟨⟩ <;> exact ⟨rfl, Nat.le_of_ble_eq_true rfl⟩
  exact (fits wellFormed code payload bytes).2

/-- The frame of a request, checked, is the request's command (R113, R175, R176). -/
theorem handleFrame_request {i : Instr} {q : Req} {code : Byte} {payload : List Byte} {s : State} (wellFormed : i.wellFormed = true)
    (request : requestOf i = some q) (bytes : requestBytes i = some (code, payload)) (listening : Listening q.master s) :
    exec i s = .next (handleFrame q.master (code :: (halfBytes q.tag ++ payload)) s) := by
  have parsed := requestsReadAsWritten i q code payload wellFormed request bytes
  have tag : join2 (BitVec.ofNat 8 (q.tag.toNat / 256)) (BitVec.ofNat 8 q.tag.toNat) = q.tag := join2_byte2 _
  have handled : handleFrame q.master (code :: (halfBytes q.tag ++ payload)) s =
      respond q code (if claimsBearOn i then serveAtClaims q.master (serve i) s else serve i (acceptFrame q.master s)) := by
    have step : handleFrame q.master (code :: (halfBytes q.tag ++ payload)) s =
        let r : Req := { master := q.master, tag := join2 (BitVec.ofNat 8 (q.tag.toNat / 256)) (BitVec.ofNat 8 q.tag.toNat) }
        let x := parseRequest r code payload
        respond r code
          (if claimsBearOnParsed x then serveAtClaims q.master (serveParsed q.master x) s
            else serveParsed q.master x (acceptFrame q.master s)) := rfl
    rw [tag] at step
    dsimp only at step
    rw [parsed] at step
    exact step
  rw [handled]
  cases claims : claimsBearOn i with
  | true =>
    obtain ⟨c, named, answered⟩ := exec_atClaims claims request
    rw [answered, answerAtClaims, settle_listening listening, named _ _ bytes]
    rfl
  | false =>
    obtain ⟨c, named, answered⟩ := exec_plain claims request
    rw [answered, answer_listening listening, named _ _ bytes]
    rfl

/-! ### Characters received one by one -/

section
variable {m : Master} {s : State} {xs : List Byte} {a b : LinkAssembler}

/-- A port that takes clean characters as they come: in LISTEN, with nothing waiting and its receiver idle. -/
structure TakesClean (p : Port) : Prop where
  phase : p.phase = .listen
  fifo : p.fifo = []
  overrun : p.overrunPending = false
  receiver : p.receiver = .idle
  decided : p.decided = none

/-- Such a port stores a clean character as one clean entry, which the assembler takes (R170 to R172). -/
theorem receiveCharacter_clean (ready : TakesClean (port m s)) (x : Byte) :
    receiveCharacter m x .clean s = takeEntry m (setPort m { port m s with fifo := [cleanEntry x] } s) := by
  obtain ⟨phase, fifo, overrun, receiver, decided⟩ := ready
  have done : receiverDone x .clean (port m s) = port m s := by
    unfold receiverDone
    rw [if_neg (by rw [decided]; exact fun e => nomatch e), if_neg (by rw [phase]; exact fun e => nomatch e)]
    show { port m s with receiver := Receiver.idle } = port m s
    rw [← receiver]
  have stored : storeCharacter x .clean (port m s) = { port m s with fifo := [cleanEntry x] } := by
    unfold storeCharacter
    rw [if_pos (by rw [fifo]; decide), overrun, fifo]
    show { port m s with fifo := [cleanEntry x], overrunPending := false } = _
    rw [← overrun]
  unfold receiveCharacter
  dsimp only
  rw [if_neg (by rw [phase]; exact fun e => nomatch e), done, stored]
  exact listenNow_one (e := cleanEntry x) (by rw [port_setPort_self]; exact phase) (by rw [port_setPort_self])

/-- Characters that go into a frame and do not complete it. -/
theorem receiveCharacters_inside (ready : TakesClean (port m s)) (at_start : (port m s).assembler = a) (taken : Assembles xs a b)
    (some : xs ≠ []) :
    xs.foldl (fun t x => receiveCharacter m x .clean t) s =
      setPort m { port m s with assembler := b, interByte := .some 25000 } s := by
  induction xs generalizing a s with
  | nil => exact absurd rfl some
  | cons x xs ih =>
    obtain ⟨c, inside, took, next⟩ := taken
    have step : receiveCharacter m x .clean s = setPort m { port m s with assembler := c, interByte := .some 25000 } s := by
      rw [receiveCharacter_clean ready, takeEntry_inside (a := c) (by rw [port_setPort_self]) (by rw [port_setPort_self]; exact at_start ▸ took) inside,
        port_setPort_self, setPort_setPort, if_pos rfl, ← ready.fifo]
    rw [List.foldl_cons, step]
    cases xs with
    | nil =>
      cases next
      rfl
    | cons y ys =>
      obtain ⟨phase, fifo, overrun, receiver, decided⟩ := ready
      rw [ih (s := setPort m { port m s with assembler := c, interByte := .some 25000 } s)
        (by rw [port_setPort_self]; exact ⟨phase, fifo, overrun, receiver, decided⟩) (by rw [port_setPort_self]) next
        (List.cons_ne_nil _ _), port_setPort_self, setPort_setPort]

end

end Sys2Proof.Machine

namespace Sys2Proof
open Machine

/-- Settles O53: the characters go into the frame (`assembles_frame`), and its check byte comes to `handleFrame_request`. -/
theorem frameReceivedAsItsCommand : Obligations.FrameReceivedAsItsCommand := by
  unfold Obligations.FrameReceivedAsItsCommand
  intro i q code payload s wellFormed request bytes listening hunt fifo interByte overrun receiver decided
  refine ⟨fun b t => rfl, ?_⟩
  have ready : TakesClean (port q.master s) := ⟨listening, fifo, overrun, receiver, decided⟩
  obtain ⟨b, inside, last⟩ := assembles_frame q.tag code (payload_short wellFormed bytes)
  rw [handleFrame_request wellFormed request bytes listening, requestFrame_eq, List.foldl_append,
    receiveCharacters_inside ready hunt inside (List.cons_ne_nil _ _)]
  generalize ht : setPort q.master { port q.master s with assembler := b, interByte := some 25000 } s = t
  have own : port q.master t = { port q.master s with assembler := b, interByte := some 25000 } := by
    rw [← ht, port_setPort_self]
  have ready' : TakesClean (port q.master t) := by
    rw [own]
    exact ⟨listening, fifo, overrun, receiver, decided⟩
  have checked : receiveCharacter q.master (frameLast q.tag code payload) .clean t =
      handleFrame q.master (code :: (halfBytes q.tag ++ payload)) s := by
    rw [receiveCharacter_clean ready', takeEntry_frame (by rw [port_setPort_self]) (by rw [port_setPort_self, own]; exact last),
      port_setPort_self, setPort_setPort, own, ← ht, setPort_setPort]
    congr 1
    have same : ({ port q.master s with fifo := [], assembler := .hunt, interByte := none } : Port) = port q.master s := by
      rw [← hunt, ← fifo, ← interByte]
    exact (congrArg (fun p => setPort q.master p s) same).trans (setPort_port ..)
  exact congrArg Host.Outcome.next checked.symm

end Sys2Proof
end

section
/-! SUPPORT. The end of a response, and the entries that wait for it (R172, R177, R178). -/

namespace Sys2Proof.Machine

/-! ### LINK SETTINGS (R178) -/

theorem flag?_parity {b : Byte} (h : b.toNat ≤ 1) : flag? b = some (decide (b = 1)) := by
  have code : b = 0 ∨ b = 1 := by
    have : b.toNat = 0 ∨ b.toNat = 1 := by omega
    rcases this with e | e
    · exact .inl (BitVec.eq_of_toNat_eq e)
    · exact .inr (BitVec.eq_of_toNat_eq e)
  rcases code with e | e <;> subst e <;> rfl

theorem lineSettings?_valid {r : RawLink} (slow : 1200 ≤ r.baud.toNat) (fast : r.baud.toNat ≤ 115200) (parity : r.parity.toNat ≤ 1)
    (short : 1 ≤ r.silence.toNat) (long : r.silence.toNat ≤ 120) :
    lineSettings? r = some { baud := r.baud.toNat, even := decide (r.parity = 1), silence := r.silence.toNat } := by
  unfold lineSettings?
  rw [range?_eq_some.2 ⟨⟨slow, fast⟩, rfl⟩, flag?_parity parity, range?_eq_some.2 ⟨⟨short, long⟩, rfl⟩]
  rfl

theorem lineSettings?_none {r : RawLink}
    (bad : ¬ (1200 ≤ r.baud.toNat ∧ r.baud.toNat ≤ 115200 ∧ r.parity.toNat ≤ 1 ∧ 1 ≤ r.silence.toNat ∧ r.silence.toNat ≤ 120)) :
    lineSettings? r = none := by
  unfold lineSettings?
  by_cases baud : 1200 ≤ r.baud.toNat ∧ r.baud.toNat ≤ 115200
  · by_cases parity : r.parity.toNat ≤ 1
    · rw [range?_eq_none (n := r.silence.toNat) (by omega)]
      cases range? 1200 115200 r.baud.toNat <;> cases flag? r.parity <;> rfl
    · rw [flag?_eq_none (by omega)]
      cases range? 1200 115200 r.baud.toNat <;> rfl
  · rw [range?_eq_none (n := r.baud.toNat) (by omega)]
    rfl

theorem linkSettingsOwner_refused {m : Master} {r : RawLink} {s : State} (none : lineSettings? r = none) :
    linkSettingsOwner m r s = refuse .outOfRange s := by
  simp only [linkSettingsOwner, none]

theorem linkSettingsOwner_held {m : Master} {r : RawLink} {s : State} {l : LineSettings} (some : lineSettings? r = some l) :
    linkSettingsOwner m r s = (setPort m { port m s with pendingLine := .some l } s, .ok (divisorBytes l.baud)) := by
  simp only [linkSettingsOwner, some]

/-! ### The entries that wait (R172) -/

section
variable {m : Master} {s : State} {e : FifoEntry} {rest : List FifoEntry} {xs : List Byte} {a b : LinkAssembler}

theorem takeEntry_fifo (fifo : (port m s).fifo = e :: rest) : (port m (takeEntry m s)).fifo = rest := by
  rw [takeEntry_cons fifo]
  split
  · rw [port_setPort_self]
    rfl
  · rw [handleFrame_fifo, port_setPort_self]
    rfl

theorem drain_cons (listen : (port m s).phase = .listen) (fifo : (port m s).fifo = e :: rest) (fuel : Nat) :
    drain (fuel + 1) m s = drain fuel m (takeEntry m s) :=
  if_pos ⟨listen, by rw [fifo]; exact List.cons_ne_nil _ _⟩

theorem drain_busy (busy : (port m s).phase ≠ .listen) (fuel : Nat) : drain fuel m s = s := by
  cases fuel with
  | zero => rfl
  | succ fuel => exact if_neg fun h => busy h.1

/-- In LISTEN the oldest entry is taken, and then those after it. -/
theorem listenNow_cons (listen : (port m s).phase = .listen) (fifo : (port m s).fifo = e :: rest) :
    listenNow m s = listenNow m (takeEntry m s) := by
  rw [listenNow, fifo, List.length_cons, drain_cons listen fifo, listenNow, takeEntry_fifo fifo]

/-- Clean entries that go into a frame, with more to come after them. -/
theorem listenNow_inside (listen : (port m s).phase = .listen) (fifo : (port m s).fifo = xs.map cleanEntry ++ e :: rest)
    (at_start : (port m s).assembler = a) (taken : Assembles xs a b) (some : xs ≠ []) :
    listenNow m s =
      listenNow m (setPort m { port m s with fifo := e :: rest, assembler := b, interByte := none } s) := by
  induction xs generalizing a s with
  | nil => exact absurd rfl some
  | cons x xs ih =>
    obtain ⟨c, inside, took, next⟩ := taken
    rw [listenNow_cons (e := cleanEntry x) (rest := xs.map cleanEntry ++ e :: rest) listen fifo,
      takeEntry_inside (e := cleanEntry x) (rest := xs.map cleanEntry ++ e :: rest) fifo (at_start ▸ took) inside, if_neg (by simp)]
    cases xs with
    | nil =>
      cases next
      rfl
    | cons y ys =>
      rw [ih (by rw [port_setPort_self]; exact listen) (by rw [port_setPort_self]) (by rw [port_setPort_self]) next
        (List.cons_ne_nil _ _), port_setPort_self, setPort_setPort]

theorem handleFrame_phase (code high low : Byte) (payload : List Byte) :
    (port m (handleFrame m (code :: high :: low :: payload) s)).phase = .turnaround := by
  have own := port_respond_self { master := m, tag := join2 high low } code
    (if claimsBearOnParsed (parseRequest { master := m, tag := join2 high low } code payload) then
        serveAtClaims m (serveParsed m (parseRequest { master := m, tag := join2 high low } code payload)) s
      else serveParsed m (parseRequest { master := m, tag := join2 high low } code payload) (acceptFrame m s))
  exact congrArg Port.phase own

/-- A checked frame ends what stands in the assembler: what stood in its timer plays no part (R175). -/
theorem exec_request_interByte {i : Instr} {q : Req} {p : Port} (request : requestOf i = some q) (listening : p.phase = .listen)
    (x : Option Nat) : exec i (setPort q.master { p with interByte := x } s) = exec i (setPort q.master p s) := by
  have accepted : ∀ k, acceptFrame q.master { setPort q.master { p with interByte := x } s with freeCount := k } =
      acceptFrame q.master { setPort q.master p s with freeCount := k } := fun k => by cases q.master <;> rfl
  have accepted' : acceptFrame q.master (setPort q.master { p with interByte := x } s) = acceptFrame q.master (setPort q.master p s) := by
    cases q.master <;> rfl
  have l1 : Listening q.master (setPort q.master { p with interByte := x } s) := by
    rw [Listening, port_setPort_self]
    exact listening
  have l2 : Listening q.master (setPort q.master p s) := by
    rw [Listening, port_setPort_self]
    exact listening
  cases claims : claimsBearOn i with
  | true =>
    obtain ⟨code, -, answered⟩ := exec_atClaims claims request
    rw [answered, answered, answerAtClaims, answerAtClaims, settle_listening l1, settle_listening l2]
    unfold serveAtClaims
    rw [port_setPort_self, port_setPort_self, setPort_freeCount, setPort_freeCount, accepted, accepted']
  | false =>
    obtain ⟨code, -, answered⟩ := exec_plain claims request
    rw [answered, answered, answer_listening l1, answer_listening l2, accepted']

/-- A request's frame among the entries is answered, and what came after it waits on (R172). -/
theorem listenNow_request {i : Instr} {q : Req} {code : Byte} {payload : List Byte} (own : q.master = m) (wellFormed : i.wellFormed = true)
    (request : requestOf i = some q) (bytes : requestBytes i = some (code, payload)) (listen : (port m s).phase = .listen)
    (fifo : (port m s).fifo = (requestFrame q.tag code payload).map cleanEntry ++ rest) (hunt : (port m s).assembler = .hunt) :
    exec i (setPort m { port m s with fifo := rest } s) = .next (listenNow m s) := by
  subst own
  obtain ⟨b, inside, last⟩ := assembles_frame q.tag code (payload_short wellFormed bytes)
  rw [requestFrame_eq, List.map_append, List.append_assoc] at fifo
  rw [listenNow_inside (e := cleanEntry (frameLast q.tag code payload)) (rest := rest) listen fifo hunt inside (List.cons_ne_nil _ _)]
  generalize ht : setPort q.master
    { port q.master s with fifo := cleanEntry (frameLast q.tag code payload) :: rest, assembler := b, interByte := none } s = t
  have port_t : port q.master t =
      { port q.master s with fifo := cleanEntry (frameLast q.tag code payload) :: rest, assembler := b, interByte := none } := by
    rw [← ht, port_setPort_self]
  have next : (port q.master t).fifo = cleanEntry (frameLast q.tag code payload) :: rest := by rw [port_t]
  rw [listenNow_cons (by rw [port_t]; exact listen) next, takeEntry_frame next (by rw [port_t]; exact last), port_t, ← ht,
    setPort_setPort]
  have same : ({ port q.master s with fifo := rest, assembler := .hunt, interByte := none } : Port) =
      { port q.master s with fifo := rest, interByte := none } := by rw [← hunt]
  have handled := handleFrame_request (s := setPort q.master { port q.master s with fifo := rest, interByte := none } s) wellFormed
    request bytes (by rw [Listening, port_setPort_self]; exact listen)
  rw [listenNow_busy (by rw [show halfBytes q.tag ++ payload = _ :: _ :: payload from rfl, handleFrame_phase]; exact fun e => nomatch e)]
  refine (exec_request_interByte (p := { port q.master s with fifo := rest }) request listen none).symm.trans (handled.trans ?_)
  exact congrArg (fun p => Host.Outcome.next (handleFrame q.master _ (setPort q.master p s))) same.symm

end

/-- The port at the end of its response, as the statement writes it (R177, R178). -/
theorem releasedPort_eq (p : Port) :
    releasedPort p =
      { p with
        line := p.pendingLine.getD p.line, pendingLine := none
        clock := if p.pendingLine.getD p.line = p.line then p.clock
          else { fraction := 0, left := (64000000 + (p.pendingLine.getD p.line).baud / 2) / (p.pendingLine.getD p.line).baud / 64 }
        silenceTimer := (p.pendingLine.map fun l => l.silence * 1000000).or p.silenceTimer
        phase := .listen, receiver := .waitHigh, response := none, lineTimer := none } := by
  unfold releasedPort
  cases p.pendingLine <;> rfl

theorem endResponse_due {m : Master} {s : State} (phase : (port m s).phase = .responding) (due : (port m s).lineTimer = some 0) :
    endResponse m s = listenNow m (setPort m (releasedPort (port m s)) s) := by
  simp only [endResponse, phase, due]
  rfl

end Sys2Proof.Machine

namespace Sys2Proof
open Machine

/-- Settles O46: the settings as `lineSettings?` reads them, and the entries that wait as `listenNow` takes them. -/
theorem linkSettingsTakeEffect : Obligations.LinkSettingsTakeEffect := by
  unfold Obligations.LinkSettingsTakeEffect
  refine fun s => ⟨fun q r listening => ?_, fun m phase due => ?_⟩
  · intro u fits n
    refine ⟨fun bad => exec_served rfl listening (linkSettingsOwner_refused (lineSettings?_none bad)), fun ⟨slow, fast, parity, short, long⟩ =>
      exec_served rfl listening (linkSettingsOwner_held (lineSettings?_valid slow fast parity short long))⟩
  · intro p line released clean
    have ended : exec (.responseSent m) s = .next (listenNow m (setPort m released s)) := by
      refine congrArg Host.Outcome.next ((endResponse_due phase due).trans ?_)
      rw [releasedPort_eq]
    have own : port m (setPort m released s) = released := port_setPort_self ..
    have listen : (port m (setPort m released s)).phase = .listen := by rw [own]
    refine ⟨fun empty => ?_, fun e rest fifo => ?_, fun hunt => ⟨fun i q code payload rest master wellFormed request bytes fifo => ?_,
      fun b least most fifo => ?_⟩⟩
    · rw [ended, listenNow_empty (by rw [own]; exact empty)]
    · rw [ended, listenNow_cons listen (by rw [own]; exact fifo)]
    · have taken := listenNow_request (m := m) (s := setPort m released s) (rest := rest) master wellFormed request bytes listen
        (by rw [own]; exact fifo) (by rw [own]; exact hunt)
      rw [own, setPort_setPort] at taken
      rw [ended, ← taken]
    · rw [ended, listenNow_cons (e := cleanEntry 0xD2) (rest := [cleanEntry b]) listen (by rw [own]; exact fifo),
        takeEntry_inside (e := cleanEntry 0xD2) (rest := [cleanEntry b]) (a := .length false) (by rw [own]; exact fifo)
          (by rw [own]; exact (congrArg (assemble · _) hunt).trans assemble_lead) (fun e => nomatch e),
        own, setPort_setPort, if_neg (by simp)]
      generalize ht : setPort m { released with fifo := [cleanEntry b], assembler := .length false, interByte := none } s = t
      have port_t : port m t = { released with fifo := [cleanEntry b], assembler := .length false, interByte := none } := by
        rw [← ht, port_setPort_self]
      rw [listenNow_one (e := cleanEntry b) (by rw [port_t]) (by rw [port_t]),
        takeEntry_inside (e := cleanEntry b) (rest := []) (a := .body b.toNat [b] false) (by rw [port_t])
          (by rw [port_t]; exact assemble_length least most) (fun e => nomatch e), port_t, ← ht, setPort_setPort, if_pos rfl]

end Sys2Proof
end

section
/-! SUPPORT. A character at a port, by phase and assembler (R170 to R175). -/

namespace Sys2Proof.Machine

section
variable {m : Master} {byte : Byte} {marks : Marks} {s : State} {p : Port}

theorem receiverAfter_eq (marks : Marks) :
    receiverAfter marks = if (marks.framing || marks.brk) = true then .waitHigh else .idle := rfl

/-- A character that the receiver has not decided leaves it by its stop bit (R170, R177). -/
theorem receiverDone_commanded (new : p.decided ≠ some (byte, marks)) :
    receiverDone byte marks p =
      { p with
        receiver := receiverAfter marks
        lineTimer := if p.phase = .turnaround then
            (if (marks.framing || marks.brk) = true then none else some (2 * charTime p.line))
          else p.lineTimer } := by
  unfold receiverDone
  rw [if_neg new]
  have low : receiverAfter marks = .waitHigh ↔ (marks.framing || marks.brk) = true := by
    rw [receiverAfter_eq]
    split <;> simp_all
  simp only [low]

theorem receiverDone_decided (decided : p.decided = some (byte, marks)) :
    receiverDone byte marks p = { p with decided := none } := if_pos decided

theorem storeCharacter_room (room : p.fifo.length < 16) :
    storeCharacter byte marks p =
      { p with fifo := p.fifo ++ [entryOf p.line.even p.overrunPending byte marks], overrunPending := false } := if_pos room

theorem storeCharacter_full (full : 16 ≤ p.fifo.length) :
    storeCharacter byte marks p = { p with overrunPending := true } := if_neg (Nat.not_lt.2 full)

theorem receiveCharacter_turnaround (phase : (port m s).phase = .turnaround) :
    receiveCharacter m byte marks s = setPort m (storeCharacter byte marks (receiverDone byte marks (port m s))) s := by
  unfold receiveCharacter
  dsimp only
  rw [if_neg (by rw [phase]; exact fun e => nomatch e)]
  refine listenNow_busy ?_
  rw [port_setPort_self, storeCharacter_frame, receiverDone_frame]
  exact fun e => nomatch phase.symm.trans e

/-- In LISTEN a character is the one entry that the assembler takes (R171, R172). -/
theorem receiveCharacter_listen (phase : (port m s).phase = .listen) (empty : (port m s).fifo = [])
    (new : (port m s).decided ≠ some (byte, marks))
    (none : (assemble (port m s).assembler (entryOf (port m s).line.even (port m s).overrunPending byte marks)).frame = none) :
    receiveCharacter m byte marks s =
      let r := assemble (port m s).assembler (entryOf (port m s).line.even (port m s).overrunPending byte marks)
      setPort m
        { port m s with
          overrunPending := false, receiver := receiverAfter marks, assembler := r.assembler
          interByte := if r.assembler = .hunt then .none else some 25000, lastError := r.error.getD (port m s).lastError } s := by
  have done := receiverDone_commanded new
  rw [if_neg (by rw [phase]; exact fun e => nomatch e)] at done
  unfold receiveCharacter
  dsimp only
  rw [if_neg (by rw [phase]; exact fun e => nomatch e), done, storeCharacter_room (by rw [empty]; decide)]
  dsimp only
  rw [empty, List.nil_append]
  generalize entryOf (port m s).line.even (port m s).overrunPending byte marks = e at none ⊢
  rw [listenNow_one (e := e) (by rw [port_setPort_self]; exact phase) (by rw [port_setPort_self]),
    takeEntry_cons (e := e) (rest := []) (by rw [port_setPort_self]), port_setPort_self]
  dsimp only
  rw [none]
  dsimp only
  rw [setPort_setPort]
  unfold taking
  dsimp only
  by_cases hunt : (assemble (port m s).assembler e).assembler = .hunt
  · rw [if_neg (fun h => h.1 hunt), if_pos hunt, ← empty]
  · rw [if_pos ⟨hunt, rfl⟩, if_neg hunt, ← empty]
    rfl

theorem assemble_errored {e : FifoEntry} (h : errored e = true) (a : LinkAssembler) :
    assemble a e = { assembler := .hunt, error := some (entryError e), frame := none } := if_pos h

section
variable {e : FifoEntry} (sound : ¬ errored e = true)
include sound

theorem assemble_hunt :
    assemble .hunt e = { assembler := huntByte e.byte e.marks.noise, error := none, frame := none } := if_neg sound

theorem assemble_lengthByte (noisy : Bool) :
    assemble (.length noisy) e =
      if 3 ≤ e.byte.toNat ∧ e.byte.toNat ≤ 60 then
        { assembler := .body e.byte.toNat [e.byte] (noisy || e.marks.noise), error := none, frame := none }
      else { assembler := huntByte e.byte e.marks.noise, error := some .length, frame := none } := if_neg sound

theorem assemble_bodyByte (length : Nat) (taken : List Byte) (noisy : Bool) :
    assemble (.body length taken noisy) e =
      { assembler :=
          if taken.length < length then .body length (taken ++ [e.byte]) (noisy || e.marks.noise)
          else .check length (taken ++ [e.byte]) none (noisy || e.marks.noise)
        error := none, frame := none } := by
  have past : length < (taken ++ [e.byte]).length ↔ ¬ taken.length < length := by
    rw [List.length_append, List.length_singleton]
    omega
  refine (if_neg sound).trans ?_
  dsimp only
  by_cases more : taken.length < length
  · rw [if_neg (mt past.1 (not_not.2 more)), if_pos more]
  · rw [if_pos (past.2 more), if_neg more]

theorem assemble_checkHigh (length : Nat) (taken : List Byte) (noisy : Bool) :
    assemble (.check length taken none noisy) e =
      { assembler := .check length taken (some e.byte) (noisy || e.marks.noise), error := none, frame := none } := if_neg sound

theorem assemble_checkFails {length : Nat} {taken : List Byte} {high : Byte} {noisy : Bool} (fails : crc16 taken ≠ join2 high e.byte) :
    assemble (.check length taken (some high) noisy) e =
      { assembler := .hunt, error := some (if noisy || e.marks.noise then .noise else .check), frame := none } :=
  (if_neg sound).trans (if_neg fails)

end

/-- The entry of a character without an error mark has its byte (R170). -/
theorem entryOf_sound {even overrun : Bool} (sound : ¬ errored (entryOf even overrun byte marks) = true) :
    overrun = false ∧ (entryOf even overrun byte marks).byte = byte ∧
      (entryOf even overrun byte marks).marks.noise = marks.noise := by
  unfold entryOf at sound ⊢
  by_cases brk : marks.brk = true
  · refine absurd ?_ sound
    rw [if_pos brk]
    simp [errored, brk]
  · rw [if_neg brk] at sound ⊢
    refine ⟨?_, rfl, rfl⟩
    cases overrun
    · rfl
    · exact absurd rfl sound

end

end Sys2Proof.Machine

namespace Sys2Proof
open Machine

/-- Settles O49: outside LISTEN a character is stored or lost, and in LISTEN `assemble` takes its entry. -/
theorem charactersStoredAndErrored : Obligations.CharactersStoredAndErrored := by
  unfold Obligations.CharactersStoredAndErrored
  intro m byte marks s p entry low full receiver
  refine ⟨fun responding => congrArg Host.Outcome.next (if_pos responding), fun turnaround => ⟨fun new => ?_, fun decided room => ?_⟩,
    fun listen empty new bad => ?_, fun listen empty new sound => ?_⟩
  · intro idle
    have taken := receiveCharacter_turnaround (byte := byte) (marks := marks) turnaround
    rw [receiverDone_commanded new, if_pos turnaround] at taken
    refine ⟨fun room => congrArg Host.Outcome.next (taken.trans ?_), fun none => congrArg Host.Outcome.next (taken.trans ?_)⟩
    · exact congrArg (fun x => setPort m x s) (storeCharacter_room (by exact room))
    · exact congrArg (fun x => setPort m x s) (storeCharacter_full (by exact none))
  · have taken := receiveCharacter_turnaround (byte := byte) (marks := marks) turnaround
    rw [receiverDone_decided decided] at taken
    exact congrArg Host.Outcome.next
      (taken.trans (congrArg (fun x => setPort m x s) (storeCharacter_room (by exact room))))
  · have assembled := assemble_errored (e := entry) bad p.assembler
    have taken := receiveCharacter_listen (byte := byte) (marks := marks) listen empty new (congrArg Assembled.frame assembled)
    dsimp only at taken
    rw [show assemble (port m s).assembler (entryOf (port m s).line.even (port m s).overrunPending byte marks) = _ from assembled] at taken
    exact congrArg Host.Outcome.next taken
  · intro takes hunted
    have clean : ¬ errored entry = true := by
      rw [show errored entry = false from sound]
      exact Bool.false_ne_true
    obtain ⟨overrun, same, noise⟩ := entryOf_sound clean
    have took : ∀ a error, assemble p.assembler entry = { assembler := a, error := error, frame := none } →
        takes a (error.getD p.lastError) := by
      intro a error assembled
      have taken := receiveCharacter_listen (byte := byte) (marks := marks) listen empty new (congrArg Assembled.frame assembled)
      dsimp only at taken
      rw [show assemble (port m s).assembler (entryOf (port m s).line.even (port m s).overrunPending byte marks) = _ from assembled] at taken
      rw [← overrun] at taken
      exact congrArg Host.Outcome.next taken
    refine ⟨fun hunt => ?_, fun noisy at_length => ⟨fun least most => ?_, fun bad => ?_⟩, fun length taken noisy at_body => ?_,
      fun length taken noisy => ⟨fun at_check => ?_, fun high at_check fails => ?_⟩⟩
    · have assembled := assemble_hunt clean
      rw [same, noise, ← hunt] at assembled
      exact took _ _ assembled
    · have assembled := assemble_lengthByte clean noisy
      rw [same, noise, if_pos ⟨least, most⟩, ← at_length] at assembled
      exact took _ _ assembled
    · have assembled := assemble_lengthByte clean noisy
      rw [same, noise, if_neg (by omega), ← at_length] at assembled
      exact took _ _ assembled
    · have assembled := assemble_bodyByte clean length taken noisy
      rw [same, noise, ← at_body] at assembled
      exact took _ _ assembled
    · have assembled := assemble_checkHigh clean length taken noisy
      rw [same, noise, ← at_check] at assembled
      exact took _ _ assembled
    · have assembled := assemble_checkFails clean (length := length) (noisy := noisy) (by rw [same]; exact fails)
      rw [noise, ← at_check] at assembled
      exact took _ _ assembled

end Sys2Proof
end

section
/-! SUPPORT. What every read answers (R2, R51, R61, R70, R104, R116, R139, R146, R152, R162, R167, R179). -/

namespace Sys2Proof.Machine

section
variable {b : Byte} {s : State}

/-- A number read from a byte is written as that byte (R183). -/
theorem ofNat_of_index {n : Nat} {k : Fin n} (h : index? n b = some k) : BitVec.ofNat 8 k.val = b := by
  rw [← index?_eq_some.1 h, BitVec.ofNat_toNat, BitVec.setWidth_eq]

theorem readClaimsOwner_eq (s : State) :
    readClaimsOwner s =
      (s, .ok
        [holderByte s.groupHolders[(0 : GroupId)], holderByte s.groupHolders[(1 : GroupId)],
          holderByte s.groupHolders[(2 : GroupId)], holderByte s.groupHolders[(3 : GroupId)],
          holderByte s.groupHolders[(4 : GroupId)], holderByte s.govHolder]) := rfl

/-- A slot's bytes, by the byte that named it (R189). -/
theorem slotBytes_of_index {k : SlotId} (slot : index? 128 b = some k) (x : Slot) :
    slotBytes k x =
      (match x.state with
        | .free => [b, 0, 0, 255]
        | .written w => [b, 1, masterByte w, 255]
        | .bound w g => [b, 2, masterByte w, BitVec.ofNat 8 g.val]) ++ descriptorBytes x.record := by
  have number : indexByte (some k) = b := ofNat_of_index slot
  unfold slotBytes
  rw [number]
  cases x.state <;> rfl

theorem readDescriptorOwner_slot {k : SlotId} (slot : index? 128 b = some k) :
    readDescriptorOwner b s = (s, .ok (slotBytes k s.slots[k])) := by
  simp only [readDescriptorOwner, slot]

theorem readGroupOwners_group {g : GroupId} (group : index? 5 b = some g) :
    readChainOwner b s = (s, .ok (chainBytes g s.executors[g])) ∧
      readCursorsOwner b s =
        (s, .ok [b, BitVec.ofNat 8 s.executors[g].c1.val, BitVec.ofNat 8 s.executors[g].c2.val]) := by
  have number : BitVec.ofNat 8 g.val = b := ofNat_of_index group
  constructor
  · simp only [readChainOwner, group]
  · simp only [readCursorsOwner, group, number, indexByte]

theorem readOwners_number {n : ActId} (number : index? 16 b = some n) :
    readConfigurationOwner b s = (s, .ok (configBytes n s.actuators[n].cfg s.outputs[n])) ∧
      readStatusOwner b s = (s, .ok (statusBytes n s.actuators[n] s)) ∧
      readMeasurementOwner b s = (s, .ok (captureBytes n s.captures[n])) := by
  refine ⟨?_, ?_, ?_⟩
  · simp only [readConfigurationOwner, number]
  · simp only [readStatusOwner, number]
  · simp only [readMeasurementOwner, number]

theorem readStationOwner_entry {k : StationId} (entry : index? 8 b = some k) :
    readStationOwner b s = (s, .ok (stationBytes k s.stations[k])) := by
  simp only [readStationOwner, entry]

theorem readOwners_outOfRange :
    (index? 128 b = none → readDescriptorOwner b s = refuse .outOfRange s) ∧
      (index? 5 b = none → readChainOwner b s = refuse .outOfRange s ∧ readCursorsOwner b s = refuse .outOfRange s) ∧
      (index? 16 b = none → readConfigurationOwner b s = refuse .outOfRange s ∧ readStatusOwner b s = refuse .outOfRange s ∧
        readMeasurementOwner b s = refuse .outOfRange s) ∧
      (index? 8 b = none → readStationOwner b s = refuse .outOfRange s) := by
  refine ⟨fun none => ?_, fun none => ⟨?_, ?_⟩, fun none => ⟨?_, ?_, ?_⟩, fun none => ?_⟩
  · simp only [readDescriptorOwner, none]
  · simp only [readChainOwner, none]
  · simp only [readCursorsOwner, none]
  · simp only [readConfigurationOwner, none]
  · simp only [readStatusOwner, none]
  · simp only [readMeasurementOwner, none]
  · simp only [readStationOwner, none]

theorem link1or2?_none (not1 : b ≠ 1) (not2 : b ≠ 2) : link1or2? b = none := by
  unfold link1or2?
  split
  next e => exact absurd (BitVec.eq_of_toNat_eq e) not1
  next e => exact absurd (BitVec.eq_of_toNat_eq e) not2
  next => rfl

theorem readLinkOwner_none (not1 : b ≠ 1) (not2 : b ≠ 2) : readLinkOwner b s = refuse .outOfRange s := by
  simp only [readLinkOwner, link1or2?_none not1 not2]

/-- The status bytes of an actuator look at the filtered input levels alone (R190). -/
theorem statusBytes_congr {t : State} (inputs : t.inputs = s.inputs) (n : ActId) (a : Actuator) :
    statusBytes n a t = statusBytes n a s := by
  simp only [statusBytes, levelByte, filteredLevel, inputs]

end

end Sys2Proof.Machine

namespace Sys2Proof
open Machine

/-- Settles O45: each read is its owner's lookup, and the checked frame leaves what it looks up. -/
theorem readsAnswerWhatIsHeld : Obligations.ReadsAnswerWhatIsHeld := by
  unfold Obligations.ReadsAnswerWhatIsHeld
  refine ⟨fun q s hl => ?_, fun q s hl => ?_⟩
  · intro u
    have groups : u.groupHolders = s.groupHolders := acceptFrame_groupHolders ..
    have gov : u.govHolder = s.govHolder := acceptFrame_govHolder ..
    have slots : u.slots = s.slots := acceptFrame_slots ..
    have executors : u.executors = s.executors := acceptFrame_executors ..
    refine ⟨exec_served rfl hl ?_, fun slot k index => exec_served rfl hl ?_, fun group g index => ?_,
      fun slot far => exec_served rfl hl (readOwners_outOfRange.1 (index?_eq_none.2 far)), fun group far => ?_⟩
    · rw [← groups, ← gov]
      exact readClaimsOwner_eq u
    · rw [← slots]
      exact (readDescriptorOwner_slot index).trans (by rw [slotBytes_of_index index] <;> rfl)
    · obtain ⟨chain, cursors⟩ := readGroupOwners_group (s := u) index
      rw [executors] at chain cursors
      exact ⟨exec_served rfl hl chain, exec_served rfl hl cursors⟩
    · obtain ⟨chain, cursors⟩ := (readOwners_outOfRange (s := u)).2.1 (index?_eq_none.2 far)
      exact ⟨exec_served rfl hl chain, exec_served rfl hl cursors⟩
  · intro u
    have actuators : u.actuators = s.actuators := acceptFrame_actuators ..
    have outputs : u.outputs = s.outputs := acceptFrame_outputs ..
    have captures : u.captures = s.captures := acceptFrame_captures ..
    have inputs : u.inputs = s.inputs := acceptFrame_inputs ..
    have ptrip : u.ptrip = s.ptrip := acceptFrame_ptrip ..
    have governor : u.governor = s.governor := acceptFrame_governor ..
    have stations : u.stations = s.stations := acceptFrame_stations ..
    have receiver : u.receiver = s.receiver := acceptFrame_receiver ..
    refine ⟨fun b n index => ?_, fun b far => ?_, exec_served rfl hl ?_, exec_served rfl hl ?_, exec_served rfl hl ?_,
      exec_served rfl hl ?_, fun b k index => exec_served rfl hl ?_,
      fun b far => exec_served rfl hl (readOwners_outOfRange.2.2.2 (index?_eq_none.2 far)), exec_served rfl hl ?_,
      exec_served rfl hl rfl, exec_served rfl hl rfl, ?_, fun b not1 not2 => exec_served rfl hl (readLinkOwner_none not1 not2)⟩
    · obtain ⟨config, status, measurement⟩ := readOwners_number (s := u) index
      rw [actuators, outputs] at config
      rw [actuators, statusBytes_congr inputs] at status
      rw [captures] at measurement
      exact ⟨exec_served rfl hl config, exec_served rfl hl status, exec_served rfl hl measurement⟩
    · obtain ⟨config, status, measurement⟩ := (readOwners_outOfRange (s := u)).2.2.1 (index?_eq_none.2 far)
      exact ⟨exec_served rfl hl config, exec_served rfl hl status, exec_served rfl hl measurement⟩
    · rw [← outputs]
      rfl
    · rw [← inputs, ← ptrip]
      rfl
    · rw [← governor]
      rfl
    · rw [← governor]
      rfl
    · rw [← stations]
      exact readStationOwner_entry index
    · rw [← receiver]
      rfl
    · rw [port_acceptFrame_self]

end Sys2Proof
end

section
/-! SUPPORT. Frames that are no request, the timers of a port, and the level that it sends (R169, R174, R176, R177). -/

namespace Sys2Proof.Machine

section
variable {m : Master} {s : State}

theorem handleFrame_parsed {code high low : Byte} {payload : List Byte} {x : Parsed}
    (parsed : parseRequest { master := m, tag := join2 high low } code payload = x) (claims : claimsBearOnParsed x = false) :
    handleFrame m (code :: high :: low :: payload) s =
      respond { master := m, tag := join2 high low } code (serveParsed m x (acceptFrame m s)) := by
  simp only [handleFrame, parsed, claims]
  rfl

theorem interByteExpiry_due (due : (port m s).interByte = some 0) :
    interByteExpiry m s = setPort m { port m s with assembler := .hunt, interByte := none, lastError := .timeout } s := by
  simp only [interByteExpiry, due]

theorem interByteExpiry_still (early : (port m s).interByte ≠ some 0) : interByteExpiry m s = s := by
  unfold interByteExpiry
  dsimp only
  split
  next due => exact absurd due early
  next => rfl

theorem beginResponse_due {r : Response} (phase : (port m s).phase = .turnaround) (due : (port m s).lineTimer = some 0)
    (held : (port m s).response = some r) :
    beginResponse m s =
      setPort m
        { port m s with
          phase := .responding, receiver := .waitHigh
          lineTimer := some (responseChars r * charTime (port m s).line) } s := by
  simp only [beginResponse, phase, due, held]

theorem beginResponse_still (early : (port m s).lineTimer ≠ some 0) : beginResponse m s = s := by
  unfold beginResponse
  dsimp only
  split
  next due _ => exact absurd due early
  next => rfl

theorem endResponse_still (early : (port m s).lineTimer ≠ some 0) : endResponse m s = s := by
  unfold endResponse
  split
  next due => exact absurd due early
  next => rfl

theorem silenceEvent_still (early : (port m s).silenceTimer ≠ some 0) : silenceEvent m s = s := by
  unfold silenceEvent
  dsimp only
  split
  next due => exact absurd due early
  next => rfl

end

/-! ### The level that a port sends (R169, R177) -/

/-- An element of a concatenation of lists of one length. -/
theorem getD_flatMap {α β : Type} {f : α → List β} {c : Nat} (same : ∀ x, (f x).length = c) (a : α) (d : β) (xs : List α) {i : Nat}
    (inside : i < xs.length * c) : (xs.flatMap f).getD i d = (f (xs.getD (i / c) a)).getD (i % c) d := by
  have positive : 0 < c := Nat.pos_of_ne_zero fun e => by
    rw [e, Nat.mul_zero] at inside
    exact Nat.not_lt_zero i inside
  induction xs generalizing i with
  | nil => exact absurd inside (by simp)
  | cons x xs ih =>
    rw [List.flatMap_cons]
    by_cases early : i < c
    · rw [Nat.div_eq_of_lt early, Nat.mod_eq_of_lt early, List.getD_append _ _ _ _ (by rw [same]; exact early)]
      rfl
    · obtain ⟨j, rfl⟩ := Nat.exists_eq_add_of_le (Nat.le_of_not_lt early)
      have rest : j < xs.length * c := by
        rw [List.length_cons, Nat.succ_mul] at inside
        omega
      rw [List.getD_append_right _ _ _ _ (by rw [same]; omega), same, Nat.add_sub_cancel_left, ih rest, Nat.add_mod_left,
        Nat.add_div_left _ positive]
      rfl

/-- The bits of a character, by their numbers (R169). -/
theorem characterBits_getD (l : LineSettings) (b : Byte) {bit : Nat} (inside : bit < if l.even then 11 else 10) :
    (characterBits l b).getD bit true =
      if bit = 0 then false
      else if bit ≤ 8 then b.getLsbD (bit - 1)
      else if bit = 9 ∧ l.even = true then decide (((List.range 8).countP fun i => b.getLsbD i) % 2 = 1)
      else true := by
  have ones : ((List.range 8).map fun i => b.getLsbD i).count true = (List.range 8).countP fun i => b.getLsbD i := by
    rw [List.count, List.countP_map]
    exact List.countP_congr fun i _ => by simp
  unfold characterBits
  dsimp only
  rw [ones]
  cases even : l.even
  · rw [even] at inside
    have small : bit < 10 := inside
    interval_cases bit <;> rfl
  · rw [even] at inside
    have small : bit < 11 := inside
    interval_cases bit <;> rfl

theorem transmitLevel_silent {m : Master} {s : State} (silent : (port m s).phase ≠ .responding) : transmitLevel m s = none := by
  unfold transmitLevel
  dsimp only
  split
  next phase _ _ => exact absurd phase silent
  next => rfl

theorem transmitLevel_responding {m : Master} {s : State} {r : Response} {left : Nat} (phase : (port m s).phase = .responding)
    (held : (port m s).response = some r) (running : (port m s).lineTimer = some left) :
    transmitLevel m s =
      some ((responseBits (port m s).line r).getD
        (((responseFrame r).length * charTime (port m s).line - left) / divisorN (port m s).line.baud) true) := by
  rw [length_responseFrame]
  simp only [transmitLevel, phase, held, running]

end Sys2Proof.Machine

namespace Sys2Proof
open Machine

/-- Settles O48: each event by its own lemma, and the bit being sent by `getD_flatMap` and `characterBits_getD`. -/
theorem noRequestAndPortTimers : Obligations.NoRequestAndPortTimers := by
  unfold Obligations.NoRequestAndPortTimers
  refine fun s => ⟨fun q code length hl => ⟨exec_served rfl hl rfl, exec_served rfl hl rfl⟩, fun m code high low payload => ?_,
    fun m due => congrArg Host.Outcome.next (interByteExpiry_due due), fun m => ⟨fun early => congrArg Host.Outcome.next (interByteExpiry_still early),
      fun early => ⟨congrArg Host.Outcome.next (beginResponse_still early), congrArg Host.Outcome.next (endResponse_still early)⟩,
      fun early => congrArg Host.Outcome.next (silenceEvent_still early)⟩, fun m r phase due held => ?_, fun m => ?_⟩
  · exact ⟨fun parsed => handleFrame_parsed parsed rfl, fun parsed => handleFrame_parsed parsed rfl⟩
  · intro line
    have begun := beginResponse_due phase due held
    rw [← length_responseFrame] at begun
    exact congrArg Host.Outcome.next begun
  · intro line bitTime charBits
    refine ⟨transmitLevel_silent, fun r left gone phase held running unfinished total => ?_⟩
    intro byte bit
    have positive : 0 < bitTime := Nat.pos_of_ne_zero fun e => by
      rw [e, Nat.mul_zero, Nat.mul_zero] at total
      omega
    have sent := transmitLevel_responding phase held running
    have elapsed : (responseFrame r).length * charTime (port m s).line - left = gone := by
      show (responseFrame r).length * (charBits * bitTime) - left = gone
      omega
    have place : gone / bitTime < (responseFrame r).length * charBits := by
      rw [Nat.div_lt_iff_lt_mul positive, Nat.mul_assoc]
      omega
    have bits := getD_flatMap (f := characterBits line) (c := charBits) (fun b => length_characterBits line b) 0 true
      (responseFrame r) place
    rw [Nat.div_div_eq_div_mul, Nat.mul_comm bitTime charBits, ← Nat.mod_mul_left_div_self] at bits
    rw [elapsed] at sent
    refine sent.trans (congrArg some (bits.trans (characterBits_getD line byte (bit := bit) ?_)))
    have whole : 0 < charBits := by
      show 0 < if line.even then 11 else 10
      split <;> decide
    show gone % (charBits * bitTime) / bitTime < charBits
    rw [Nat.mod_mul_left_div_self]
    exact Nat.mod_lt _ whole

end Sys2Proof
end

section
/-! SUPPORT. The layouts of the records that reads answer, flat: every field in its place, with a code for its absence (R189 to
R193). -/

namespace Sys2Proof.Machine

/-! ### Fields -/

theorem indexByte_eq {n : Nat} (k : Option (Fin n)) : indexByte k = BitVec.ofNat 8 ((k.map Fin.val).getD 255) := by
  cases k <;> rfl

theorem polarityByte_eq (p : Polarity) : polarityByte p = if p == .activeLow then 1 else 0 := by
  cases p <;> rfl

/-- A displacement sign-extended is its residue (R183). -/
theorem displacementByte_eq (d : BitVec 6) : displacementByte d = BitVec.ofNat 8 ((d.toInt + 256) % 256).toNat := by
  revert d
  decide

/-! ### Records -/

theorem statusBytes_eq (n : ActId) (a : Actuator) (s : State) :
    statusBytes n a s =
      [indexByte (some n), serviceByte a.state, phaseByte a.state] ++ byte2 a.command ++
        [(a.ramp.map fun r => originByte r.origin).getD 0] ++ byte2 ((a.ramp.map Ramp.target).getD 0) ++
        byte2 ((a.ramp.map Ramp.rateStep).getD 0) ++ byte1 a.accumulator ++ [flagByte a.follow.isSome] ++
        byte2 (a.follow.getD 0) ++ byte2 ((a.feedback.map Feedback.value).getD 0) ++
        [(a.feedback.map fun f => captureStatusByte f.status).getD 0, faultByte a.fault, flagByte a.furtherFault] ++
        byte2 a.commandAtFault ++ [levelByte a.cfg.proofInput s, levelByte (a.cfg.permissive.map Permissive.input) s] ++
        timerByte a.proofTimer ++ timerByte a.deviationTimer ++ timerByte a.lostTimer := by
  unfold statusBytes
  cases a.ramp <;> cases a.feedback <;> rfl

theorem chainBytes_eq (g : GroupId) (x : Executor) :
    chainBytes g x =
      [indexByte (some g), execByte x.state, holderByte x.starter, indexByte x.startSlot, indexByte x.current,
          waitingByte x.waiting] ++ byte2 (secondsLeft (x.timer.getD 0)) ++ byte1 x.stepCount ++
        [acceptedByte x.currentAccepted, (x.retained.map fun r => if r.second.isSome then 2 else 1).getD 0] ++
        byte2 ((x.retained.map Retained.first).getD 0).toNat ++ byte2 ((x.retained.bind Retained.second).getD 0).toNat ++
        [indexByte (x.retained.bind Retained.row), indexByte (x.lastFailure.map Failure.slot),
          (x.lastFailure.map fun f => reasonByte f.reason).getD 0,
          (x.lastFailure.map fun f => if f.stage = .acceptance then 1 else 2).getD 0, outcomeByte x.outcome] := by
  unfold chainBytes
  cases x.retained <;> cases x.lastFailure <;> rfl

theorem captureBytes_eq (c : CaptureId) (x : Capture) :
    captureBytes c x =
      [indexByte (some c), captureModeByte x.mode] ++ byte1 x.prescale ++ byte1 x.timeout ++ byte2 x.gain ++
        byte2 x.offset.toNat ++ [(capturePhaseBytes x.phase).getD 0 0, (capturePhaseBytes x.phase).getD 1 0] ++
        byte4 (x.lastRaw.getD 0xFFFFFFFF) ++ byte2 x.value ++ [captureStatusByte x.status] ++
        byte1 (tenthsLeft (x.timer.getD 0)) := by
  unfold captureBytes
  cases x.phase <;> rfl

theorem governorBytes_eq (g : Governor) :
    governorBytes g =
      [modeByte g.mode] ++ byte2 g.demand ++ byte4 g.integral ++ byte2 (secondsLeft (g.holdTimer.getD 0)) ++
        byte1 (g.eligible.getD 255) ++ [flagByte g.lastError.isSome, (g.lastError.map fun e => indexByte (some e.entry)).getD 0] ++
        signed2 ((g.lastError.map GovError.error).getD 0) ++ signed4 ((g.lastError.map GovError.p).getD 0) ++
        signed4 ((g.lastError.map GovError.raw).getD 0) := by
  unfold governorBytes
  cases g.lastError <;> rfl

theorem stationBytes_eq (k : StationId) (x : Station) :
    stationBytes k x =
      [indexByte (some k), flagByte x.enabled] ++ byte1 x.address ++ byte2 x.setpoint ++ byte1 x.staleTime ++
        [stationStateByte x.state] ++ byte2 ((x.reading.map Reading.dp).getD 0) ++
        [(x.reading.map Reading.sequence).getD 0, (x.reading.map fun r => qualityByte r.quality).getD 0] ++
        timerByte x.staleTimer := by
  unfold stationBytes
  cases x.reading <;> rfl

theorem lineStatusBytes_eq (r : StationReceiver) :
    lineStatusBytes r =
      byte2 r.baud ++ divisorBytes r.baud ++
        [assemblerByte r.assembler, (rejectionBytes r.lastRejection).getD 0 0, (rejectionBytes r.lastRejection).getD 1 0] := by
  unfold lineStatusBytes
  cases r.lastRejection <;> rfl

end Sys2Proof.Machine

namespace Sys2Proof
open Machine
/-- Settles O52, record by record: each flat form agrees with its table field by field. -/
theorem recordLayouts : Obligations.RecordLayouts := by
  unfold Obligations.RecordLayouts
  intro two four one yes whole number status divisor
  refine ⟨fun d => ?_, rfl, fun n c o => ?_, fun n a s => ?_, fun g x => ?_, fun o x p => ⟨?_, ?_, ?_⟩, fun c x => ?_,
    fun g => ⟨?_, ?_⟩, fun k x => ?_, fun r => ?_, fun m p => ?_⟩
  · refine congrArg₂ (· ++ ·) (congrArg₂ (· ++ ·) (congrArg₂ (· ++ ·) (congrArg₂ (· ++ ·) ?op ?operand) rfl) ?second) ?links
    case op =>
      cases d.op with
      | awaitMeas c rel t => cases rel <;> rfl
      | cursor c a => cases c <;> cases a <;> rfl
      | _ => rfl
    case operand =>
      cases d.operand with
      | idx b x | idxu b x => cases b <;> exact congrArg (fun y => [_, _, y]) (displacementByte_eq x)
      | _ => rfl
    case second => cases d.op <;> rfl
    case links =>
      simp only [List.cons.injEq, and_true]
      refine ⟨by cases d.op <;> rfl, by cases d.onFail <;> rfl, indexByte_eq _, ?_⟩
      cases d.onFail with
      | branch alt => exact indexByte_eq _
      | _ => rfl
  · unfold configBytes
    simp only [byte1, byte2, two, one, yes, number, List.cons_append, List.nil_append, List.cons.injEq, and_true, true_and]
    exact ⟨rfl, by cases c.kind <;> rfl, indexByte_eq _, rfl, rfl, polarityByte_eq _, indexByte_eq _, rfl,
      by rcases c.safeAction with _ | _ | _ | _ <;> rfl, by cases c.permissive <;> rfl, by cases c.permissive <;> rfl,
      by cases c.feedback <;> rfl, by cases c.feedback <;> rfl, by cases c.feedback <;> rfl, by cases c.feedback <;> rfl⟩
  · rw [statusBytes_eq]
    intro level
    simp only [byte1, byte2, timerByte, two, one, yes, status, whole, List.cons_append, List.nil_append,
      List.cons.injEq, and_true, true_and]
    have level_eq (d : Option InputId) : levelByte d s = level d := by cases d <;> rfl
    exact ⟨rfl, by cases a.state <;> rfl, by rcases a.state with _ | _ | _ | _ | (_ | _) | _ | _ | _ <;> rfl,
      by rcases a.ramp with _ | ⟨_, _, _ | _ | _ | _⟩ <;> rfl, rfl, by rcases a.feedback with _ | ⟨_, _ | _ | _⟩ <;> rfl,
      by cases a.fault <;> rfl, rfl, level_eq _, level_eq _, rfl, rfl, rfl⟩
  · rw [chainBytes_eq]
    simp only [byte1, byte2, two, one, number, whole, List.cons_append, List.nil_append, List.cons.injEq, and_true, true_and]
    exact ⟨rfl, by cases x.state <;> rfl, by rcases x.starter with _ | _ | _ <;> rfl, indexByte_eq _, indexByte_eq _,
      by rcases x.waiting with _ | _ | _ | _ | _ | _ | _ | _ <;> rfl, rfl, rfl,
      by rcases x.currentAccepted with _ | _ | _ <;> rfl, by cases x.retained <;> rfl, indexByte_eq _,
      by cases x.lastFailure <;> rfl, by rcases x.lastFailure with _ | ⟨_, _ | _, _⟩ <;> rfl,
      by rcases x.lastFailure with _ | ⟨_, _, _ | _⟩ <;> rfl, by cases x.outcome <;> rfl⟩
  · unfold outputBytes
    rw [polarityByte_eq]
    rfl
  · rfl
  · rfl
  · rw [captureBytes_eq]
    simp only [byte1, byte2, byte4, two, four, one, status, List.cons_append, List.nil_append, List.cons.injEq,
      and_true, true_and]
    exact ⟨rfl, by cases x.mode <;> rfl, by cases x.phase <;> rfl, by cases x.phase <;> rfl, by cases x.status <;> rfl, rfl⟩
  · rfl
  · rw [governorBytes_eq]
    simp only [byte1, byte2, byte4, signed2, signed4, two, four, one, yes, number, whole, List.cons_append,
      List.nil_append, List.cons.injEq, and_true, true_and]
    exact ⟨by cases g.mode <;> rfl, rfl, rfl, rfl, by cases g.lastError <;> rfl⟩
  · rw [stationBytes_eq]
    simp only [byte1, byte2, timerByte, two, one, yes, whole, List.cons_append, List.nil_append, List.cons.injEq,
      and_true, true_and]
    exact ⟨rfl, rfl, by cases x.state <;> rfl, by rcases x.reading with _ | ⟨_, _, _ | _ | _⟩ <;> rfl, rfl⟩
  · rw [lineStatusBytes_eq]
    simp only [byte1, byte2, divisorBytes, divisor, two, one, List.cons_append, List.nil_append, List.cons.injEq,
      and_true, true_and]
    exact ⟨rfl, rfl, rfl, by cases r.assembler <;> rfl, by cases r.lastRejection <;> rfl, by cases r.lastRejection <;> rfl⟩
  · unfold linkStatusBytes
    simp only [byte1, byte2, byte3, timerByte, divisorBytes, divisor, two, one, yes, whole, List.cons_append,
      List.nil_append, List.cons.injEq, and_true, true_and]
    exact ⟨by cases m <;> rfl, rfl, rfl, rfl, rfl, by cases p.phase <;> rfl, rfl, by cases p.lastError <;> rfl, rfl⟩
end Sys2Proof
end

section
/-! SUPPORT. ACT's requests: what each check asks, and the requests as their checks in order (R4, R11, R12, R26). -/

namespace Sys2Proof.Machine

/-! ### The checks -/

theorem holdsActuator_iff {m : Master} {a : Actuator} {g : GroupId} {s : State} (hg : a.cfg.group = some g) :
    holdsActuator m a s = true ↔ s.groupHolders[g] = some m := by
  unfold holdsActuator
  rw [hg]
  exact holdsGroup_iff

theorem mayClear_iff {m : Master} {a : Actuator} {g : GroupId} {s : State} (hg : a.cfg.group = some g) :
    mayClear m a s = true ↔ s.groupHolders[g] = some m ∨ s.groupHolders[g] = none := by
  unfold mayClear
  rw [hg]
  exact Bool.or_eq_true_iff.trans (or_congr beq_iff_eq beq_iff_eq)

theorem groupIdle_iff {k : Option GroupId} {s : State} :
    groupIdle k s = true ↔ ∀ g, k = some g → s.executors[g].state = .idle := by
  unfold groupIdle
  cases k with
  | none => exact iff_of_true rfl nofun
  | some g => exact beq_iff_eq.trans ⟨fun h _ same => Option.some.inj same ▸ h, fun h => h g rfl⟩

theorem holdsPresent_iff {m : Master} {k : Option GroupId} {s : State} :
    holdsPresent m k s = true ↔ ∀ g, k = some g → s.groupHolders[g] = some m := by
  unfold holdsPresent
  cases k with
  | none => exact iff_of_true rfl nofun
  | some g => exact holdsGroup_iff.trans ⟨fun h _ same => Option.some.inj same ▸ h, fun h => h g rfl⟩

theorem holdsNew_iff {m : Master} {r : RawActuator} {s : State} :
    holdsNew m r s = true ↔ (r.kind ≠ 0 → ∃ g, index? 5 r.group = some g ∧ s.groupHolders[g] = some m) := by
  unfold holdsNew
  rw [Bool.or_eq_true_iff, beq_iff_eq, or_iff_not_imp_left]
  refine imp_congr_right fun _ => ?_
  cases index? 5 r.group with
  | none => exact iff_of_false Bool.false_ne_true nofun
  | some g => exact holdsGroup_iff.trans ⟨fun h => ⟨g, rfl, h⟩, fun ⟨_, same, h⟩ => Option.some.inj same ▸ h⟩

theorem proofRunning_iff {a : Actuator} {s : State} :
    proofRunning a s = true ↔ ∃ d, a.cfg.proofInput = some d ∧ s.inputs[d].filtered = true := by
  unfold proofRunning
  cases a.cfg.proofInput with
  | none => exact iff_of_false Bool.false_ne_true nofun
  | some d => exact ⟨fun h => ⟨d, rfl, h⟩, fun ⟨_, same, h⟩ => Option.some.inj same ▸ h⟩

/-- Feedback passes the check of a service entry where none is configured, or where it is OK (R11). -/
theorem feedbackOk_iff {a : Actuator} :
    feedbackOk a = true ↔ a.cfg.feedback = none ∨ ∃ f, a.feedback = some f ∧ f.status = .ok := by
  unfold feedbackOk
  cases a.cfg.feedback with
  | none => exact iff_of_true rfl (.inl rfl)
  | some c =>
    cases a.feedback with
    | none => exact iff_of_false Bool.false_ne_true (by simp)
    | some f => exact beq_iff_eq.trans (by simp)

@[simp] theorem holdsActuator_acceptFrame (m k : Master) (a : Actuator) (s : State) :
    holdsActuator m a (acceptFrame k s) = holdsActuator m a s := by
  unfold holdsActuator holdsGroup
  rw [acceptFrame_groupHolders]

@[simp] theorem mayClear_acceptFrame (m k : Master) (a : Actuator) (s : State) :
    mayClear m a (acceptFrame k s) = mayClear m a s := by
  unfold mayClear
  rw [acceptFrame_groupHolders]

@[simp] theorem groupIdle_acceptFrame (k : Master) (g : Option GroupId) (s : State) :
    groupIdle g (acceptFrame k s) = groupIdle g s := by
  unfold groupIdle
  rw [acceptFrame_executors]

@[simp] theorem holdsPresent_acceptFrame (m k : Master) (g : Option GroupId) (s : State) :
    holdsPresent m g (acceptFrame k s) = holdsPresent m g s := by
  unfold holdsPresent holdsGroup
  rw [acceptFrame_groupHolders]

@[simp] theorem holdsNew_acceptFrame (m k : Master) (r : RawActuator) (s : State) :
    holdsNew m r (acceptFrame k s) = holdsNew m r s := by
  unfold holdsNew holdsGroup
  rw [acceptFrame_groupHolders]

@[simp] theorem proofRunning_acceptFrame (k : Master) (a : Actuator) (s : State) :
    proofRunning a (acceptFrame k s) = proofRunning a s := by
  unfold proofRunning filteredLevel
  rw [acceptFrame_inputs]

/-! ### A number that is no actuator -/

theorem actOwners_outOfRange {b : Byte} (h : 16 ≤ b.toNat) (m : Master) (s : State) :
    setServiceInOwner m b s = refuse .outOfRange s ∧ setServiceOutOwner m b s = refuse .outOfRange s ∧
      clearFaultOwner m b s = refuse .outOfRange s ∧
      ∀ r : RawActuator, r.number = b → configureActuatorOwner m r s = refuse .outOfRange s := by
  have none := index?_eq_none.2 h
  refine ⟨?_, ?_, ?_, fun r number => ?_⟩
  · simp only [setServiceInOwner, none]
  · simp only [setServiceOutOwner, none]
  · simp only [clearFaultOwner, none]
  · simp only [configureActuatorOwner, number, none]

/-! ### The checks in order -/

theorem setServiceInOwner_eq {m k : Master} {b : Byte} {n : ActId} (hn : index? 16 b = some n) (s : State) :
    setServiceInOwner m b (acceptFrame k s) =
      if s.actuators[n].cfg.kind = .none then refuse .wrongState (acceptFrame k s)
      else if ¬ holdsActuator m s.actuators[n] s then refuse .notHolder (acceptFrame k s)
      else if s.ptrip.asserted then refuse .tripActive (acceptFrame k s)
      else if s.actuators[n].state ≠ .outOfService then refuse .wrongState (acceptFrame k s)
      else if s.actuators[n].cfg.kind = .pump ∧ proofRunning s.actuators[n] s then refuse .notPresent (acceptFrame k s)
      else if ¬ feedbackOk s.actuators[n] then refuse .notPresent (acceptFrame k s)
      else (putActuator n (serviceEntry s.actuators[n]) (acceptFrame k s), .ok []) := by
  simp only [setServiceInOwner, hn, acceptFrame_actuators, acceptFrame_ptrip, holdsActuator_acceptFrame,
    proofRunning_acceptFrame]

theorem setServiceOutOwner_eq {m k : Master} {b : Byte} {n : ActId} (hn : index? 16 b = some n) (s : State) :
    setServiceOutOwner m b (acceptFrame k s) =
      if s.actuators[n].cfg.kind = .none then refuse .wrongState (acceptFrame k s)
      else if ¬ holdsActuator m s.actuators[n] s then refuse .notHolder (acceptFrame k s)
      else if ¬ groupIdle s.actuators[n].cfg.group s then refuse .busy (acceptFrame k s)
      else if ¬ mayLeave s.actuators[n] then refuse .wrongState (acceptFrame k s)
      else (putActuator n (serviceExit s.actuators[n]) (acceptFrame k s), .ok []) := by
  simp only [setServiceOutOwner, hn, acceptFrame_actuators, holdsActuator_acceptFrame, groupIdle_acceptFrame]

theorem clearFaultOwner_eq {m k : Master} {b : Byte} {n : ActId} (hn : index? 16 b = some n) (s : State) :
    clearFaultOwner m b (acceptFrame k s) =
      if ¬ mayClear m s.actuators[n] s then refuse .notHolder (acceptFrame k s)
      else if s.ptrip.asserted then refuse .tripActive (acceptFrame k s)
      else if s.actuators[n].state ≠ .faulted then refuse .wrongState (acceptFrame k s)
      else if s.actuators[n].cfg.kind = .pump ∧ proofRunning s.actuators[n] s then refuse .wrongState (acceptFrame k s)
      else (putActuator n (clearedEntry s.actuators[n]) (acceptFrame k s), .ok []) := by
  simp only [clearFaultOwner, hn, acceptFrame_actuators, acceptFrame_ptrip, mayClear_acceptFrame, proofRunning_acceptFrame]

theorem configureActuatorOwner_eq {m k : Master} {r : RawActuator} {n : ActId} (hn : index? 16 r.number = some n)
    (s : State) :
    configureActuatorOwner m r (acceptFrame k s) =
      if ¬ (holdsPresent m s.actuators[n].cfg.group s && holdsNew m r s) then refuse .notHolder (acceptFrame k s)
      else if s.actuators[n].state ≠ .outOfService then refuse .wrongState (acceptFrame k s)
      else if s.actuators[n].cfg.group ≠ newGroup r ∧
          ¬ (groupIdle s.actuators[n].cfg.group s && groupIdle (newGroup r) s) then refuse .busy (acceptFrame k s)
      else (actWrite? r).elim (refuse .outOfRange (acceptFrame k s)) fun w => (configure n w (acceptFrame k s), .ok []) := by
  simp only [configureActuatorOwner, hn, acceptFrame_actuators, holdsPresent_acceptFrame, holdsNew_acceptFrame,
    groupIdle_acceptFrame]
  cases actWrite? r <;> rfl

/-! ### CONFIGURE ACTUATOR -/

section
variable {q : Req} {r : RawActuator} {n : ActId} {s : State}

theorem configureActuator_notHolder (hl : ListeningInTime q.master s) (hn : index? 16 r.number = some n)
    (away : ¬ (holdsPresent q.master s.actuators[n].cfg.group s = true ∧ holdsNew q.master r s = true)) :
    exec (.configureActuator q r) s = .next (respond q 0x40 (acceptFrame q.master s, .refuse .notHolder [])) :=
  exec_servedInTime rfl hl ((configureActuatorOwner_eq hn s).trans (if_pos (by rwa [Bool.and_eq_true])))

/-- CONFIGURE ACTUATOR by the holder of the present group and of the new one. -/
theorem configureActuatorOwner_held {k m : Master} (hn : index? 16 r.number = some n)
    (present : holdsPresent m s.actuators[n].cfg.group s = true) (new : holdsNew m r s = true) :
    configureActuatorOwner m r (acceptFrame k s) =
      if s.actuators[n].state ≠ .outOfService then refuse .wrongState (acceptFrame k s)
      else if s.actuators[n].cfg.group ≠ newGroup r ∧
          ¬ (groupIdle s.actuators[n].cfg.group s && groupIdle (newGroup r) s) then refuse .busy (acceptFrame k s)
      else (actWrite? r).elim (refuse .outOfRange (acceptFrame k s)) fun w => (configure n w (acceptFrame k s), .ok []) := by
  rw [configureActuatorOwner_eq hn, if_neg]
  rw [present, new]
  decide

theorem configureActuator_wrongState (hl : ListeningInTime q.master s) (hn : index? 16 r.number = some n)
    (present : holdsPresent q.master s.actuators[n].cfg.group s = true) (new : holdsNew q.master r s = true)
    (away : s.actuators[n].state ≠ .outOfService) :
    exec (.configureActuator q r) s = .next (respond q 0x40 (acceptFrame q.master s, .refuse .wrongState [])) :=
  exec_servedInTime rfl hl ((configureActuatorOwner_held hn present new).trans (if_pos away))

theorem configureActuator_busy (hl : ListeningInTime q.master s) (hn : index? 16 r.number = some n)
    (present : holdsPresent q.master s.actuators[n].cfg.group s = true) (new : holdsNew q.master r s = true)
    (away : s.actuators[n].state = .outOfService) (moved : s.actuators[n].cfg.group ≠ newGroup r)
    (busy : ¬ (groupIdle s.actuators[n].cfg.group s = true ∧ groupIdle (newGroup r) s = true)) :
    exec (.configureActuator q r) s = .next (respond q 0x40 (acceptFrame q.master s, .refuse .busy [])) :=
  exec_servedInTime rfl hl
    (by rw [configureActuatorOwner_held hn present new, if_neg (not_not.2 away),
      if_pos ⟨moved, by rwa [Bool.and_eq_true]⟩]; rfl)

/-- CONFIGURE ACTUATOR past every check but that of the record. -/
theorem configureActuatorOwner_checked {k m : Master} (hn : index? 16 r.number = some n)
    (present : holdsPresent m s.actuators[n].cfg.group s = true) (new : holdsNew m r s = true)
    (away : s.actuators[n].state = .outOfService)
    (idle : s.actuators[n].cfg.group = newGroup r ∨
      groupIdle s.actuators[n].cfg.group s = true ∧ groupIdle (newGroup r) s = true) :
    configureActuatorOwner m r (acceptFrame k s) =
      (actWrite? r).elim (refuse .outOfRange (acceptFrame k s)) fun w => (configure n w (acceptFrame k s), .ok []) := by
  rw [configureActuatorOwner_held hn present new, if_neg (not_not.2 away), if_neg]
  rintro ⟨moved, busy⟩
  rcases idle with same | ⟨old, fresh⟩
  · exact moved same
  · exact busy (by rw [old, fresh]; rfl)

theorem configureActuator_outOfRange (hl : ListeningInTime q.master s) (hn : index? 16 r.number = some n)
    (present : holdsPresent q.master s.actuators[n].cfg.group s = true) (new : holdsNew q.master r s = true)
    (away : s.actuators[n].state = .outOfService)
    (idle : s.actuators[n].cfg.group = newGroup r ∨
      groupIdle s.actuators[n].cfg.group s = true ∧ groupIdle (newGroup r) s = true) (bad : actWrite? r = none) :
    exec (.configureActuator q r) s = .next (respond q 0x40 (acceptFrame q.master s, .refuse .outOfRange [])) :=
  exec_servedInTime rfl hl (by rw [configureActuatorOwner_checked hn present new away idle, bad]; rfl)

end

theorem holdsNew_away {m : Master} {r : RawActuator} {s : State} (kind : r.kind ≠ 0)
    (away : ∀ g, index? 5 r.group = some g → s.groupHolders[g] ≠ some m) : holdsNew m r s ≠ true := fun held =>
  let ⟨g, named, holder⟩ := holdsNew_iff.1 held kind
  away g named holder

end Sys2Proof.Machine

namespace Sys2Proof
open Machine

/-- Settles O26: each request refused by the first check it fails. -/
theorem actuatorRequestsRefused : Obligations.ActuatorRequestsRefused := by
  unfold Obligations.ActuatorRequestsRefused
  refine ⟨?_, ?_, ?_, ?_⟩
  · intro q actuator s hl noAct u
    obtain ⟨enter, leave, clear, configure⟩ := actOwners_outOfRange noAct q.master u
    exact ⟨exec_servedInTime rfl hl enter, exec_servedInTime rfl hl leave, exec_servedInTime rfl hl clear,
      fun r number => exec_servedInTime rfl hl (configure r number)⟩
  · intro q actuator n s hl hn none u
    refine ⟨exec_servedInTime rfl hl ((setServiceInOwner_eq hn s).trans (if_pos none)),
      exec_servedInTime rfl hl ((setServiceOutOwner_eq hn s).trans (if_pos none)), fun ungrouped out noTrip =>
        exec_servedInTime rfl hl ?_⟩
    have free : mayClear q.master s.actuators[n] s = true := by unfold mayClear; rw [ungrouped]
    rw [clearFaultOwner_eq hn, if_neg (not_not.2 free), noTrip, if_neg Bool.false_ne_true, if_pos (by rw [out]; decide)]
    rfl
  · intro q r n s hl hn _ ungrouped refused
    have present : holdsPresent q.master s.actuators[n].cfg.group s = true := by rw [ungrouped]; rfl
    refine ⟨fun kind away => configureActuator_notHolder hl hn fun held => holdsNew_away kind away held.2, fun held =>
      ⟨configureActuator_wrongState hl hn present (holdsNew_iff.2 held), fun out => ⟨fun ⟨h, named, running⟩ => ?_,
        fun idle => configureActuator_outOfRange hl hn present (holdsNew_iff.2 held) out
          (.inr ⟨by rw [ungrouped]; rfl, groupIdle_iff.2 idle⟩)⟩⟩⟩
    exact configureActuator_busy hl hn present (holdsNew_iff.2 held) out (by rw [ungrouped, named]; exact nofun)
      fun idle => running (groupIdle_iff.1 idle.2 h named)
  · intro q actuator n g s hl hn hg some u a
    have enter := setServiceInOwner_eq (m := q.master) (k := q.master) hn s
    have leave := setServiceOutOwner_eq (m := q.master) (k := q.master) hn s
    have clear := clearFaultOwner_eq (m := q.master) (k := q.master) hn s
    rw [if_neg some] at enter leave
    refine ⟨fun away => ?_, fun holder => ?_⟩
    · have held : ¬ holdsActuator q.master a s = true := mt (holdsActuator_iff hg).1 away
      refine ⟨exec_servedInTime rfl hl (enter.trans (if_pos held)), exec_servedInTime rfl hl (leave.trans (if_pos held)),
        fun r number => ?_, fun other => exec_servedInTime rfl hl (clear.trans (if_pos fun free => ?_))⟩
      · exact configureActuator_notHolder hl (number ▸ hn) fun held => away (holdsPresent_iff.1 held.1 g hg)
      · have := (mayClear_iff hg).1 free
        rw [other] at this
        rcases this with same | same
        · exact absurd (Option.some.inj same) (by cases q.master <;> decide)
        · exact nomatch same
    · have held : holdsActuator q.master a s = true := (holdsActuator_iff hg).2 holder
      have free : mayClear q.master a s = true := (mayClear_iff hg).2 (.inl holder)
      have present : holdsPresent q.master a.cfg.group s = true := holdsPresent_iff.2 fun k same => by
        rwa [← Option.some.inj (hg.symm.trans same)]
      rw [if_neg (not_not.2 held)] at enter leave
      rw [if_neg (not_not.2 free)] at clear
      refine ⟨fun trip => ⟨exec_servedInTime rfl hl (enter.trans (if_pos trip)),
          exec_servedInTime rfl hl (clear.trans (if_pos trip))⟩, fun noTrip inService => ?_, fun noTrip healthy => ?_,
        fun busy => ?_, fun idle healthy other => ?_, fun pump proof noTrip => ?_, fun noTrip out named bad => ?_,
        fun r number kind away => ?_, fun r number new => ?_⟩
      · rw [noTrip, if_neg Bool.false_ne_true, if_pos inService] at enter
        exact exec_servedInTime rfl hl enter
      · rw [noTrip, if_neg Bool.false_ne_true, if_pos healthy] at clear
        exact exec_servedInTime rfl hl clear
      · exact exec_servedInTime rfl hl (leave.trans (if_pos fun idle => busy (groupIdle_iff.1 idle g hg)))
      · have stays : ¬ mayLeave a = true := by
          unfold mayLeave
          rcases other with ⟨kind, state⟩ | ⟨kind, state⟩ <;> rw [kind] <;> simp [healthy, state]
        have quiet : groupIdle a.cfg.group s = true := groupIdle_iff.2 fun k same => by
          rwa [← Option.some.inj (hg.symm.trans same)]
        rw [if_neg (not_not.2 quiet), if_pos stays] at leave
        exact exec_servedInTime rfl hl leave
      · have running := proofRunning_iff.2 proof
        refine ⟨fun out => ?_, fun faulted => ?_⟩
        · rw [noTrip, if_neg Bool.false_ne_true, if_neg (not_not.2 out), if_pos ⟨pump, running⟩] at enter
          exact exec_servedInTime rfl hl enter
        · rw [noTrip, if_neg Bool.false_ne_true, if_neg (not_not.2 faulted), if_pos ⟨pump, running⟩] at clear
          exact exec_servedInTime rfl hl clear
      · have absent : ¬ feedbackOk a = true := fun ok =>
          (feedbackOk_iff.1 ok).elim named fun ⟨f, given, status⟩ => bad f given status
        rw [noTrip, if_neg Bool.false_ne_true, if_neg (not_not.2 out), if_pos absent, ite_self] at enter
        exact exec_servedInTime rfl hl enter
      · exact configureActuator_notHolder hl (number ▸ hn) fun both => holdsNew_away kind away both.2
      · have hr : index? 16 r.number = .some n := number ▸ hn
        refine ⟨configureActuator_wrongState hl hr present (holdsNew_iff.2 new), fun out moved busy =>
          configureActuator_busy hl hr present (holdsNew_iff.2 new) out (fun same => moved (same.symm.trans hg)) ?_,
          fun out idle => configureActuator_outOfRange hl hr present (holdsNew_iff.2 new) out ?_⟩
        · rintro ⟨old, fresh⟩
          rcases busy with busy | ⟨h, named, busy⟩
          · exact busy (groupIdle_iff.1 old g hg)
          · exact busy (groupIdle_iff.1 fresh h named)
        · refine idle.imp (fun same => hg.trans same.symm) fun ⟨old, fresh⟩ =>
            ⟨groupIdle_iff.2 fun k same => ?_, groupIdle_iff.2 fresh⟩
          rwa [← Option.some.inj (hg.symm.trans same)]

end Sys2Proof
end

section
/-! SUPPORT. ACT's requests accepted: what each makes of the entry and of its channel (R5, R11, R12, R26). -/

namespace Sys2Proof.Machine

section
variable {q : Req} {n : ActId} {s : State}

/-! ### An entry replaced under a request -/

theorem onlyActuator_acceptFrame (n : ActId) (m : Master) (s : State) : OnlyActuator n s (acceptFrame m s) :=
  ⟨fun _ _ => ⟨by rw [acceptFrame_actuators], by rw [acceptFrame_outputs]⟩, acceptFrame_executors .., acceptFrame_slots ..,
    acceptFrame_profile .., acceptFrame_groupHolders .., acceptFrame_govHolder .., acceptFrame_captures ..,
    acceptFrame_governor .., acceptFrame_stations .., acceptFrame_receiver .., acceptFrame_ptrip .., acceptFrame_pending ..⟩

theorem putActuator_served (m : Master) (n : ActId) (b : Actuator) (s : State) :
    let t := putActuator n b (acceptFrame m s)
    t.actuators[n] = supervise b ∧ t.outputs[n] = outputFor b s.outputs[n] ∧ OnlyActuator n s t := by
  obtain ⟨entry, output⟩ := putActuator_self n b (acceptFrame m s)
  rw [acceptFrame_outputs] at output
  exact ⟨entry, output, (onlyActuator_acceptFrame n m s).trans (onlyActuator_putActuator ..)⟩

/-- The channel of an entry that rests in service: driven, inactive until the next period end where it was released (R150). -/
theorem outputFor_resting {b : Actuator} (rests : b.state = .stopped ∨ b.state = .holding) (o : OutputChannel) :
    (outputFor b o).condition = .driven ∧ (o.condition = .released → (outputFor b o).held = true) ∧
      (outputFor b o).runOutput = false := by
  have driven : releases b = false := by rcases rests with state | state <;> simp [releases, state]
  have off : runsOutput b = false := by rcases rests with state | state <;> simp [runsOutput, state]
  refine ⟨?_, fun released => ?_, off⟩
  · simp [outputFor, driven]
  · simp [outputFor, driven, released]

/-! ### SET SERVICE IN (R11) -/

theorem serviceEntry_frame (a : Actuator) :
    (serviceEntry a).fault = .none ∧ (serviceEntry a).furtherFault = false ∧ (serviceEntry a).accumulator = 0 ∧
      (serviceEntry a).cfg = a.cfg ∧ (serviceEntry a).deviationTimer = a.deviationTimer ∧
      (serviceEntry a).lostTimer = a.lostTimer := by
  unfold serviceEntry
  cases a.cfg.kind <;> exact ⟨rfl, rfl, rfl, rfl, rfl, rfl⟩

theorem serviceEntry_pump {a : Actuator} (pump : a.cfg.kind = .pump) :
    (serviceEntry a).state = .stopped ∧ (serviceEntry a).command = 0 := by
  unfold serviceEntry
  rw [pump]
  exact ⟨rfl, rfl⟩

theorem serviceEntry_valve {a : Actuator} (valve : a.cfg.kind = .valve) :
    (serviceEntry a).state = .holding ∧
      (∀ c f, a.cfg.feedback = some c → a.feedback = some f →
        (serviceEntry a).command = clampNat a.cfg.min a.cfg.max f.value) ∧
      (a.cfg.feedback = none → (serviceEntry a).command = a.cfg.min) := by
  unfold serviceEntry
  rw [valve]
  refine ⟨rfl, fun c f configured given => ?_, fun unconfigured => ?_⟩
  · simp only [configured, given]
  · simp only [unconfigured]

theorem setServiceIn_accepted {actuator : Byte} (hl : ListeningInTime q.master s) (hn : index? 16 actuator = some n)
    (some : s.actuators[n].cfg.kind ≠ .none) (held : holdsActuator q.master s.actuators[n] s = true)
    (noTrip : s.ptrip.asserted = false) (out : s.actuators[n].state = .outOfService)
    (still : s.actuators[n].cfg.kind = .pump → proofRunning s.actuators[n] s = false)
    (feedback : feedbackOk s.actuators[n] = true) :
    exec (.setServiceIn q actuator) s =
      .next (respond q 0x41 (putActuator n (serviceEntry s.actuators[n]) (acceptFrame q.master s), .ok [])) := by
  have quiet : ¬ (s.actuators[n].cfg.kind = .pump ∧ proofRunning s.actuators[n] s = true) := fun ⟨pump, running⟩ =>
    Bool.false_ne_true ((still pump).symm.trans running)
  refine exec_servedInTime rfl hl ?_
  rw [setServiceInOwner_eq hn, if_neg some, if_neg (not_not.2 held), noTrip, if_neg Bool.false_ne_true,
    if_neg (not_not.2 out), if_neg quiet, if_neg (not_not.2 feedback)]

/-- What a service entry leaves, the state and command that it gives left open. -/
theorem serviceEntry_seen {m : Master} {state : Service} {command : Nat}
    (atState : (serviceEntry s.actuators[n]).state = state) (atCommand : (serviceEntry s.actuators[n]).command = command)
    (rests : state = .stopped ∨ state = .holding) :
    let t := putActuator n (serviceEntry s.actuators[n]) (acceptFrame m s)
    t.actuators[n].state = state ∧ t.actuators[n].command = command ∧ t.actuators[n].fault = .none ∧
      t.actuators[n].furtherFault = false ∧ t.actuators[n].accumulator = 0 ∧ t.actuators[n].cfg = s.actuators[n].cfg ∧
      t.outputs[n].condition = .driven ∧ (s.outputs[n].condition = .released → t.outputs[n].held = true) ∧
      t.outputs[n].pendingDuty = dutyOf command (nextPeriod s.outputs[n]) ∧ t.outputs[n].runOutput = false ∧
      Supervised s.actuators[n] t.actuators[n] ∧ OnlyActuator n s t := by
  intro t
  obtain ⟨entry, output, only⟩ := putActuator_served m n (serviceEntry s.actuators[n]) s
  obtain ⟨fault, further, accumulator, cfg, deviation, lost⟩ := serviceEntry_frame s.actuators[n]
  obtain ⟨driven, held, off⟩ := outputFor_resting (atState ▸ rests) s.outputs[n]
  rw [entry, output, supervise_state, supervise_command, supervise_fault, supervise_furtherFault, supervise_accumulator,
    supervise_cfg]
  exact ⟨atState, atCommand, fault, further, accumulator, cfg, driven, held, congrArg (dutyOf · _) atCommand, off,
    supervised_supervise deviation lost, only⟩

/-! ### SET SERVICE OUT (R12) -/

theorem supervise_serviceExit (a : Actuator) : supervise (serviceExit a) = serviceExit a := by
  unfold supervise
  split <;> rfl

theorem setServiceOut_accepted {actuator : Byte} (hl : ListeningInTime q.master s) (hn : index? 16 actuator = some n)
    (some : s.actuators[n].cfg.kind ≠ .none) (held : holdsActuator q.master s.actuators[n] s = true)
    (idle : groupIdle s.actuators[n].cfg.group s = true) (leaves : mayLeave s.actuators[n] = true) :
    exec (.setServiceOut q actuator) s =
      .next (respond q 0x42 (putActuator n (serviceExit s.actuators[n]) (acceptFrame q.master s), .ok [])) := by
  refine exec_servedInTime rfl hl ?_
  rw [setServiceOutOwner_eq hn, if_neg some, if_neg (not_not.2 held), if_neg (not_not.2 idle), if_neg (not_not.2 leaves)]

/-! ### CLEAR FAULT (R26) -/

theorem clearedEntry_frame (a : Actuator) :
    (clearedEntry a).ramp = none ∧ (clearedEntry a).fault = .none ∧ (clearedEntry a).furtherFault = false ∧
      (clearedEntry a).commandAtFault = a.commandAtFault ∧ (clearedEntry a).cfg = a.cfg ∧
      (clearedEntry a).deviationTimer = a.deviationTimer ∧ (clearedEntry a).lostTimer = a.lostTimer := by
  unfold clearedEntry
  cases a.cfg.kind <;> exact ⟨rfl, rfl, rfl, rfl, rfl, rfl, rfl⟩

theorem clearedEntry_pump {a : Actuator} (pump : a.cfg.kind = .pump) :
    (clearedEntry a).state = .stopped ∧ (clearedEntry a).command = 0 := by
  unfold clearedEntry
  rw [pump]
  exact ⟨rfl, rfl⟩

theorem clearedEntry_valve {a : Actuator} (valve : a.cfg.kind = .valve) :
    (clearedEntry a).state = .holding ∧
      (clearedEntry a).command = clampNat a.cfg.min a.cfg.max
        (if a.cfg.feedback.isSome = true ∧ a.feedback.map Feedback.status = some .ok then
          (a.feedback.map Feedback.value).getD 0
        else a.command) := by
  unfold clearedEntry
  rw [valve]
  refine ⟨rfl, congrArg (clampNat a.cfg.min a.cfg.max) ?_⟩
  cases a.cfg.feedback <;> cases a.feedback <;> simp

theorem clearFault_accepted {actuator : Byte} (hl : ListeningInTime q.master s) (hn : index? 16 actuator = some n)
    (free : mayClear q.master s.actuators[n] s = true) (noTrip : s.ptrip.asserted = false)
    (faulted : s.actuators[n].state = .faulted)
    (still : s.actuators[n].cfg.kind = .pump → proofRunning s.actuators[n] s = false) :
    exec (.clearFault q actuator) s =
      .next (respond q 0x43 (putActuator n (clearedEntry s.actuators[n]) (acceptFrame q.master s), .ok [])) := by
  have quiet : ¬ (s.actuators[n].cfg.kind = .pump ∧ proofRunning s.actuators[n] s = true) := fun ⟨pump, running⟩ =>
    Bool.false_ne_true ((still pump).symm.trans running)
  refine exec_servedInTime rfl hl ?_
  rw [clearFaultOwner_eq hn, if_neg (not_not.2 free), noTrip, if_neg Bool.false_ne_true, if_neg (not_not.2 faulted),
    if_neg quiet]

/-- What a cleared fault leaves, the state and command that it gives left open. -/
theorem clearedEntry_seen {m : Master} {state : Service} {command : Nat}
    (atState : (clearedEntry s.actuators[n]).state = state) (atCommand : (clearedEntry s.actuators[n]).command = command)
    (rests : state = .stopped ∨ state = .holding) :
    let t := putActuator n (clearedEntry s.actuators[n]) (acceptFrame m s)
    t.actuators[n].state = state ∧ t.actuators[n].command = command ∧ t.actuators[n].ramp = none ∧
      t.actuators[n].fault = .none ∧ t.actuators[n].furtherFault = false ∧
      t.actuators[n].commandAtFault = s.actuators[n].commandAtFault ∧ t.actuators[n].cfg = s.actuators[n].cfg ∧
      t.outputs[n].condition = .driven ∧ (s.outputs[n].condition = .released → t.outputs[n].held = true) ∧
      t.outputs[n].runOutput = false ∧ Supervised s.actuators[n] t.actuators[n] ∧ OnlyActuator n s t := by
  intro t
  obtain ⟨entry, output, only⟩ := putActuator_served m n (clearedEntry s.actuators[n]) s
  obtain ⟨ramp, fault, further, atFault, cfg, deviation, lost⟩ := clearedEntry_frame s.actuators[n]
  obtain ⟨driven, held, off⟩ := outputFor_resting (atState ▸ rests) s.outputs[n]
  rw [entry, output, supervise_state, supervise_command, supervise_ramp, supervise_fault, supervise_furtherFault,
    supervise_commandAtFault, supervise_cfg]
  exact ⟨atState, atCommand, ramp, fault, further, atFault, cfg, driven, held, off, supervised_supervise deviation lost, only⟩

end

theorem proofRunning_still {a : Actuator} {s : State}
    (h : ∀ d, a.cfg.proofInput = some d → s.inputs[d].filtered = false) : proofRunning a s = false :=
  Bool.eq_false_iff.2 fun running =>
    let ⟨d, named, level⟩ := proofRunning_iff.1 running
    Bool.false_ne_true ((h d named).symm.trans level)

/-! ### CONFIGURE ACTUATOR (R4, R5) -/

/-- The entry of an actuator as a configuration writes it (R5). -/
def configuredEntry (n : ActId) (w : ActWrite) (s : State) : Actuator :=
  { s.actuators[n] with cfg := w.cfg, feedback := configuredFeedback w.cfg s }

/-- A channel with the period and polarity that a configuration writes (R44). -/
def configuredChannel (w : ActWrite) (o : OutputChannel) : OutputChannel :=
  { o with pendingPeriod := some w.period, polarity := w.polarity }

theorem onlyActuator_putOutput (n : ActId) (o : OutputChannel) (s : State) :
    OnlyActuator n s { s with outputs := put s.outputs n o } :=
  ⟨fun _ other => ⟨rfl, put_other _ other _⟩, rfl, rfl, rfl, rfl, rfl, rfl, rfl, rfl, rfl, rfl, rfl⟩

theorem configure_self (n : ActId) (w : ActWrite) (s : State) :
    (configure n w s).actuators[n] = supervise (configuredEntry n w s) ∧
      (configure n w s).outputs[n] = outputFor (configuredEntry n w s) (configuredChannel w s.outputs[n]) ∧
      OnlyActuator n s (configure n w s) := by
  obtain ⟨entry, output⟩ := putActuator_self n (configuredEntry n w s)
    { s with outputs := put s.outputs n (configuredChannel w s.outputs[n]) }
  exact ⟨entry, output.trans (congrArg (outputFor _) (put_self ..)),
    (onlyActuator_putOutput ..).trans (onlyActuator_putActuator ..)⟩

theorem configuredEntry_acceptFrame (n : ActId) (w : ActWrite) (m : Master) (s : State) :
    configuredEntry n w (acceptFrame m s) = configuredEntry n w s := by
  unfold configuredEntry configuredFeedback
  rw [acceptFrame_actuators, acceptFrame_captures]

end Sys2Proof.Machine

namespace Sys2Proof
open Machine

/-- Settles O25: each request accepted replaces the entry, and entry and channel are read off what it replaces it by. -/
theorem serviceEntryExitAndClearFault : Obligations.ServiceEntryExitAndClearFault := by
  unfold Obligations.ServiceEntryExitAndClearFault
  refine ⟨?_, ?_⟩
  · intro q actuator n g s hl hn hg holder noTrip out a ok entered
    have held : holdsActuator q.master a s = true := (holdsActuator_iff hg).2 holder
    have feedback : feedbackOk a = true := feedbackOk_iff.2 ok
    refine ⟨fun pump still => ?_, fun valve => ?_⟩
    · obtain ⟨state, command⟩ := serviceEntry_pump pump
      exact ⟨_, setServiceIn_accepted hl hn (by rw [pump]; decide) held noTrip out (fun _ => proofRunning_still still) feedback,
        serviceEntry_seen state command (.inl rfl)⟩
    · obtain ⟨state, given, minimum⟩ := serviceEntry_valve valve
      have accepted := setServiceIn_accepted hl hn (by rw [valve]; decide) held noTrip out
        (fun pump => absurd (valve.symm.trans pump) (by decide)) feedback
      exact ⟨fun c f named value => ⟨_, accepted, serviceEntry_seen state (given c f named value) (.inr rfl)⟩,
        fun unnamed => ⟨_, accepted, serviceEntry_seen state (minimum unnamed) (.inr rfl)⟩⟩
  · intro q actuator n g s hl hn hg a
    refine ⟨fun holder idle rests => ?_, fun holder noTrip faulted => ?_⟩
    · obtain ⟨entry, output, only⟩ := putActuator_served q.master n (serviceExit a) s
      have some : a.cfg.kind ≠ .none := by rcases rests with ⟨kind, -⟩ | ⟨kind, -⟩ <;> rw [kind] <;> decide
      have leaves : mayLeave a = true := by
        unfold mayLeave
        rcases rests with ⟨kind, state | state⟩ | ⟨kind, state | state⟩ <;> rw [kind, state] <;> rfl
      refine ⟨_, setServiceOut_accepted hl hn some ((holdsActuator_iff hg).2 holder)
        (groupIdle_iff.2 fun k same => by rwa [← Option.some.inj (hg.symm.trans same)]) leaves, ?_⟩
      rw [entry, output, supervise_serviceExit]
      exact ⟨rfl, rfl, rfl, rfl, only⟩
    · intro cleared
      have free : mayClear q.master a s = true := (mayClear_iff hg).2 holder
      refine ⟨fun pump still => ?_, fun valve => ?_⟩
      · obtain ⟨state, command⟩ := clearedEntry_pump pump
        exact ⟨_, clearFault_accepted hl hn free noTrip faulted fun _ => proofRunning_still still,
          clearedEntry_seen state command (.inl rfl)⟩
      · obtain ⟨state, command⟩ := clearedEntry_valve valve
        exact ⟨_, clearFault_accepted hl hn free noTrip faulted fun pump => absurd (valve.symm.trans pump) (by decide),
          clearedEntry_seen state command (.inr rfl)⟩

/-- Settles O23: past its checks the request replaces record, period and polarity, and the supervision of an entry out of
service leaves the rest. -/
theorem configureActuatorAccepted : Obligations.ConfigureActuatorAccepted := by
  unfold Obligations.ConfigureActuatorAccepted
  intro q r n w s hl hn present new out idle record
  refine ⟨?_, fun none => ?_⟩
  · obtain ⟨entry, output, only⟩ := configure_self n w (acceptFrame q.master s)
    rw [configuredEntry_acceptFrame] at entry output
    rw [acceptFrame_outputs] at output
    have accepted := configureActuatorOwner_checked (k := q.master) hn (holdsPresent_iff.2 present) (holdsNew_iff.2 new) out
      (idle.imp_right fun both => ⟨groupIdle_iff.2 fun g old => both g (.inl old),
        groupIdle_iff.2 fun g fresh => both g (.inr fresh)⟩)
    rw [record] at accepted
    refine ⟨_, exec_servedInTime rfl hl accepted, ?_⟩
    rw [entry, output, supervise_cfg, supervise_state, supervise_command, supervise_feedback]
    refine ⟨rfl, out, rfl, ?_, rfl, rfl, rfl, rfl, ?_, (onlyActuator_acceptFrame ..).trans only⟩
    · exact congrArg (fun f => w.cfg.feedback.map f) (funext fun f => feedbackFrom_eq _)
    · have released : releases (configuredEntry n w s) = true := by
        unfold releases configuredEntry
        rw [out]
        rfl
      exact if_pos released
  · unfold actWrite? at record
    rw [none] at record
    exact (Option.some.inj record).symm

end Sys2Proof
end

section
/-! SUPPORT. Records written and read back: each field that a read has taken is taken again from the byte that carries it
(R183, R189, R190). -/

namespace Sys2Proof.Machine

/-! ### Fields -/

theorem index?_carried {n : Nat} (h : n ≤ 255) {b : Byte} {k : Fin n} (carried : b = indexByte (some k)) :
    index? n b = some k := carried ▸ index?_indexByte h k

theorem indexByte_ne_absent {n : Nat} (h : n ≤ 255) (k : Fin n) : indexByte (some k) ≠ 255 := fun same => by
  have := index?_indexByte h k
  rw [same, index?_eq_some] at this
  have : (255 : Byte).toNat = 255 := rfl
  omega

theorem optionalIndex?_carried {n : Nat} (h : n ≤ 255) {b : Byte} {k : Option (Fin n)} (carried : b = indexByte k) :
    optionalIndex? n b = some k := by
  unfold optionalIndex?
  subst carried
  cases k with
  | none => rfl
  | some k => rw [if_neg (indexByte_ne_absent h k), index?_indexByte h]; rfl

theorem link?_carried {b : Byte} {k : Option SlotId} (carried : b = indexByte k) : link? b = some k :=
  optionalIndex?_carried (by decide) carried

theorem flag?_carried {b : Byte} {l : Bool} (carried : b = flagByte l) : flag? b = some l := by
  subst carried
  cases l <;> rfl

/-- A two-byte field is the number whose bytes it carries. -/
theorem toNat_of_byte2 {v : Half} {k : Nat} (small : k < 65536) (carried : byte2 v.toNat = byte2 k) : v.toNat = k := by
  have := v.isLt
  obtain ⟨high, low⟩ :
      BitVec.ofNat 8 (v.toNat / 256) = BitVec.ofNat 8 (k / 256) ∧ BitVec.ofNat 8 v.toNat = BitVec.ofNat 8 k := by
    simpa [byte2] using carried
  have high := congrArg BitVec.toNat high
  have low := congrArg BitVec.toNat low
  rw [BitVec.toNat_ofNat, BitVec.toNat_ofNat] at high low
  omega

theorem range?_bounds {lo hi n k : Nat} (read : range? lo hi n = some k) : lo ≤ k ∧ k ≤ hi := by
  obtain ⟨bounds, rfl⟩ := range?_eq_some.1 read
  exact bounds

theorem range?_byte2 {lo hi k : Nat} {v : Half} (small : hi < 65536) (bounds : lo ≤ k ∧ k ≤ hi)
    (carried : byte2 v.toNat = byte2 k) : range? lo hi v.toNat = some k := by
  have same := toNat_of_byte2 (by omega) carried
  exact range?_eq_some.2 ⟨same.symm ▸ bounds, same⟩

theorem range?_byte {lo hi k : Nat} {b : Byte} (small : hi < 256) (bounds : lo ≤ k ∧ k ≤ hi)
    (carried : b = BitVec.ofNat 8 k) : range? lo hi b.toNat = some k := by
  have same : b.toNat = k := by
    rw [carried, BitVec.toNat_ofNat]
    omega
  exact range?_eq_some.2 ⟨same.symm ▸ bounds, same⟩

/-! ### The descriptor record (R189) -/

/-- The second field of an op that a read has taken: in its range, and 0 where a pair replaces it. -/
def SecondFits (pair : Bool) : Op → Prop
  | .move _ rate _ => rate ≤ 10000 ∧ (pair = true → rate = 0)
  | .awaitInput _ _ t | .awaitMeas _ _ t => 1 ≤ t ∧ t ≤ 3600
  | _ => True

theorem secondFits_of_op? {r : RawDescriptor} {pair : Bool} {op : Op} (read : op? r pair = some op) : SecondFits pair op := by
  unfold op? at read
  split at read
  · simp only [Option.bind_eq_some_iff] at read
    obtain ⟨a, -, w, -, read⟩ := read
    split at read
    next paired => cases read; exact ⟨Nat.zero_le _, fun _ => rfl⟩
    next single =>
      obtain ⟨rate, bounds, rfl⟩ := Option.map_eq_some_iff.1 read
      exact ⟨(range?_bounds bounds).2, fun paired => absurd paired single⟩
  · obtain ⟨a, -, rfl⟩ := Option.map_eq_some_iff.1 read; trivial
  · obtain ⟨a, -, rfl⟩ := Option.map_eq_some_iff.1 read; trivial
  · obtain ⟨a, -, rfl⟩ := Option.map_eq_some_iff.1 read; trivial
  · cases read; trivial
  · simp only [Option.bind_eq_some_iff, Option.map_eq_some_iff] at read
    obtain ⟨d, -, l, -, t, bounds, rfl⟩ := read
    exact range?_bounds bounds
  · simp only [Option.bind_eq_some_iff, Option.map_eq_some_iff] at read
    obtain ⟨c, -, l, -, t, bounds, rfl⟩ := read
    exact range?_bounds bounds
  · simp only [Option.bind_eq_some_iff, Option.map_eq_some_iff] at read
    obtain ⟨c, -, l, -, rfl⟩ := read
    trivial
  · cases read

/-- The fields of a record are those that the bytes of a descriptor carry. -/
structure DescriptorCarried (r : RawDescriptor) (d : Descriptor) : Prop where
  op : [r.op, r.subject, r.qualifier] = opBytes d.op
  operand : [r.mode, r.operandHigh, r.operandLow] = operandBytes d.operand
  pair : r.pair = flagByte d.pair
  second : byte2 r.second.toNat = byte2 d.op.second
  wait : r.wait = flagByte d.op.waits
  onFail : r.onFail = onFailByte d.onFail
  next : r.next = indexByte d.next
  alt : r.alt = indexByte (altOf d.onFail)

theorem descriptorCarried_of_bytes {r : RawDescriptor} {d : Descriptor} (bytes : rawDescriptorBytes r = descriptorBytes d) :
    DescriptorCarried r d := by
  have split : [r.op, r.subject, r.qualifier] ++ [r.mode, r.operandHigh, r.operandLow] ++ [r.pair] ++ byte2 r.second.toNat ++
      [r.wait, r.onFail, r.next, r.alt] = descriptorBytes d := bytes
  obtain ⟨rest, links⟩ := List.append_inj' split rfl
  obtain ⟨rest, second⟩ := List.append_inj' rest rfl
  obtain ⟨rest, pair⟩ := List.append_inj' rest rfl
  obtain ⟨op, operand⟩ := List.append_inj' rest (by cases d.operand <;> rfl)
  simp only [List.cons.injEq, and_true] at links pair
  obtain ⟨wait, onFail, next, alt⟩ := links
  exact ⟨op, operand, pair, second, wait, onFail, next, alt⟩

theorem op?_carried {r : RawDescriptor} {pair : Bool} {op : Op} (fits : SecondFits pair op)
    (bytes : [r.op, r.subject, r.qualifier] = opBytes op) (second : byte2 r.second.toNat = byte2 op.second)
    (wait : r.wait = flagByte op.waits) : op? r pair = some op := by
  unfold op?
  cases op with
  | move a rate w =>
    simp only [opBytes, List.cons.injEq, and_true] at bytes
    obtain ⟨code, subject, -⟩ := bytes
    rw [code]
    change ((index? 16 r.subject).bind fun a => _) = _
    rw [index?_carried (by decide) subject, flag?_carried wait]
    obtain ⟨bound, single⟩ := fits
    cases pair with
    | true => rw [single rfl]; rfl
    | false => rw [range?_byte2 (by decide) ⟨Nat.zero_le _, bound⟩ second]; rfl
  | start a | stop a | follow a =>
    simp only [opBytes, List.cons.injEq, and_true] at bytes
    obtain ⟨code, subject, -⟩ := bytes
    rw [code]
    change (index? 16 r.subject).map _ = _
    rw [index?_carried (by decide) subject]
    rfl
  | dwell =>
    simp only [opBytes, List.cons.injEq, and_true] at bytes
    obtain ⟨code, -, -⟩ := bytes
    rw [code]
    rfl
  | awaitInput d l t =>
    simp only [opBytes, List.cons.injEq, and_true] at bytes
    obtain ⟨code, subject, qualifier⟩ := bytes
    rw [code]
    change ((index? 24 r.subject).bind fun d => _) = _
    rw [index?_carried (by decide) subject, flag?_carried qualifier, range?_byte2 (by decide) fits second]
    rfl
  | awaitMeas c rel t =>
    simp only [opBytes, List.cons.injEq, and_true] at bytes
    obtain ⟨code, subject, qualifier⟩ := bytes
    rw [code]
    change ((index? 16 r.subject).bind fun c => _) = _
    rw [index?_carried (by decide) subject, flag?_carried (l := decide (rel = .below)) (by rw [qualifier]; cases rel <;> rfl),
      range?_byte2 (by decide) fits second]
    cases rel <;> rfl
  | cursor c a =>
    simp only [opBytes, List.cons.injEq, and_true] at bytes
    obtain ⟨code, subject, qualifier⟩ := bytes
    rw [code, subject]
    change (Option.bind _ fun c => (flag? r.qualifier).map _) = _
    rw [flag?_carried (l := decide (a = .add)) (by rw [qualifier]; cases a <;> rfl)]
    cases c <;> cases a <;> rfl

theorem base?_baseByte (b : BaseCursor) : base? (baseByte b) = some b := by cases b <;> rfl

theorem displacement?_displacementByte (d : BitVec 6) : displacement? (displacementByte d) = some d := by
  revert d
  decide

theorem operand?_carried {mode high low : Byte} {x : Operand} (bytes : [mode, high, low] = operandBytes x) :
    operand? mode high low = some x := by
  unfold operand?
  cases x with
  | imm v =>
    simp only [operandBytes, byte2, List.cons.injEq, and_true] at bytes
    obtain ⟨rfl, rfl, rfl⟩ := bytes
    exact congrArg (fun v => some (Operand.imm v)) (join2_byte2 v)
  | row k =>
    simp only [operandBytes, List.cons.injEq, and_true] at bytes
    obtain ⟨rfl, rfl, low⟩ := bytes
    exact congrArg (Option.map Operand.row) (index?_carried (by decide) low)
  | idx b d | idxu b d =>
    simp only [operandBytes, List.cons.injEq, and_true] at bytes
    obtain ⟨rfl, rfl, rfl⟩ := bytes
    rw [base?_baseByte, displacement?_displacementByte]
    rfl

theorem onFail?_carried {b alt : Byte} {f : OnFail} (byte : b = onFailByte f) (link : alt = indexByte (altOf f)) :
    onFail? b alt = some f := by
  unfold onFail?
  subst byte
  cases f with
  | branch k => exact congrArg (Option.map OnFail.branch) (link?_carried link)
  | _ => rfl

theorem descriptor?_carried {r r' : RawDescriptor} {d : Descriptor} (read : descriptor? r = some d)
    (carried : DescriptorCarried r' d) : descriptor? r' = some d := by
  have fits : SecondFits d.pair d.op := by
    simp only [descriptor?, Option.bind_eq_some_iff, Option.map_eq_some_iff] at read
    obtain ⟨pair, -, op, read, operand, -, onFail, -, next, -, rfl⟩ := read
    exact secondFits_of_op? read
  unfold descriptor?
  rw [flag?_carried carried.pair, Option.bind_some, op?_carried fits carried.op carried.second carried.wait, Option.bind_some,
    operand?_carried carried.operand, Option.bind_some, onFail?_carried carried.onFail carried.alt, Option.bind_some,
    link?_carried carried.next]
  rfl

/-! ### Actuator records (R190) -/

/-- The fields of a record that a PUMP and a VALVE share are those that the bytes of a configuration carry. -/
structure CommonCarried (r : RawActuator) (c : ActConfig) : Prop where
  group : r.group = indexByte c.group
  min : byte2 r.min.toNat = byte2 c.min
  max : byte2 r.max.toNat = byte2 c.max
  maxRate : byte2 r.maxRate.toNat = byte2 c.maxRate
  defaultRate : byte2 r.defaultRate.toNat = byte2 c.defaultRate
  tripScope : r.tripScope = flagByte (c.tripScope == .group)
  permissive : r.permissiveInput = indexByte (c.permissive.map Permissive.input)
  sense : r.permissiveSense = senseByte c.permissive
  feedback : r.feedbackChannel = indexByte (c.feedback.map FeedbackConfig.channel)
  tolerance : byte2 r.tolerance.toNat = byte2 ((c.feedback.map FeedbackConfig.tolerance).getD 0xFFFF)
  time : r.deviationTime = BitVec.ofNat 8 ((c.feedback.map FeedbackConfig.time).getD 0)

/-- The fields of a record are those that the bytes of a configuration carry. -/
structure ActCarried (r : RawActuator) (c : ActConfig) (o : OutputChannel) : Prop extends CommonCarried r c where
  kind : r.kind = kindByte c.kind
  period : byte2 r.period.toNat = byte2 (nextPeriod o)
  polarity : r.polarity = polarityByte o.polarity
  proofInput : r.proofInput = indexByte c.proofInput
  proofTimeout : r.proofTimeout = BitVec.ofNat 8 (c.proofTimeout.getD 0)
  safeAction : r.safeAction = safeActionByte c.safeAction
  safeValue : byte2 r.safeValue.toNat = byte2 (c.safeValue.getD 0xFFFF)

theorem actCarried_of_bytes {r : RawActuator} {n : ActId} {c : ActConfig} {o : OutputChannel}
    (bytes : rawActuatorBytes r = configBytes n c o) : ActCarried r c o := by
  unfold configBytes rawActuatorBytes halfBytes at bytes
  obtain ⟨bytes, time⟩ := List.append_inj' bytes rfl
  obtain ⟨bytes, tolerance⟩ := List.append_inj' bytes rfl
  obtain ⟨bytes, links⟩ := List.append_inj' bytes rfl
  obtain ⟨bytes, safeValue⟩ := List.append_inj' bytes rfl
  rw [List.append_assoc _ (byte1 _), List.append_assoc _ _ (byte1 _ ++ _)] at bytes
  obtain ⟨bytes, own⟩ := List.append_inj' bytes rfl
  obtain ⟨bytes, period⟩ := List.append_inj' bytes rfl
  obtain ⟨bytes, defaultRate⟩ := List.append_inj' bytes rfl
  obtain ⟨bytes, maxRate⟩ := List.append_inj' bytes rfl
  obtain ⟨bytes, max⟩ := List.append_inj' bytes rfl
  obtain ⟨bytes, min⟩ := List.append_inj' bytes rfl
  simp only [byte1, List.cons_append, List.nil_append, List.cons.injEq, and_true] at bytes own links time
  obtain ⟨-, kind, group⟩ := bytes
  obtain ⟨polarity, proofInput, proofTimeout, safeAction⟩ := own
  obtain ⟨scope, permissive, sense, feedback⟩ := links
  exact ⟨⟨group, min, max, maxRate, defaultRate, scope, permissive, sense, feedback,
    tolerance.trans (by cases c.feedback <;> rfl), time.trans (by cases c.feedback <;> rfl)⟩,
    kind, period, polarity, proofInput, proofTimeout, safeAction, safeValue⟩

/-- The bounds that a read of a feedback has taken (R3, R4). -/
theorem feedback?_bounds {channel time : Byte} {tolerance : Half} {f : FeedbackConfig}
    (read : feedback? channel tolerance time = some (some f)) : f.tolerance ≤ 2000 ∧ 1 ≤ f.time ∧ f.time ≤ 255 := by
  obtain ⟨i, -, read⟩ := Option.bind_eq_some_iff.1 read
  cases i with
  | none => cases read
  | some c =>
    simp only [Option.bind_eq_some_iff, Option.map_eq_some_iff] at read
    obtain ⟨tol, tolerance, t, time, same⟩ := read
    cases same
    exact ⟨(range?_bounds tolerance).2, range?_bounds time⟩

theorem feedback?_carried {channel time channel' time' : Byte} {tolerance tolerance' : Half} {f : Option FeedbackConfig}
    (read : feedback? channel tolerance time = some f) (atChannel : channel' = indexByte (f.map FeedbackConfig.channel))
    (atTolerance : byte2 tolerance'.toNat = byte2 ((f.map FeedbackConfig.tolerance).getD 0xFFFF))
    (atTime : time' = BitVec.ofNat 8 ((f.map FeedbackConfig.time).getD 0)) :
    feedback? channel' tolerance' time' = some f := by
  unfold feedback?
  rw [optionalIndex?_carried (by decide) atChannel, Option.bind_some]
  cases f with
  | none => rfl
  | some f =>
    obtain ⟨tol, time⟩ := feedback?_bounds read
    change ((range? 0 2000 tolerance'.toNat).bind fun _ => _) = _
    rw [range?_byte2 (by decide) ⟨Nat.zero_le _, tol⟩ atTolerance, Option.bind_some, range?_byte (by decide) time atTime]
    rfl

theorem permissive?_carried {input sense : Byte} {p : Option Permissive} (atInput : input = indexByte (p.map Permissive.input))
    (atSense : sense = senseByte p) : permissive? input sense = some p := by
  unfold permissive?
  rw [optionalIndex?_carried (by decide) atInput, Option.bind_some]
  cases p with
  | none => rfl
  | some p =>
    change (flag? sense).map _ = _
    rw [flag?_carried atSense]
    rfl

theorem commonConfig?_kind {kind : Kind} {r : RawActuator} {c : ActConfig} (read : commonConfig? kind r = some c) :
    c.kind = kind := by
  simp only [commonConfig?, Option.bind_eq_some_iff] at read
  obtain ⟨_, -, _, -, _, -, _, -, _, -, _, -, _, -, _, -, read⟩ := read
  split at read
  · cases read; rfl
  · cases read

theorem commonConfig?_carried {kind : Kind} {r r' : RawActuator} {c : ActConfig} (read : commonConfig? kind r = some c)
    (carried : CommonCarried r' c) : commonConfig? kind r' = some c := by
  simp only [commonConfig?, Option.bind_eq_some_iff] at read
  obtain ⟨group, -, min, hmin, max, hmax, rate, hrate, default, hdefault, scope, -, permissive, -, feedback, hfeedback, read⟩ :=
    read
  split at read
  next ordered =>
    cases read
    unfold commonConfig?
    rw [index?_carried (by decide) carried.group, Option.bind_some, range?_byte2 (by decide) (range?_bounds hmin) carried.min,
      Option.bind_some, range?_byte2 (by decide) (range?_bounds hmax) carried.max, Option.bind_some,
      range?_byte2 (by decide) (range?_bounds hrate) carried.maxRate, Option.bind_some,
      range?_byte2 (by decide) (range?_bounds hdefault) carried.defaultRate, Option.bind_some,
      flag?_carried (l := scope) (carried.tripScope.trans (by cases scope <;> rfl)), Option.bind_some,
      permissive?_carried carried.permissive carried.sense, Option.bind_some,
      feedback?_carried hfeedback carried.feedback carried.tolerance carried.time, Option.bind_some, if_pos ordered]
  next => cases read

theorem safeAction?_safeActionByte (a : SafeAction) : safeAction? (safeActionByte (some a)) = some a := by
  cases a <;> rfl

theorem safeValue?_carried {a : SafeAction} {min max : Nat} {v v' : Half} {x : Option Nat}
    (read : safeValue? a min max v = some x) (carried : byte2 v'.toNat = byte2 (x.getD 0xFFFF)) :
    safeValue? a min max v' = some x := by
  unfold safeValue? at read ⊢
  cases a with
  | go =>
    obtain ⟨k, bounds, read⟩ := Option.bind_eq_some_iff.1 read
    split at read
    next small =>
      cases read
      have same : v'.toNat = k := toNat_of_byte2 (by omega) carried
      change ((range? min max v'.toNat).bind fun _ => _) = _
      rw [range?_eq_some.2 ⟨same.symm ▸ range?_bounds bounds, same⟩, Option.bind_some, if_pos small]
    next => cases read
  | hold | release =>
    change (if v = 0xFFFF then _ else _) = _ at read
    change (if v' = 0xFFFF then _ else _) = _
    split at read
    next absent =>
      cases read
      exact if_pos (BitVec.eq_of_toNat_eq (toNat_of_byte2 (by decide) carried))
    next =>
      obtain ⟨k, bounds, rfl⟩ := Option.map_eq_some_iff.1 read
      have small := range?_bounds bounds
      have same : v'.toNat = k := toNat_of_byte2 (by omega) carried
      rw [if_neg, range?_byte2 (by decide) small carried]
      · rfl
      · rintro rfl
        change 65535 = k at same
        omega

theorem polarity?_carried {b : Byte} {p : Polarity} (carried : b = polarityByte p) : polarity? b = some p := by
  subst carried
  cases p <;> rfl

/-- The configuration and its channel as a CONFIGURE ACTUATOR has written them, read back (R190). -/
theorem actWrite?_carried {r r' : RawActuator} {w : ActWrite} {o : OutputChannel} (read : actWrite? r = some w)
    (carried : ActCarried r' w.cfg { o with pendingPeriod := some w.period, polarity := w.polarity }) :
    actWrite? r' = some w := by
  obtain ⟨⟨group, min, max, rate, default, scope, permissive, sense, feedback, tolerance, time⟩, kind, period, polarity,
    proofInput, proofTimeout, safeAction, safeValue⟩ := carried
  unfold actWrite? at read ⊢
  split at read
  · cases read
    rw [kind]
    rfl
  · simp only [Option.bind_eq_some_iff, Option.map_eq_some_iff] at read
    obtain ⟨c, pump, p, hp, l, -, rfl⟩ := read
    simp only [pumpConfig?, Option.bind_eq_some_iff, Option.map_eq_some_iff] at pump
    obtain ⟨c, common, d, -, t, ht, rfl⟩ := pump
    rw [kind, show kindByte _ = kindByte .pump from congrArg kindByte (commonConfig?_kind common)]
    change ((pumpConfig? r').bind fun _ => _) = _
    unfold pumpConfig?
    rw [commonConfig?_carried common ⟨group, min, max, rate, default, scope, permissive, sense, feedback, tolerance, time⟩,
      Option.bind_some, index?_carried (by decide) proofInput, Option.bind_some,
      range?_byte (by decide) (range?_bounds ht) proofTimeout, Option.map_some, Option.bind_some,
      range?_byte2 (by decide) (range?_bounds hp) period, Option.bind_some, polarity?_carried polarity]
    rfl
  · simp only [Option.bind_eq_some_iff, Option.map_eq_some_iff] at read
    obtain ⟨c, valve, p, hp, l, -, rfl⟩ := read
    simp only [valveConfig?, Option.bind_eq_some_iff, Option.map_eq_some_iff] at valve
    obtain ⟨c, common, a, -, v, hv, rfl⟩ := valve
    rw [kind, show kindByte _ = kindByte .valve from congrArg kindByte (commonConfig?_kind common)]
    change ((valveConfig? r').bind fun _ => _) = _
    unfold valveConfig?
    rw [commonConfig?_carried common ⟨group, min, max, rate, default, scope, permissive, sense, feedback, tolerance, time⟩,
      Option.bind_some, safeAction, safeAction?_safeActionByte, Option.bind_some, safeValue?_carried hv safeValue,
      Option.map_some, Option.bind_some,
      range?_byte2 (by decide) (range?_bounds hp) period, Option.bind_some, polarity?_carried polarity]
    rfl
  · cases read

end Sys2Proof.Machine

namespace Sys2Proof
open Machine

/-- Settles O24: the bytes of a stored record carry its fields, and each field is taken again as it was. -/
theorem recordsReadBackAsStored : Obligations.RecordsReadBackAsStored :=
  ⟨fun _ _ _ read bytes => descriptor?_carried read (descriptorCarried_of_bytes bytes),
    fun _ _ _ _ _ read bytes => actWrite?_carried read (actCarried_of_bytes bytes)⟩

end Sys2Proof
end
